-- ==== Sys2Proof/Word.lean ====
section
/-! DEFINITION. The bit-vector types the manual treats as bits: bytes, 16-bit samples and 32-bit bus words (R1, R199, R200). -/

namespace Sys2Proof

/-- One byte of memory (R199). -/
abbrev Byte := BitVec 8

/-- A 16-bit field or sample (R199, R200). -/
abbrev Half16 := BitVec 16

/-- A 32-bit word of an upstream access (R1). -/
abbrev Word := BitVec 32

/-- A frame slot number, 0 to 7 (R62). -/
abbrev SlotId := Fin 8

/-- An event counter index, 0 to 13, in mask order (R180). -/
abbrev CounterId := Fin 14

end Sys2Proof
end

