-- ==== Sys2Proof/Config.lean ====
section
/-! DEFINITION. The constants the manual fixes for every FX-640, and the two values the model chooses (the byte an
unwritten memory address reads as, and the straps of the reset state). The manual leaves no value of an operation
open, so this file holds no opaque constant. -/

namespace Sys2Proof

/-- What an address of memory that nothing has written reads as.
DESIGN CHOICE, unsafe (notes/assumptions/2.md): R186 leaves memory undefined after a power-on reset. -/
abbrev Config.unlistedByte : Byte := 0

/-- Memory size S in the reset state: both SIZE straps low, 64 MiB (R184).
DESIGN CHOICE, unsafe (notes/assumptions/3.md): the straps are board wiring. -/
abbrev Config.resetSize : Nat := 0x04000000

/-- Bytes in the bulletin (R19). -/
abbrev Config.bulletinBytes : Nat := 4096

/-- The same number where it is taken away from S: a `def`, so that no reduction counts the difference down one by one. -/
def Config.bulletinLength : Nat := 4096

/-- First address of the INTAKE zone (R3). -/
abbrev Config.intakeBase : Nat := 0x20000000

/-- First address of the VIEW zone (R3). -/
abbrev Config.viewBase : Nat := 0x30000000

/-- Bytes in one view window, 32 MiB (R14). -/
abbrev Config.windowBytes : Nat := 0x02000000

/-- Most spans the span table holds (R105). -/
abbrev Config.spanCap : Nat := 4096

/-- Most open blemishes (R110). -/
abbrev Config.openCap : Nat := 64

/-- Highest position in a row at which a run is tracked (R111). -/
abbrev Config.trackedCap : Nat := 256

/-- Most entries the holding queue holds (R152). -/
abbrev Config.queueCap : Nat := 32

/-- Most reports the staging queue holds (R170). -/
abbrev Config.stagingCap : Nat := 8

/-- The counter value whose crossing stages a COUNTERS report (R181). -/
abbrev Config.counterMark : Nat := 49152

/-- Upstream grants after which a passed-over writer is promoted (R193). -/
abbrev Config.passOverLimit : Nat := 32

/-- Greatest refresh debt (R187). -/
abbrev Config.debtLimit : Nat := 8

/-- Debt from which refresh asks urgently (R188). -/
abbrev Config.debtUrgent : Nat := 6

/-- Clock ticks in one microsecond: the model's tick is 0.1 µs (notes/assumptions/4.md). -/
abbrev Config.ticksPerMicro : Nat := 10

/-- The refresh interval of 7.8 µs in ticks (R187). -/
abbrev Config.refreshTicks : Nat := 78

/-- The last serial the tracker gives (R117). -/
abbrev Config.lastSerial : Nat := 4294967295

end Sys2Proof
end

