-- ==== Sys2Proof/Syntax.lean ====
section
/-! DEFINITION. The commands of the block: one constructor per row of spec/opcode_table.json. The rows are the part's
steps, each whole and indivisible. Only two carry operands from outside: the release of RESET_N (the two SIZE strap
levels it samples, R184) and the presentation of an upstream access (R1). Every other row acts on what the state
already holds: the word in service, the posted record in the bulletin shadow, the operation on the downstream port. -/

namespace Sys2Proof

/-- One word of a write access: its data and its four byte enables, enable k for byte k (R1). -/
structure Beat where
  data    : Word
  enables : BitVec 4
  deriving DecidableEq, Repr

/-- What the controller presents at the upstream port (R1): the byte address of the first word, the direction, and
the word count of a read or the words of a write. -/
inductive UpstreamReq where
  | read  (addr : BitVec 30) (count : Nat)
  | write (addr : BitVec 30) (beats : List Beat)
  deriving DecidableEq, Repr

/-- The commands, in the order of spec/opcode_table.json. -/
inductive Instr where
  | resetNAssert
  | resetNRelease (size1 size0 : Bool)
  | sdramStartupEnd
  | upstreamAccess (req : UpstreamReq)
  | grantDecision
  | accessComplete
  | plainWrite
  | plainRead
  | bulletinWrite
  | takenCountWrite
  | watchedWordWrite
  | unbackedAccess
  | intakeWrite
  | intakeRead
  | viewRead
  | viewWrite
  | locateEnd
  | rowClassificationEnd
  | frameEndComplete
  | unknownCommand
  | setPlan
  | setPlanRing
  | openStrip
  | beginSurvey
  | relocate
  | setFramePlan
  | setFrameRelease
  | beginCapture
  | endPass
  | closeStrip
  | setColumns
  | chain
  | chainDetach
  | probeSpan
  | publishCounters
  | clearFault
  | restart
  | descriptorLoad
  | rejectedClose
  | recordWrite
  | descriptorClose
  | reportWriterGrant
  | coalescingTimerExpiry
  | refreshTimerExpiry
  | refreshOperation
  deriving DecidableEq, Repr

end Sys2Proof
end

