-- ==== Sys2Proof/WellFormed.lean ====
section
/-! DEFINITION. Which terms of the syntax are commands of the part: an upstream access has 1 to 8 words (R1). -/

namespace Sys2Proof

/-- The number of words of an access. -/
def UpstreamReq.wordCount : UpstreamReq → Nat
  | .read _ n => n
  | .write _ bs => bs.length

/-- An upstream access is a read or a write of 1 to 8 words (R1). -/
def UpstreamReq.wellFormed (r : UpstreamReq) : Bool :=
  decide (1 ≤ r.wordCount) && decide (r.wordCount ≤ 8)

/-- Only UPSTREAM_ACCESS has an operand that could be outside its range. -/
def Instr.wellFormed : Instr → Bool
  | .upstreamAccess req => req.wellFormed
  | .resetNAssert | .resetNRelease _ _ | .sdramStartupEnd | .grantDecision | .accessComplete
  | .plainWrite | .plainRead | .bulletinWrite | .takenCountWrite | .watchedWordWrite
  | .unbackedAccess | .intakeWrite | .intakeRead | .viewRead | .viewWrite
  | .locateEnd | .rowClassificationEnd | .frameEndComplete | .unknownCommand
  | .setPlan | .setPlanRing | .openStrip | .beginSurvey | .relocate | .setFramePlan
  | .setFrameRelease | .beginCapture | .endPass | .closeStrip | .setColumns | .chain
  | .chainDetach | .probeSpan | .publishCounters | .clearFault | .restart
  | .descriptorLoad | .rejectedClose | .recordWrite | .descriptorClose | .reportWriterGrant
  | .coalescingTimerExpiry | .refreshTimerExpiry | .refreshOperation => true

end Sys2Proof
end

