-- ==== Sys2Proof/Machine/State.lean ====
section
/-! DEFINITION. Everything the manual gives the part to hold, block by block (00_scope.md, "Block overview": each block
owns its state), with the power-on reset values each chapter states. State is plain data. Unbounded numbers of the
manual (rows, columns, addresses, areas) are naturals; what the manual wraps or reads as bits is a bit vector. -/

namespace Sys2Proof.Machine

/-! ## Names -/

/-- The pass state (03, the table before R37; codes in R201). -/
inductive PassState where
  | stripClosed | stripOpen | surveying | locating | planned | capturing | draining
  deriving DecidableEq, Repr

/-- The List Writer's state (R154; codes in R201). -/
inductive WriterState where
  | unchained | loading | filling | stalled
  deriving DecidableEq, Repr

/-- A frame's cleanup state (R84); `opaqueFilm` is OPAQUE. -/
inductive CleanupState where
  | full | denseOnly | off | opaqueFilm
  deriving DecidableEq, Repr

/-- A frame slot's state (R62). -/
inductive SlotState where
  | vacant | planned | active | captured | held
  deriving DecidableEq, Repr

/-- The kinds of fault (R15; codes in R215). -/
inductive FaultKind where
  | unbacked | intakeIdle | viewVacant | descriptorRejected
  deriving DecidableEq, Repr

/-- The direction a fault records (R15; codes in R215). -/
inductive FaultDirection where
  | read | write | command
  deriving DecidableEq, Repr

/-- The attention mode (R28; codes in R206). -/
inductive AttentionMode where
  | take | read
  deriving DecidableEq, Repr

/-- The state of one half of the IR row buffer (R55). -/
inductive HalfState where
  | empty | filling | waiting | classifying
  deriving DecidableEq, Repr

/-- The byte order of intake samples (R37, R43). -/
inductive SampleOrder where
  | little | big
  deriving DecidableEq, Repr

/-- Where RESET_N and the SDRAM start-up stand (R185, R186). -/
inductive RunPhase where
  | inReset | startup | running
  deriving DecidableEq, Repr

/-- The outcome an ACK carries (R23; codes in R212). -/
inductive AckOutcome where
  | done | accepted | refusedBusy | refusedState | refusedMalformed
  deriving DecidableEq, Repr

/-- What planned a slot (R78). -/
inductive PlanOrigin where
  | locate | setFrame
  deriving DecidableEq, Repr

/-! ## Memory -/

/-- Memory: the listed cells, addresses strictly rising, none equal to what an unlisted address reads as
(`Memory.wf`, Machine/Ops.lean). The bulletin shadow has the same form over offsets 0x000 to 0x0FF. -/
abbrev Memory := List Host.Cell

/-! ## Path Decoder and the upstream port -/

/-- The fault capture record (R15, R18). -/
structure FaultRecord where
  locked    : Bool
  kind      : FaultKind
  address   : Word
  direction : FaultDirection
  position  : Nat
  passState : PassState
  slot      : Option SlotId
  deriving DecidableEq, Repr

/-- The power-on values of the fault capture record (R18). -/
def FaultRecord.powerOn : FaultRecord :=
  ⟨false, .unbacked, 0, .read, 0, .stripClosed, none⟩

/-! ## Command Unit -/

/-- The standing settings (R28; the ring base and slot count are two of them, R168). -/
structure Settings where
  ringBase      : Nat
  slotCount     : Nat
  attentionMode : AttentionMode
  coalesceCount : Nat
  coalesceTime  : Nat
  countMask     : BitVec 14
  tDense        : Nat
  tFaint        : Nat
  wMax          : Nat
  minArea       : Nat
  irFloor       : Nat
  burst         : Nat
  urgent        : Nat
  deriving DecidableEq, Repr

/-- The defaults after power-on (R28, R183). -/
def Settings.powerOn : Settings :=
  ⟨0, 0, .take, 1, 0, 0, 128, 230, 32, 1, 4096, 4, 24⟩

/-- The strip-scoped overrides, each optional (R29). -/
structure Overrides where
  tDense  : Option Nat
  tFaint  : Option Nat
  wMax    : Option Nat
  minArea : Option Nat
  irFloor : Option Nat
  deriving DecidableEq, Repr

/-- No override (R29). -/
def Overrides.none : Overrides := ⟨.none, .none, .none, .none, .none⟩

/-- The Command Unit: the bulletin shadow (R20, cells at offsets 0x000 to 0x0FF, zero where unlisted), the standing
settings, the overrides, the column mend list (R32) and the kind of a posted word whose command is still to be
taken (R21, R22). -/
structure CommandUnit where
  shadow    : Memory
  standing  : Settings
  overrides : Overrides
  columns   : List Nat
  posted    : Option Byte
  deriving DecidableEq, Repr

/-! ## Intake Unit -/

/-- The locate parameters (R66, R79). -/
structure LocateParams where
  gapTolerance : Nat
  minGap       : Nat
  frameLength  : Nat
  nominalGap   : Nat
  inset        : Nat
  deriving DecidableEq, Repr

/-- The strip record carried by OPEN_STRIP, less its overrides (R37). -/
structure StripRecord where
  sampleOrder    : SampleOrder
  surveyWidth    : Nat
  surveyPitch    : Nat
  surveyRows     : Nat
  surveyBase     : Nat
  captureWidth   : Nat
  capturePitch   : Nat
  captureRows    : Nat
  kc             : Nat
  ks             : Nat
  filmLeft       : Nat
  filmRight      : Nat
  dx             : Int
  defaultCleanup : CleanupState
  bandAreaBase   : Nat
  bandStride     : Nat
  bandLines      : Nat
  bandPitch      : Nat
  params         : LocateParams
  deriving DecidableEq, Repr

/-- The pending word 0 (R44): its pixel, whether it was full, and its word after any byte swap (the G sample that R45
adds to a survey row's sum when the pixel settles; notes/assumptions/8.md). -/
structure PendingWord where
  row  : Nat
  col  : Nat
  full : Bool
  word : Word
  deriving DecidableEq, Repr

/-- The row tracker (R46): the current row, its settled count and completion mark; whether the row's first routed word
has been stored (R55, R57); and the open survey row's two sums (R50). -/
structure RowTracker where
  current  : Option Nat
  settled  : Nat
  complete : Bool
  begun    : Bool
  gSum     : Nat
  iSum     : Nat
  deriving DecidableEq, Repr

/-- The tracker at the beginning of a pass and after a reset (R46, R61). -/
def RowTracker.initial : RowTracker := ⟨none, 0, false, false, 0, 0⟩

/-- One half of the IR row buffer (R55): its state, the capture row and slot it holds, the entries of that row
(columns 0 to width − 1) and the torn count. An EMPTY half lists no entry (notes/assumptions/9.md). -/
structure IrHalf where
  state   : HalfState
  row     : Nat
  slot    : SlotId
  entries : List Nat
  torn    : Nat
  deriving DecidableEq, Repr

/-- An EMPTY half (R61). -/
def IrHalf.vacant : IrHalf := ⟨.empty, 0, 0, [], 0⟩

/-- The Intake Unit (R61). -/
structure IntakeUnit where
  pass       : PassState
  strip      : Option StripRecord
  pairing    : Option PendingWord
  tracker    : RowTracker
  halfA      : IrHalf
  halfB      : IrHalf
  startQueue : List SlotId
  deriving DecidableEq, Repr

/-- The Intake Unit after a reset (R61). -/
def IntakeUnit.powerOn : IntakeUnit :=
  ⟨.stripClosed, none, none, .initial, .vacant, .vacant, []⟩

/-! ## Frame Locator -/

/-- One record of the frame slot table (R62). -/
structure Slot where
  state        : SlotState
  generation   : Half16
  top          : Nat
  bottom       : Nat
  left         : Nat
  right        : Nat
  bandBase     : Nat
  bandLines    : Nat
  bandPitch    : Nat
  clearLevel   : Nat
  cleanup      : CleanupState
  dx           : Int
  newest       : Option Nat
  classified   : Nat
  partialFrame : Bool
  splitFrame   : Bool
  cut          : Bool
  deriving DecidableEq, Repr

/-- The vacant values (R62). -/
def Slot.vacantValues : Slot :=
  ⟨.vacant, 0, 0, 0, 0, 0, 0, 0, 0, 0, .off, 0, none, 0, false, false, false⟩

/-- One entry of the survey profile (R50, R65). -/
structure ProfileEntry where
  mean : Nat
  ir   : Nat
  deriving DecidableEq, Repr

/-- The plan an entry of the plan area describes (R78). -/
structure PlanBody where
  origin       : PlanOrigin
  generation   : Half16
  top          : Nat
  bottom       : Nat
  left         : Nat
  right        : Nat
  bandBase     : Nat
  bandLines    : Nat
  bandPitch    : Nat
  clearLevel   : Nat
  cleanup      : CleanupState
  partialFrame : Bool
  splitFrame   : Bool
  survey       : Option (Nat × Nat)
  deriving DecidableEq, Repr

/-- A plan area entry: occupancy NONE or PLANNED (R78). -/
inductive PlanEntry where
  | none
  | planned (b : PlanBody)
  deriving DecidableEq, Repr

/-- The inputs a locate operation takes when it begins (R66). -/
structure LocateInputs where
  profile : List ProfileEntry
  params  : LocateParams
  strip   : StripRecord
  irFloor : Nat
  deriving DecidableEq, Repr

/-- The Frame Locator (R62, R39, R65, R66, R77, R83). -/
structure FrameLocator where
  slots       : Vector Slot 8
  generation  : Half16
  profile     : List ProfileEntry
  params      : Option LocateParams
  planPending : Vector (Option PlanEntry) 8
  locating    : Option LocateInputs
  deriving DecidableEq, Repr

/-- The Frame Locator after a reset (R83). -/
def FrameLocator.powerOn : FrameLocator :=
  ⟨Vector.replicate 8 .vacantValues, 0, [], none, Vector.replicate 8 none, none⟩

/-! ## Blemish Tracker and span table -/

/-- A span (R105): slot, row, first column, last column (`stop` is the manual's end) and the wide mark. -/
structure Span where
  slot  : SlotId
  row   : Nat
  start : Nat
  stop  : Nat
  wide  : Bool
  deriving DecidableEq, Repr

/-- One wide run of a blemish (R110, R216). -/
structure WideRun where
  row   : Nat
  start : Nat
  stop  : Nat
  deriving DecidableEq, Repr

/-- An entry of the open blemish table (R110). `key` is the model's own name for the entry, by which the run lists
refer to it (notes/assumptions/10.md). -/
structure OpenBlemish where
  key        : Nat
  firstRow   : Nat
  lastRow    : Nat
  left       : Nat
  right      : Nat
  area       : Nat
  rows       : Nat
  widest     : Nat
  mergeCount : Nat
  wide       : Bool
  partialRec : Bool
  edge       : Bool
  wideRuns   : List WideRun
  deriving DecidableEq, Repr

/-- A tracked run and the open blemish it belongs to (R111). -/
structure TrackedRun where
  start : Nat
  stop  : Nat
  key   : Nat
  deriving DecidableEq, Repr

/-- The tally of the ACTIVE frame (R99, R122). -/
structure Tally where
  rows       : Nat
  torn       : Nat
  closed     : Nat
  listed     : Nat
  unlisted   : Nat
  spans      : Nat
  overflows  : Nat
  untracked  : Nat
  deriving DecidableEq, Repr

/-- The tally at zero (R99, R100). -/
def Tally.zero : Tally := ⟨0, 0, 0, 0, 0, 0, 0, 0⟩

/-- A row classification in flight with the inputs it took when it began (R92). -/
structure Classification where
  slot       : SlotId
  row        : Nat
  values     : List Nat
  torn       : Nat
  clearLevel : Nat
  dx         : Int
  width      : Nat
  left       : Nat
  cleanup    : CleanupState
  tDense     : Nat
  tFaint     : Nat
  wMax       : Nat
  minArea    : Nat
  columns    : List Nat
  deriving DecidableEq, Repr

/-- A frame end operation in flight (R119): its slot and whether it runs with CUT. -/
structure FrameEnd where
  slot : SlotId
  cut  : Bool
  deriving DecidableEq, Repr

/-- The Blemish Tracker and the span table (R100, R125). `nextSerial` is none once serial 4,294,967,295 has been
given (R117). -/
structure BlemishTracker where
  spans          : List Span
  openTable      : List OpenBlemish
  previous       : List TrackedRun
  nextKey        : Nat
  nextSerial     : Option Nat
  tally          : Tally
  classifying    : Option Classification
  frameEnd       : Option FrameEnd
  restartPending : Bool
  closePending   : Bool
  deriving DecidableEq, Repr

/-- The Blemish Tracker after a reset (R100, R125). -/
def BlemishTracker.powerOn : BlemishTracker :=
  ⟨[], [], [], 0, some 1, .zero, none, none, false, false⟩

/-! ## List Writer -/

/-- A blemish record (R118, R216). -/
structure BlemishRecord where
  serial     : Nat
  slot       : SlotId
  generation : Half16
  firstRow   : Nat
  lastRow    : Nat
  left       : Nat
  right      : Nat
  area       : Nat
  rows       : Nat
  widest     : Nat
  mergeCount : Nat
  wide       : Bool
  cut        : Bool
  partialRec : Bool
  edge       : Bool
  wideRuns   : List WideRun
  deriving DecidableEq, Repr

/-- An entry of the holding queue (R152). -/
inductive QueueEntry where
  | record (r : BlemishRecord)
  | marker (slot : SlotId)
  deriving DecidableEq, Repr

/-- The copies LW keeps of a loaded descriptor (R153). -/
structure DescriptorCopy where
  next     : Nat
  buffer   : Nat
  capacity : Nat
  deriving DecidableEq, Repr

/-- The List Writer (R152, R154, R166). `current` is absent exactly in UNCHAINED; `copy` is present after a load. -/
structure ListWriter where
  queue         : List QueueEntry
  state         : WriterState
  current       : Option Nat
  copy          : Option DescriptorCopy
  filled        : Nat
  firstSerial   : Option Nat
  lastSerial    : Option Nat
  rejectPending : Bool
  deriving DecidableEq, Repr

/-- The List Writer after a reset (R166). -/
def ListWriter.powerOn : ListWriter :=
  ⟨[], .unchained, none, none, 0, none, none, false⟩

/-! ## Report Unit -/

/-- The contents of a PLAN report (R76, R213). -/
structure PlanReport where
  overfull   : Bool
  noImage    : Bool
  generation : Half16
  rows       : Nat
  base       : Nat
  placed     : Nat
  slotsMade  : List SlotId
  slivers    : Nat
  noSlot     : Nat
  deriving DecidableEq, Repr

/-- The contents of a FRAME_SUMMARY report (R123, R214). -/
structure FrameSummary where
  slot       : SlotId
  cleanup    : CleanupState
  cut        : Bool
  generation : Half16
  clearLevel : Nat
  tally      : Tally
  deriving DecidableEq, Repr

/-- A report with its contents complete (R170, R211 to R215). A COUNTERS report of cause PUBLISH names no counter. -/
inductive Report where
  | ack (kind : Byte) (outcome : AckOutcome) (pass : PassState) (faultLocked : Bool) (detail : Word)
  | plan (p : PlanReport)
  | frameSummary (f : FrameSummary)
  | listStall (address value : Nat)
  | fault (r : FaultRecord)
  | counters (cause : Option CounterId) (values : Vector Half16 14) (mask : BitVec 14)
  deriving DecidableEq, Repr

/-- The Report Unit (R168, R170 to R183). `attention` is set while ATTN_N is asserted; `timer` is the coalescing timer,
none while stopped, else the ticks it has run. -/
structure ReportUnit where
  staging    : List Report
  lost       : Bool
  produced   : Word
  taken      : Word
  ackThrough : Word
  newest     : Option Nat
  attention  : Bool
  timer      : Option Nat
  counters   : Vector Half16 14
  deriving DecidableEq, Repr

/-- The Report Unit after power-on reset (R183). -/
def ReportUnit.powerOn : ReportUnit :=
  ⟨[], false, 0, 0, 0, none, false, none, Vector.replicate 14 0⟩

/-! ## Memory Controller -/

/-- One List Writer operation, as chosen at its grant (R164). -/
inductive ListOp where
  | load
  | rejectedClose
  | recordWrite (r : BlemishRecord)
  | closeFull
  | closeFrameEnd (slot : SlotId)
  deriving DecidableEq, Repr

/-- The operation holding the downstream port (R189), with what its owner chose at the grant: for the report writer
the plan entries pending as the grant began and whether it carries a report (R171). -/
inductive PortOp where
  | upstream
  | report (entries : List (SlotId × PlanEntry)) (withReport : Bool)
  | list (op : ListOp)
  | refresh
  deriving DecidableEq, Repr

/-- The Memory Controller (R184, R185, R187, R189, R193, R198). `refreshTimer` is none while stopped, else the ticks
since the last expiry. -/
structure MemoryController where
  size         : Nat
  phase        : RunPhase
  refreshTimer : Option Nat
  debt         : Nat
  port         : Option PortOp
  passedReport : Nat
  passedList   : Nat
  promoReport  : Bool
  promoList    : Bool
  deriving DecidableEq, Repr

/-- The Memory Controller after power-on reset with memory size `size`: the start-up running (R198). -/
def MemoryController.powerOn (size : Nat) : MemoryController :=
  ⟨size, .startup, none, 0, none, 0, 0, false, false⟩

/-! ## The access at the upstream port -/

/-- What keeps an access from its service, in turn (R6), and the service itself. -/
inductive AccessPhase where
  | startupHeld | rowHeld | asking | serving
  deriving DecidableEq, Repr

/-- A block that a served write is still to be handed to, in the order of R5's table. -/
inductive HandOver where
  | listWriter | commandUnit | reportUnit
  deriving DecidableEq, Repr

/-- What the service of an access takes as it stands at the grant (R4, R127). -/
structure AccessView where
  pass    : PassState
  strip   : Option StripRecord
  slots   : Vector Slot 8
  tDense  : Nat
  tFaint  : Nat
  columns : List Nat
  spans   : List Span
  deriving DecidableEq, Repr

/-- A pixel's computed samples (R126). -/
structure Pixel where
  r : Nat
  g : Nat
  b : Nat
  i : Nat
  deriving DecidableEq, Repr

/-- The last computation of an access, kept for the pixel's other word (R126). -/
structure Computation where
  slot   : SlotId
  line   : Nat
  column : Nat
  pixel  : Pixel
  deriving DecidableEq, Repr

/-- The access held at the upstream port (R2, R6): what was presented, its phase, the number of words served, the data
read so far, the hand-overs of the last served word not yet acted on, the once-per-access marks of R15, R47 and R12,
the view fixed at the grant and the last computation. -/
structure Access where
  req         : UpstreamReq
  phase       : AccessPhase
  served      : Nat
  data        : List Word
  handed      : List HandOver
  faulted     : Bool
  lateCounted : Bool
  overCounted : Bool
  view        : AccessView
  computation : Option Computation
  deriving DecidableEq, Repr

/-- A completion signalled with the ready handshake (R2): for a read, the words returned in burst position order. -/
structure Completion where
  isRead : Bool
  data   : List Word
  deriving DecidableEq, Repr

/-! ## The machine -/

/-- The whole part. `completion` is the last completion signalled at the upstream port, absent from the presentation
of an access until its completion. `pending` is the queue of commands waiting, first in, first out. -/
structure State where
  fault      : FaultRecord
  upstream   : Option Access
  completion : Option Completion
  cu         : CommandUnit
  iu         : IntakeUnit
  fl         : FrameLocator
  bt         : BlemishTracker
  lw         : ListWriter
  ru         : ReportUnit
  mc         : MemoryController
  mem        : Memory
  pending    : List Instr
  deriving DecidableEq, Repr

/-- Why the machine would stop with a fault: never. Every fault the manual names is a step of the part (R15: the fault
capture record is filled and a FAULT report staged), and the port has no error response (R2). -/
inductive Fault where
  deriving DecidableEq, Repr

/-- Why a command is refused. -/
inductive Refusal where
  /-- Raised by an arm of exec whose command has no meaning yet; safe. No arm raises it. -/
  | notModelled (mnemonic : String)
  /-- Raised by UPSTREAM_ACCESS on a term that is no access, its word count outside 1 to 8 (R1); safe. -/
  | burstLength
  deriving DecidableEq, Repr

/-- The power-on values of every block for memory size `size` (R18, R20, R28, R32, R61, R83, R100, R125, R166, R183,
R198), with memory as a power-on leaves it (R186: not defined; notes/assumptions/2.md) and the queue kept. -/
def State.powerOn (size : Nat) (pending : List Instr) : State where
  fault := .powerOn
  upstream := none
  completion := none
  cu := ⟨[], .powerOn, .none, [], none⟩
  iu := .powerOn
  fl := .powerOn
  bt := .powerOn
  lw := .powerOn
  ru := .powerOn
  mc := .powerOn size
  mem := []
  pending := pending

/-- Right after RESET_N is released, both straps low (notes/assumptions/3.md): the SDRAM start-up running. -/
def State.reset : State := State.powerOn Config.resetSize []

end Sys2Proof.Machine
end

