-- ==== Sys2Proof/Machine/Ops.lean ====
section
/-! DEFINITION. The named operations over bytes, words and memory: little-endian fields (R199), byte enables (R1, R8),
pixel words (R200), and memory in its canonical form. -/

namespace Sys2Proof.Machine

/-! ## Memory -/

/-- The byte memory holds at an address; an unlisted address reads as `Config.unlistedByte`. -/
def Memory.read : Memory → Nat → Byte
  | [], _ => Config.unlistedByte
  | c :: rest, a => if c.1 = a then c.2 else Memory.read rest a

/-- Places a cell before the first cell of a higher address. -/
def Memory.insert (c : Host.Cell) : Memory → Memory
  | [] => [c]
  | d :: rest => if c.1 < d.1 then c :: d :: rest else d :: Memory.insert c rest

/-- Writes one byte, keeping the canonical form: the value an unlisted address reads as is not listed. -/
def Memory.write (m : Memory) (a : Nat) (b : Byte) : Memory :=
  let others := m.filter (fun c => decide (c.1 ≠ a))
  if b = Config.unlistedByte then others else Memory.insert (a, b) others

/-- Writes bytes at consecutive addresses. -/
def Memory.writeBytes (m : Memory) (a : Nat) : List Byte → Memory
  | [] => m
  | b :: bs => Memory.writeBytes (Memory.write m a b) (a + 1) bs

/-- Every listed address is above `lo`, addresses rise strictly, and no listed byte is the unlisted one. -/
def Memory.risingFrom : Nat → Memory → Bool
  | _, [] => true
  | lo, c :: rest => decide (lo ≤ c.1) && decide (c.2 ≠ Config.unlistedByte) && Memory.risingFrom (c.1 + 1) rest

/-- The canonical form of memory. -/
def Memory.wf (m : Memory) : Bool := Memory.risingFrom 0 m

/-! ## Bytes and words -/

/-- The low byte of a number. -/
def byteOf (n : Nat) : Byte := BitVec.ofNat 8 n

/-- A 16-bit field, low byte first (R199). -/
def le16 (n : Nat) : List Byte := [byteOf n, byteOf (n / 256)]

/-- A 32-bit field, low byte first (R199). -/
def le32 (n : Nat) : List Byte := [byteOf n, byteOf (n / 256), byteOf (n / 65536), byteOf (n / 16777216)]

/-- A value saturated at a field's greatest (R218). -/
def saturate (limit n : Nat) : Nat := min n limit

/-- A flag as the number 0 or 1. -/
def bit (b : Bool) : Nat := if b then 1 else 0

/-- Byte k of a word, byte 0 the least significant (R199). -/
def Word.byte (w : Word) (k : Nat) : Byte := BitVec.ofNat 8 (w.toNat / 256 ^ k)

/-- A word from its bytes, byte 0 first (R199). -/
def wordOf (b0 b1 b2 b3 : Byte) : Word :=
  BitVec.ofNat 32 (b0.toNat + 256 * b1.toNat + 65536 * b2.toNat + 16777216 * b3.toNat)

/-- The sample in bytes 0 and 1 of a pixel word: R of word 0, B of word 1 (R200). -/
def Word.lowSample (w : Word) : Nat := w.toNat % 65536

/-- The sample in bytes 2 and 3 of a pixel word: G of word 0, I of word 1 (R200). -/
def Word.highSample (w : Word) : Nat := w.toNat / 65536

/-- A pixel word from its two samples (R200). -/
def samplesWord (low high : Nat) : Word := BitVec.ofNat 32 (low + 65536 * high)

/-- The word memory holds at an address (R199). -/
def Memory.readWord (m : Memory) (a : Nat) : Word :=
  wordOf (m.read a) (m.read (a + 1)) (m.read (a + 2)) (m.read (a + 3))

/-- A 16-bit field read from cells (R199). -/
def Memory.read16 (m : Memory) (a : Nat) : Nat := (m.read a).toNat + 256 * (m.read (a + 1)).toNat

/-- A 32-bit field read from cells (R199). -/
def Memory.read32 (m : Memory) (a : Nat) : Nat :=
  (m.read a).toNat + 256 * (m.read (a + 1)).toNat + 65536 * (m.read (a + 2)).toNat
    + 16777216 * (m.read (a + 3)).toNat

/-- One enabled byte of a beat reaches memory; a byte whose enable is clear leaves its cell as it was (R1, R8). -/
def Memory.writeEnabled (m : Memory) (a : Nat) (b : Beat) (k : Nat) : Memory :=
  if b.enables.getLsbD k then m.write (a + k) (Word.byte b.data k) else m

/-- A write of one word with its byte enables (R7, R8). -/
def Memory.writeBeat (m : Memory) (a : Nat) (b : Beat) : Memory :=
  (((m.writeEnabled a b 0).writeEnabled a b 1).writeEnabled a b 2).writeEnabled a b 3

/-- The bulletin's first address, S − 4096 (R19). -/
def bulletinBase (size : Nat) : Nat := size - Config.bulletinLength

/-! ## Lists in order -/

/-- Inserts a number into an ascending list, keeping equal values once (R32). -/
def insertOnce (n : Nat) : List Nat → List Nat
  | [] => [n]
  | m :: rest => if n < m then n :: m :: rest else if n = m then m :: rest else m :: insertOnce n rest

/-- An ascending list of the distinct values of a list (R32). -/
def sortOnce : List Nat → List Nat
  | [] => []
  | n :: rest => insertOnce n (sortOnce rest)

/-- The greatest of a list of numbers, 0 for the empty list. -/
def greatest : List Nat → Nat
  | [] => 0
  | n :: rest => max n (greatest rest)

/-- All slot numbers in ascending order. -/
def allSlots : List SlotId := [0, 1, 2, 3, 4, 5, 6, 7]

/-- All counter indices in mask order (R180). -/
def allCounters : List CounterId := [0, 1, 2, 3, 4, 5, 6, 7, 8, 9, 10, 11, 12, 13]

end Sys2Proof.Machine

namespace Sys2Proof

/-- A full word has all four enables set; any other is partial (R1). -/
def Beat.isFull (b : Beat) : Bool := b.enables == 0xF#4

/-- The byte swap of sample order BIG: bytes 0, 1, 2 and 3 become bytes 1, 0, 3 and 2, enables moving with their
bytes (R43). -/
def Beat.swapSamples (b : Beat) : Beat where
  data := Machine.wordOf (Machine.Word.byte b.data 1) (Machine.Word.byte b.data 0) (Machine.Word.byte b.data 3)
    (Machine.Word.byte b.data 2)
  enables := BitVec.ofNat 4
    (Machine.bit (b.enables.getLsbD 1) + 2 * Machine.bit (b.enables.getLsbD 0) + 4 * Machine.bit (b.enables.getLsbD 3)
      + 8 * Machine.bit (b.enables.getLsbD 2))

end Sys2Proof
end

