-- ==== Sys2Proof/Machine/Formats.lean ====
section
/-! DEFINITION. The layouts of 11_formats.md: what the part writes (reports, status block, plan entries, blemish
records, descriptor closes), byte for byte, every byte that carries no field zero (R218). -/

namespace Sys2Proof.Machine

/-- Pass state codes (R201). -/
def PassState.code : PassState → Nat
  | .stripClosed => 0 | .stripOpen => 1 | .surveying => 2 | .locating => 3
  | .planned => 4 | .capturing => 5 | .draining => 6

/-- Writer state codes (R201). -/
def WriterState.code : WriterState → Nat
  | .unchained => 0 | .loading => 1 | .filling => 2 | .stalled => 3

/-- Cleanup state codes (R201). -/
def CleanupState.code : CleanupState → Nat
  | .full => 0 | .denseOnly => 1 | .off => 2 | .opaqueFilm => 3

/-- The cleanup state a code names (R201). -/
def CleanupState.ofCode : Nat → CleanupState
  | 0 => .full | 1 => .denseOnly | 2 => .off | _ => .opaqueFilm

/-- A slot field, 0xFF when absent (R201). -/
def slotByte : Option SlotId → Byte
  | some v => byteOf v.val
  | none => 0xFF

/-- Outcome codes (R212). -/
def AckOutcome.code : AckOutcome → Nat
  | .done => 1 | .accepted => 2 | .refusedBusy => 3 | .refusedState => 4 | .refusedMalformed => 5

/-- Fault kind codes (R215). -/
def FaultKind.code : FaultKind → Nat
  | .unbacked => 1 | .intakeIdle => 2 | .viewVacant => 3 | .descriptorRejected => 4

/-- Fault direction codes (R215). -/
def FaultDirection.code : FaultDirection → Nat
  | .read => 0 | .write => 1 | .command => 2

/-- The report kind in header bits 0 to 6 (R211). -/
def Report.kindCode : Report → Nat
  | .ack .. => 1 | .plan _ => 2 | .frameSummary _ => 3 | .listStall .. => 4 | .fault _ => 5 | .counters .. => 6

/-- The set of slots a PLAN report carries, bit v for slot v (R213). -/
def slotMask (vs : List SlotId) : Nat :=
  (allSlots.map fun v => if vs.contains v then 2 ^ v.val else 0).sum

/-- Bytes 1 to 31 of a report (R212 to R215). A COUNTERS report of cause PUBLISH names no counter, and has 0 in the bits that
would name it: DEDUCED, notes/assumptions/35.md. -/
def Report.body : Report → List Byte
  | .ack kind outcome pass locked detail =>
      [kind, byteOf outcome.code, byteOf pass.code, byteOf (bit locked), 0, 0, 0] ++ le32 detail.toNat
        ++ List.replicate 20 0
  | .plan p =>
      [byteOf (bit p.overfull + 2 * bit p.noImage)] ++ le16 p.generation.toNat ++ le16 p.rows ++ le16 p.base
        ++ [byteOf p.placed, byteOf (slotMask p.slotsMade)] ++ le16 (saturate 65535 p.slivers)
        ++ le16 (saturate 65535 p.noSlot) ++ List.replicate 18 0
  | .frameSummary f =>
      [byteOf (f.slot.val + 8 * f.cleanup.code + 32 * bit f.cut)] ++ le16 f.generation.toNat ++ le16 f.clearLevel
        ++ [0, 0] ++ le32 (saturate 4294967295 f.tally.rows) ++ le32 (saturate 4294967295 f.tally.torn)
        ++ le32 (saturate 4294967295 f.tally.spans) ++ le32 (saturate 4294967295 f.tally.closed)
        ++ le16 (saturate 65535 f.tally.listed) ++ le16 (saturate 65535 f.tally.unlisted)
        ++ le16 (saturate 65535 f.tally.overflows) ++ le16 (saturate 65535 f.tally.untracked)
  | .listStall address value => [0, 0, 0] ++ le32 address ++ le32 value ++ List.replicate 20 0
  | .fault r =>
      [byteOf r.kind.code, byteOf r.direction.code, byteOf r.position, byteOf r.passState.code, slotByte r.slot, 0, 0]
        ++ le32 r.address.toNat ++ List.replicate 20 0
  | .counters cause values mask =>
      [byteOf (match cause with | some c => c.val + 128 | none => 0)] ++ le16 mask.toNat
        ++ (allCounters.flatMap fun c => le16 (values.get c).toNat)

/-- A report's 32 bytes: the header with its kind and the LOST flag, and the body (R211). -/
def Report.bytes (lost : Bool) (r : Report) : List Byte :=
  byteOf (r.kindCode + 128 * bit lost) :: r.body

/-- The 16 bytes of the status block (R203). -/
def statusBlock (produced : Word) (pass : PassState) (writer : WriterState) (locked : Bool) (generation : Half16) :
    List Byte :=
  le32 produced.toNat ++ [byteOf pass.code, byteOf writer.code, byteOf (bit locked), 0] ++ le16 generation.toNat
    ++ List.replicate 6 0

/-- Origin codes of a plan entry (R204). -/
def PlanOrigin.code : PlanOrigin → Nat
  | .locate => 1 | .setFrame => 2

/-- The 32 bytes of a plan area entry; an entry of occupancy NONE is 32 zero bytes (R204). -/
def PlanEntry.bytes : PlanEntry → List Byte
  | .none => List.replicate 32 0
  | .planned b =>
      [1, byteOf (b.origin.code + 4 * b.cleanup.code + 16 * bit b.partialFrame + 32 * bit b.splitFrame)]
        ++ le16 b.generation.toNat ++ le32 b.top ++ le32 b.bottom ++ le16 b.left ++ le16 b.right ++ le32 b.bandBase
        ++ le16 b.bandLines ++ le16 b.clearLevel ++ le32 b.bandPitch
        ++ (match b.survey with
            | some w => le16 w.1 ++ le16 w.2
            | Option.none => List.replicate 4 0)

/-- The wide-run part of a record: four entries of 8 bytes, those beyond the runs held zero (R216, R218). -/
def wideRunPart (runs : List WideRun) : List Byte :=
  ([0, 1, 2, 3] : List Nat).flatMap fun j =>
    match runs[j]? with
    | some w => le32 w.row ++ le16 w.start ++ le16 w.stop
    | none => List.replicate 8 0

/-- The first 32 bytes of a blemish record (R216). -/
def BlemishRecord.mainPart (r : BlemishRecord) : List Byte :=
  le32 r.serial ++ [byteOf r.slot.val, byteOf (bit r.wide + 2 * bit r.cut + 4 * bit r.partialRec + 8 * bit r.edge)]
    ++ le16 r.generation.toNat ++ le32 r.firstRow ++ le32 r.lastRow ++ le16 r.left ++ le16 r.right
    ++ le32 (saturate 4294967295 r.area) ++ le32 (saturate 4294967295 r.rows) ++ le16 r.widest
    ++ le16 (saturate 65535 r.mergeCount)

/-- A blemish record's bytes: 32, or 64 with the wide-run part when WIDE is set (R118, R216). -/
def BlemishRecord.bytes (r : BlemishRecord) : List Byte :=
  r.mainPart ++ (if r.wide then wideRunPart r.wideRuns else [])

/-- A record's length in bytes (R152). -/
def BlemishRecord.length (r : BlemishRecord) : Nat := if r.wide then 64 else 32

/-- Descriptor close status (R153; codes in R217). -/
inductive CloseStatus where
  | full | frameEnd | detached | rejected
  deriving DecidableEq, Repr

/-- Status codes of a close (R217). -/
def CloseStatus.code : CloseStatus → Nat
  | .full => 1 | .frameEnd => 2 | .detached => 3 | .rejected => 4

/-- Bytes 0x0C to 0x1B of a descriptor close (R158, R217, R219). -/
def closeBytes (filled : Nat) (status : CloseStatus) (slot : Option SlotId) (first last : Option Nat) : List Byte :=
  le32 filled ++ [byteOf status.code, slotByte slot, 0, 0] ++ le32 (first.getD 0) ++ le32 (last.getD 0)

end Sys2Proof.Machine
end

