-- ==== Sys2Proof/Machine/Flags.lean ====
section
/-! DEFINITION. The flags and counts every block raises: the 14 event counters (R180, R181), the staging queue and its
drops (R170, R172), the attention line with its coalescing timer (R175 to R179) and the fault capture record
(R15, R16). Effective settings (R29) stand here too. -/

namespace Sys2Proof.Machine

/-! ## Effective settings -/

/-- The effective T_dense (R29). -/
def CommandUnit.effDense (c : CommandUnit) : Nat := c.overrides.tDense.getD c.standing.tDense

/-- The effective T_faint (R29). -/
def CommandUnit.effFaint (c : CommandUnit) : Nat := c.overrides.tFaint.getD c.standing.tFaint

/-- The effective W_max (R29). -/
def CommandUnit.effWMax (c : CommandUnit) : Nat := c.overrides.wMax.getD c.standing.wMax

/-- The effective min_area (R29). -/
def CommandUnit.effMinArea (c : CommandUnit) : Nat := c.overrides.minArea.getD c.standing.minArea

/-- The effective IR floor (R29). -/
def CommandUnit.effIrFloor (c : CommandUnit) : Nat := c.overrides.irFloor.getD c.standing.irFloor

/-! ## The event counters and the staging queue -/

/-- Counter indices by name (R180). -/
def tornPixel : CounterId := 0
/-- LATE_WRITE (R180). -/
def lateWrite : CounterId := 1
/-- ROW_SKIP (R180). -/
def rowSkip : CounterId := 2
/-- ROW_OVERRUN (R180). -/
def rowOverrun : CounterId := 3
/-- EARLY_READ (R180). -/
def earlyRead : CounterId := 4
/-- UNMENDED_READ (R180). -/
def unmendedRead : CounterId := 5
/-- SPAN_OVERFLOW (R180). -/
def spanOverflow : CounterId := 6
/-- UNTRACKED_RUN (R180). -/
def untrackedRun : CounterId := 7
/-- UNLISTED_BLEMISH (R180). -/
def unlistedBlemish : CounterId := 8
/-- REPORT_DROP (R180). -/
def reportDrop : CounterId := 9
/-- FAULT_MISSED (R180). -/
def faultMissed : CounterId := 10
/-- REFRESH_OVERRUN (R180). -/
def refreshOverrun : CounterId := 11
/-- BULLETIN_REJECT (R180). -/
def bulletinReject : CounterId := 12
/-- WRITER_PROMOTE (R180). -/
def writerPromote : CounterId := 13

/-- Raises a counter by n events at one moment unless its mask bit stops it (R180); 65535 goes on to 0. -/
def ReportUnit.raise (mask : BitVec 14) (c : CounterId) (n : Nat) (r : ReportUnit) : ReportUnit :=
  if mask.getLsbD c.val then r
  else { r with counters := r.counters.set c.val (r.counters.get c + BitVec.ofNat 16 n) }

/-- Whether that raise takes the counter from below 49,152 to 49,152 or above (R181). -/
def ReportUnit.crosses (mask : BitVec 14) (c : CounterId) (n : Nat) (r : ReportUnit) : Bool :=
  !mask.getLsbD c.val && decide ((r.counters.get c).toNat < Config.counterMark)
    && decide (Config.counterMark ≤ (r.counters.get c).toNat + n)

/-- The COUNTERS report as it stands at its staging (R170, R182). -/
def ReportUnit.countersReport (mask : BitVec 14) (cause : Option CounterId) (r : ReportUnit) : Report :=
  .counters cause r.counters mask

/-- A report joins the tail of the staging queue (R170). -/
def ReportUnit.push (x : Report) (r : ReportUnit) : ReportUnit := { r with staging := r.staging ++ [x] }

/-- Whether the staging queue has room (R170). -/
def ReportUnit.hasRoom (r : ReportUnit) : Bool := decide (r.staging.length < Config.stagingCap)

/-- A drop that can cross no threshold: REPORT_DROP rises from 49,152 to 49,153 (the last drop of R181). -/
def ReportUnit.dropLast (mask : BitVec 14) (r : ReportUnit) : ReportUnit :=
  { r.raise mask reportDrop 1 with lost := true }

/-- A drop: REPORT_DROP is counted and the LOST mark set (R170, R172); a crossing stages the one further COUNTERS
report of R181, which may drop in its turn. -/
def ReportUnit.drop (mask : BitVec 14) (r : ReportUnit) : ReportUnit :=
  let r' := r.dropLast mask
  if r.crosses mask reportDrop 1 then
    if r'.hasRoom then r'.push (r'.countersReport mask (some reportDrop)) else r'.dropLast mask
  else r'

/-- Stages a report: it joins the tail, or is dropped when the queue holds 8 (R170). -/
def ReportUnit.enqueue (mask : BitVec 14) (x : Report) (r : ReportUnit) : ReportUnit :=
  if r.hasRoom then r.push x else r.drop mask

/-- produced − taken, modulo 2^32 (R171). -/
def ReportUnit.unread (r : ReportUnit) : Nat := (r.produced - r.taken).toNat

/-- A ring is set and full (R172). -/
def ReportUnit.ringFull (slotCount : Nat) (r : ReportUnit) : Bool :=
  decide (slotCount ≠ 0) && decide (r.unread = slotCount)

/-- While the ring is full, the oldest staged report is dropped at once (R172). The bound `fuel` exceeds the number of
drops one full queue can bring: its 8 reports and one COUNTERS report. -/
def ReportUnit.drain (mask : BitVec 14) (slotCount : Nat) : Nat → ReportUnit → ReportUnit
  | 0, r => r
  | fuel + 1, r =>
    match r.staging with
    | [] => r
    | _ :: rest =>
      if r.ringFull slotCount then ReportUnit.drain mask slotCount fuel (ReportUnit.drop mask { r with staging := rest })
      else r

/-- The ring-full drops of a state (R172). -/
def State.drainRing (s : State) : State :=
  { s with ru := s.ru.drain s.cu.standing.countMask s.cu.standing.slotCount 10 }

/-- Stages a report with the Report Unit (R170, R172). -/
def State.stage (x : Report) (s : State) : State :=
  State.drainRing { s with ru := s.ru.enqueue s.cu.standing.countMask x }

/-- Counts n events of one counter at one moment; a crossing stages COUNTERS, cause THRESHOLD (R180, R181). -/
def State.countBy (c : CounterId) (n : Nat) (s : State) : State :=
  let mask := s.cu.standing.countMask
  let s' := { s with ru := s.ru.raise mask c n }
  if s.ru.crosses mask c n then s'.stage (s'.ru.countersReport mask (some c)) else s'

/-- Counts one event (R180). -/
def State.count (c : CounterId) (s : State) : State := s.countBy c 1

/-- Counts n events one after another (R180), not as one raise by n: DESIGN CHOICE, notes/assumptions/32.md. -/
def State.countTimes (c : CounterId) : Nat → State → State
  | 0, s => s
  | n + 1, s => State.countTimes c n (s.count c)

/-! ## The attention line -/

/-- The counted backlog (R175). -/
def ReportUnit.backlog (mode : AttentionMode) (r : ReportUnit) : Nat :=
  match mode with
  | .take => r.unread
  | .read => (r.produced - r.ackThrough).toNat

/-- The coalescing timer started from zero; with T of 0 it never runs (R176). -/
def timerStart (coalesceTime : Nat) : Option Nat := if coalesceTime = 0 then none else some 0

/-- ATTN_N released and the timer stopped (R176). -/
def ReportUnit.release (r : ReportUnit) : ReportUnit := { r with attention := false, timer := none }

/-- The count condition: assert when the counted backlog is at least N (R175). -/
def ReportUnit.testCount (st : Settings) (r : ReportUnit) : ReportUnit :=
  if st.coalesceCount ≤ r.backlog st.attentionMode then { r with attention := true } else r

/-- Whether a report asserts by its kind (R175). -/
def Report.assertsByKind : Report → Bool
  | .listStall .. => true
  | .fault _ => true
  | .ack .. | .plan _ | .frameSummary _ | .counters .. => false

/-- What the completion of a report's write does to the counts and the attention line (R171, R175, R176): produced
rises, the newest written slot is the one written, the timer starts when the backlog rises from 0, and the count or
kind condition asserts the line. -/
def ReportUnit.reportWritten (st : Settings) (x : Report) (r : ReportUnit) : ReportUnit :=
  let rose := { r with produced := r.produced + 1, newest := some (r.produced.toNat % st.slotCount), lost := false }
  let timed := if r.backlog st.attentionMode = 0 then { rose with timer := timerStart st.coalesceTime } else rose
  let counted := timed.testCount st
  if x.assertsByKind then { counted with attention := true } else counted

/-- What an accepted taken-count write does (R174, R175, R177). In READ mode it moves the taken count alone (R178). -/
def ReportUnit.takenAccepted (st : Settings) (c : Word) (r : ReportUnit) : ReportUnit :=
  let r' := { r with taken := c }
  match st.attentionMode with
  | .read => r'
  | .take =>
    if r'.unread = 0 then r'.release
    else if r.unread < r'.unread then
      let timed := if r.unread = 0 then { r' with timer := timerStart st.coalesceTime } else r'
      timed.testCount st
    else r'

/-- The test of a taken-count candidate (R174). -/
def ReportUnit.takenInWindow (slotCount : Nat) (c : Word) (r : ReportUnit) : Bool :=
  decide ((r.produced - c).toNat ≤ slotCount)

/-- The expiry of the coalescing timer: it stops, and a released line is asserted (R176). -/
def ReportUnit.timerExpires (r : ReportUnit) : ReportUnit := { r with attention := true, timer := none }

/-- A change of attention mode carried out by a SET_PLAN (R179). -/
def ReportUnit.modeChanged (st : Settings) (r : ReportUnit) : ReportUnit :=
  match st.attentionMode with
  | .read => { r.release with ackThrough := r.produced }
  | .take =>
    if r.unread = 0 then r.release
    else ReportUnit.testCount st { r.release with timer := timerStart st.coalesceTime }

/-- A running timer under a new coalescing time: it keeps its start, expires at once if it has already run for the new
T, and never runs with a T of 0 (R176, R179). DESIGN CHOICE, notes/assumptions/17.md. -/
def ReportUnit.retimed (coalesceTime : Nat) (r : ReportUnit) : ReportUnit :=
  match r.timer with
  | none => r
  | some elapsed =>
    if coalesceTime = 0 then { r with timer := none }
    else if coalesceTime * Config.ticksPerMicro ≤ elapsed then r.timerExpires
    else r

/-- What a SET_PLAN that replaces settings `old` by `st` does to the attention line (R179). -/
def ReportUnit.settingsChanged (old st : Settings) (r : ReportUnit) : ReportUnit :=
  if old.attentionMode ≠ st.attentionMode then r.modeChanged st
  else if old.coalesceCount ≠ st.coalesceCount ∨ old.coalesceTime ≠ st.coalesceTime then
    (r.retimed st.coalesceTime).testCount st
  else r

/-- A controller read of a word of the newest written slot in READ mode (R178). -/
def ReportUnit.acknowledgeRead (st : Settings) (address : Nat) (r : ReportUnit) : ReportUnit :=
  match st.attentionMode, r.newest with
  | .read, some n =>
    if st.ringBase + 32 * n ≤ address ∧ address < st.ringBase + 32 * n + 32 then
      { r.release with ackThrough := r.produced }
    else r
  | .read, none => r
  | .take, _ => r

/-- The Report Unit when RESTART takes effect (R183): the ring counts and newest slot kept, the rest emptied, and the
timer restarted in TAKE mode when reports are unread. -/
def ReportUnit.restarted (st : Settings) (r : ReportUnit) : ReportUnit :=
  let r' := { r with staging := [], lost := false, attention := false, timer := none,
                     counters := Vector.replicate 14 0 }
  match st.attentionMode with
  | .read => { r' with ackThrough := r.produced }
  | .take => if r.unread = 0 then r' else { r' with timer := timerStart st.coalesceTime }

/-! ## The fault capture record -/

/-- Raises a fault (R15, R16): an unlocked record takes it, locks, and a FAULT report is staged; a locked record keeps
its fields and FAULT_MISSED is counted. -/
def State.raiseFault (f : FaultRecord) (s : State) : State :=
  if s.fault.locked then s.count faultMissed
  else
    let f' := { f with locked := true }
    State.stage (.fault f') { s with fault := f' }

end Sys2Proof.Machine
end

