-- ==== Sys2Proof/Machine/Operands.lean ====
section
/-! DEFINITION. The operand forms of the posted commands: every command record read from the bulletin shadow in the
layout of R206 to R208, and every field check with the offset that names it (R24, R209). The bytes that R209 leaves
out of use are not read. -/

namespace Sys2Proof.Machine

/-- A one-byte field of the command record. -/
def rec8 (m : Memory) (off : Nat) : Nat := (m.read off).toNat

/-- The checks of a record in ascending field offset: the offset of the first field found bad (R24). -/
def firstBad : List (Nat × Bool) → Option Nat
  | [] => none
  | f :: rest => if f.2 then firstBad rest else some f.1

/-- A number within a range, both ends included. -/
def within (lo hi n : Nat) : Bool := decide (lo ≤ n) && decide (n ≤ hi)

/-- A multiple of d. -/
def multipleOf (d n : Nat) : Bool := decide (n % d = 0)

/-! ## SET_PLAN (R206) -/

/-- The ring flag, bit 0 of offset 0x000 (R206, R210). -/
def ringFlag (m : Memory) : Bool := (m.read 0x000).getLsbD 0

/-- A slot count of the report ring: 0, or a power of two from 16 to 1024 (R168). -/
def ringCountOk (n : Nat) : Bool := ([0, 16, 32, 64, 128, 256, 512, 1024] : List Nat).contains n

/-- A ring base: with slot count 0 ignored, else a multiple of 32 with the ring below S − 4096 (R168). -/
def ringBaseOk (size count base : Nat) : Bool :=
  decide (count = 0) || (multipleOf 32 base && decide (base + count * 32 + Config.bulletinBytes ≤ size))

/-- The standing settings a SET_PLAN record carries; with the ring flag clear the ring setting is kept (R31), and with
slot count 0 no ring base is read (R209). DEDUCED, notes/assumptions/18.md. -/
def setPlanSettings (m : Memory) (old : Settings) : Settings where
  ringBase := if ringFlag m then (if m.read16 0x008 = 0 then 0 else m.read32 0x00C) else old.ringBase
  slotCount := if ringFlag m then m.read16 0x008 else old.slotCount
  attentionMode := if rec8 m 0x001 = 0 then .take else .read
  coalesceCount := rec8 m 0x002
  coalesceTime := m.read16 0x004
  countMask := BitVec.ofNat 14 (m.read16 0x006)
  tDense := m.read16 0x010
  tFaint := m.read16 0x012
  wMax := rec8 m 0x014
  minArea := m.read16 0x018
  irFloor := m.read16 0x01A
  burst := rec8 m 0x015
  urgent := rec8 m 0x016

/-- The field checks of SET_PLAN in record order (R31, R206); the effective pair is the T_faint field's second check
(R30). -/
def setPlanChecks (size : Nat) (c : CommandUnit) : List (Nat × Bool) :=
  let m := c.shadow
  let dense := m.read16 0x010
  let faint := m.read16 0x012
  [ (0x001, decide (rec8 m 0x001 ≤ 1)),
    (0x002, within 1 255 (rec8 m 0x002)),
    (0x008, !ringFlag m || ringCountOk (m.read16 0x008)),
    (0x00C, !ringFlag m || ringBaseOk size (m.read16 0x008) (m.read32 0x00C)),
    (0x010, within 1 255 dense),
    (0x012, within (dense + 1) 256 faint
              && decide (c.overrides.tDense.getD dense < c.overrides.tFaint.getD faint)),
    (0x014, within 1 64 (rec8 m 0x014)),
    (0x015, within 1 31 (rec8 m 0x015)),
    (0x016, within (rec8 m 0x015 + 1) 32 (rec8 m 0x016)),
    (0x018, within 1 65535 (m.read16 0x018)),
    (0x01A, within 1 65535 (m.read16 0x01A)) ]

/-! ## OPEN_STRIP (R207) -/

/-- The IR offset byte, two's complement (R207). -/
def dxOfByte (b : Nat) : Int := if b < 128 then (b : Int) else (b : Int) - 256

/-- The strip record an OPEN_STRIP carries (R37, R207). -/
def openStripRecord (m : Memory) : StripRecord where
  sampleOrder := if rec8 m 0x000 = 0 then .little else .big
  surveyWidth := m.read16 0x002
  surveyPitch := m.read32 0x004
  surveyRows := m.read16 0x008
  surveyBase := m.read32 0x00C
  captureWidth := m.read16 0x010
  capturePitch := m.read32 0x014
  captureRows := m.read32 0x018
  kc := rec8 m 0x01C
  ks := rec8 m 0x01D
  filmLeft := m.read16 0x020
  filmRight := m.read16 0x022
  dx := dxOfByte (rec8 m 0x024)
  defaultCleanup := CleanupState.ofCode (rec8 m 0x025)
  bandAreaBase := m.read32 0x028
  bandStride := m.read32 0x02C
  bandLines := m.read16 0x030
  bandPitch := m.read32 0x034
  params := ⟨m.read16 0x038, rec8 m 0x03A, m.read16 0x03C, m.read16 0x03E, rec8 m 0x040⟩

/-- An override present when its bit of the presence byte is set (R207). -/
def overrideField (m : Memory) (presence : Nat) (value : Nat) : Option Nat :=
  if (m.read 0x041).getLsbD presence then some value else none

/-- The overrides an OPEN_STRIP carries (R29, R207). -/
def openStripOverrides (m : Memory) : Overrides where
  tDense := overrideField m 0 (m.read16 0x042)
  tFaint := overrideField m 1 (m.read16 0x044)
  wMax := overrideField m 2 (rec8 m 0x046)
  minArea := overrideField m 3 (m.read16 0x048)
  irFloor := overrideField m 4 (m.read16 0x04A)

/-- An override in the range of its setting, or absent. -/
def overrideOk (o : Option Nat) (lo hi : Nat) : Bool :=
  match o with
  | some v => within lo hi v
  | none => true

/-- Whether the pair that would become effective keeps T_dense below T_faint (R30). -/
def effectivePairOk (st : Settings) (o : Overrides) : Bool :=
  decide (o.tDense.getD st.tDense < o.tFaint.getD st.tFaint)

/-- The field checks of OPEN_STRIP in record order (R37, R207). A failing effective pair is named by the T_faint
override when present and by the T_dense override otherwise (R30). -/
def openStripChecks (size : Nat) (c : CommandUnit) : List (Nat × Bool) :=
  let m := c.shadow
  let r := openStripRecord m
  let o := openStripOverrides m
  let pair := effectivePairOk c.standing o
  let filmWidth := r.filmRight - r.filmLeft + 1
  [ (0x000, decide (rec8 m 0x000 ≤ 1)),
    (0x002, within 1 8192 r.surveyWidth),
    (0x004, multipleOf 8 r.surveyPitch && decide (r.surveyWidth * 8 ≤ r.surveyPitch)),
    (0x008, within 1 4096 r.surveyRows && decide (r.surveyRows * r.surveyPitch ≤ 0x10000000)),
    (0x00C, multipleOf 32 r.surveyBase
              && decide (r.surveyBase + r.surveyRows * r.surveyPitch + Config.bulletinBytes ≤ size)),
    (0x010, decide (1 ≤ r.captureWidth)),
    (0x014, multipleOf 8 r.capturePitch && decide (r.captureWidth * 8 ≤ r.capturePitch)),
    (0x018, decide (1 ≤ r.captureRows) && decide (r.captureRows * r.capturePitch ≤ 0x10000000)),
    (0x01C, within 1 16 r.kc),
    (0x01D, within 1 16 r.ks),
    (0x020, decide (r.filmLeft < r.captureWidth)),
    (0x022, decide (r.filmLeft ≤ r.filmRight) && decide (r.filmRight < r.captureWidth)
              && decide (filmWidth ≤ 8192) && decide (r.filmRight * r.ks / r.kc < r.surveyWidth)),
    (0x024, decide (rec8 m 0x024 ≤ 3) || decide (0xFD ≤ rec8 m 0x024)),
    (0x025, decide (rec8 m 0x025 ≤ 2)),
    (0x028, multipleOf 32 r.bandAreaBase),
    (0x02C, multipleOf 32 r.bandStride),
    (0x030, within 8 4096 r.bandLines),
    (0x034, multipleOf 32 r.bandPitch && decide (filmWidth * 8 ≤ r.bandPitch)
              && decide (r.bandLines * r.bandPitch ≤ Config.windowBytes)
              && decide (r.bandAreaBase + 7 * r.bandStride + r.bandLines * r.bandPitch + Config.bulletinBytes ≤ size)),
    (0x03A, within 1 64 r.params.minGap),
    (0x03C, within 8 2048 r.params.frameLength),
    (0x03E, within 0 256 r.params.nominalGap),
    (0x042, overrideOk o.tDense 1 255 && (o.tFaint.isSome || pair || o.tDense.isNone)),
    (0x044, overrideOk o.tFaint 2 256 && (o.tFaint.isNone || pair)),
    (0x046, overrideOk o.wMax 1 64),
    (0x048, overrideOk o.minArea 1 65535),
    (0x04A, overrideOk o.irFloor 1 65535) ]

/-! ## RELOCATE, SET_FRAME, SET_COLUMNS, CHAIN, PROBE_SPAN (R208) -/

/-- The locate parameters RELOCATE carries (R79, R208). -/
def relocateParams (m : Memory) : LocateParams :=
  ⟨m.read16 0x000, rec8 m 0x002, m.read16 0x004, m.read16 0x006, rec8 m 0x008⟩

/-- The field checks of RELOCATE, in the ranges of R37 (R79, R208). -/
def relocateChecks (m : Memory) : List (Nat × Bool) :=
  [ (0x002, within 1 64 (rec8 m 0x002)),
    (0x004, within 8 2048 (m.read16 0x004)),
    (0x006, within 0 256 (m.read16 0x006)) ]

/-- The action byte as the state check reads it: 1 is RELEASE, any other value PLAN (R210). -/
def frameActionIsRelease (m : Memory) : Bool := decide (rec8 m 0x001 = 1)

/-- A window and band SET_FRAME carries (R80, R208). -/
structure FrameRecord where
  slot       : Nat
  top        : Nat
  bottom     : Nat
  left       : Nat
  right      : Nat
  bandBase   : Nat
  bandLines  : Nat
  bandPitch  : Nat
  clearLevel : Nat
  cleanup    : CleanupState
  deriving DecidableEq, Repr

/-- The record of SET_FRAME (R208). -/
def setFrameRecord (m : Memory) : FrameRecord where
  slot := rec8 m 0x000
  top := m.read32 0x004
  bottom := m.read32 0x008
  left := m.read16 0x00C
  right := m.read16 0x00E
  bandBase := m.read32 0x010
  bandLines := m.read16 0x014
  bandPitch := m.read32 0x018
  clearLevel := m.read16 0x01C
  cleanup := CleanupState.ofCode (rec8 m 0x01E)

/-- The slot number of a byte from 0 to 7; a larger byte never passes the field check (R80). -/
def slotOfByte (n : Nat) : SlotId := Fin.ofNat 8 n

/-- A slot of the current generation, whose window takes rows of the strip (R39). -/
def Slot.isCurrent (s : Slot) : Bool :=
  match s.state with
  | .planned | .active | .captured => true
  | .vacant | .held => false

/-- Whether rows top to bottom share a row with the window of another slot of the current generation (R80). -/
def overlapsOther (slots : Vector Slot 8) (v : SlotId) (top bottom : Nat) : Bool :=
  allSlots.any fun w =>
    decide (w ≠ v) && (slots.get w).isCurrent && decide ((slots.get w).top ≤ bottom)
      && decide (top ≤ (slots.get w).bottom)

/-- The field checks of SET_FRAME with action PLAN in record order (R80, R208). -/
def setFramePlanChecks (size : Nat) (strip : Option StripRecord) (slots : Vector Slot 8) (m : Memory) :
    List (Nat × Bool) :=
  let r := setFrameRecord m
  let rows := (strip.map (·.captureRows)).getD 0
  let width := (strip.map (·.captureWidth)).getD 0
  [ (0x000, decide (r.slot ≤ 7)),
    (0x001, decide (rec8 m 0x001 ≤ 1)),
    (0x004, decide (r.top < rows)),
    (0x008, decide (r.top ≤ r.bottom) && decide (r.bottom < rows)
              && !overlapsOther slots (slotOfByte r.slot) r.top r.bottom),
    (0x00C, decide (r.left < width)),
    (0x00E, decide (r.left ≤ r.right) && decide (r.right < width) && decide (r.right - r.left + 1 ≤ 8192)),
    (0x010, multipleOf 32 r.bandBase),
    (0x014, within 8 4096 r.bandLines),
    (0x018, multipleOf 32 r.bandPitch && decide ((r.right - r.left + 1) * 8 ≤ r.bandPitch)
              && decide (r.bandLines * r.bandPitch ≤ Config.windowBytes)
              && decide (r.bandBase + r.bandLines * r.bandPitch + Config.bulletinBytes ≤ size)),
    (0x01E, decide (rec8 m 0x01E ≤ 3)) ]

/-- The field checks of SET_FRAME with action RELEASE: only the slot (the action byte is 1 already, R80, R210). -/
def setFrameReleaseChecks (m : Memory) : List (Nat × Bool) := [ (0x000, decide (rec8 m 0x000 ≤ 7)) ]

/-- The field check of SET_COLUMNS: a count of 17 or more is named (R32, R209). -/
def setColumnsChecks (m : Memory) : List (Nat × Bool) := [ (0x000, decide (rec8 m 0x000 ≤ 16)) ]

/-- The column mend list a SET_COLUMNS gives: its first n entries, ascending and distinct (R32, R208). -/
def setColumnsList (m : Memory) : List Nat :=
  sortOnce ((List.range (rec8 m 0x000)).map fun i => m.read16 (0x004 + 2 * i))

/-- CHAIN's head address (R155, R208). -/
def chainHead (m : Memory) : Nat := m.read32 0x000

/-- The field check of PROBE_SPAN (R124, R208). -/
def probeSpanChecks (m : Memory) : List (Nat × Bool) := [ (0x000, decide (rec8 m 0x000 ≤ 7)) ]

end Sys2Proof.Machine
end

