-- ==== Sys2Proof/Machine/Slots.lean ====
section
/-! DEFINITION. The frame slot table's operations: planning and releasing a slot (R63, R64), pending plan entries (R77),
residency (R107), span retirement (R108, R109) and capture routing (R51). -/

namespace Sys2Proof.Machine

/-- The record of slot v. -/
def State.slot (s : State) (v : SlotId) : Slot := s.fl.slots.get v

/-- Slot v replaced by a new record. -/
def State.setSlot (v : SlotId) (x : Slot) (s : State) : State :=
  { s with fl := { s.fl with slots := s.fl.slots.set v.val x } }

/-- A frame's height (R62). -/
def Slot.height (x : Slot) : Nat := x.bottom - x.top + 1

/-- A frame's width (R62). -/
def Slot.width (x : Slot) : Nat := x.right - x.left + 1

/-- The band address of a word (R51, R128). -/
def Slot.bandAddress (x : Slot) (line column word : Nat) : Nat :=
  x.bandBase + line * x.bandPitch + column * 8 + word * 4

/-- The resident row of a band line, if any (R107). -/
def Slot.residentRow (x : Slot) (line : Nat) : Option Nat :=
  match x.newest with
  | some n => if line ≤ n then some (n - (n - line) % x.bandLines) else none
  | none => none

/-- Whether frame row y is resident in the slot's band (R107). -/
def Slot.isResident (x : Slot) (y : Nat) : Bool :=
  match x.newest with
  | some n => decide (y ≤ n) && decide (n < y + x.bandLines)
  | none => false

/-- Whether frame row y has lost its band line: Ymax is at least y + band_lines (R106, R108). -/
def Slot.hasLost (x : Slot) (y : Nat) : Bool :=
  match x.newest with
  | some n => decide (y + x.bandLines ≤ n)
  | none => false

/-- The spans without those of slot v (R109). -/
def retireSlotSpans (v : SlotId) (spans : List Span) : List Span := spans.filter fun sp => decide (sp.slot ≠ v)

/-- The spans without those of slot v whose rows have lost their band lines (R108). -/
def retireLostSpans (v : SlotId) (x : Slot) (spans : List Span) : List Span :=
  spans.filter fun sp => decide (sp.slot ≠ v) || !x.hasLost sp.row

/-- Every span of slot v retired (R109). -/
def State.retireSlot (v : SlotId) (s : State) : State :=
  { s with bt := { s.bt with spans := retireSlotSpans v s.bt.spans } }

/-- A slot becomes VACANT: its spans are retired and it takes the vacant values (R63). -/
def State.vacateSlot (v : SlotId) (s : State) : State := (s.retireSlot v).setSlot v .vacantValues

/-- A slot's pending plan entry set, replacing any earlier one (R77). -/
def State.setPlanPending (v : SlotId) (e : PlanEntry) (s : State) : State :=
  { s with fl := { s.fl with planPending := s.fl.planPending.set v.val (some e) } }

/-- A release: the slot becomes VACANT and its pending plan entry NONE (R63). -/
def State.releaseSlot (v : SlotId) (s : State) : State := (s.vacateSlot v).setPlanPending v .none

/-- What a plan gives a slot (R64). -/
structure SlotPlan where
  origin       : PlanOrigin
  top          : Nat
  bottom       : Nat
  left         : Nat
  right        : Nat
  bandBase     : Nat
  bandLines    : Nat
  bandPitch    : Nat
  clearLevel   : Nat
  cleanup      : CleanupState
  partialFrame : Bool
  splitFrame   : Bool
  survey       : Option (Nat × Nat)
  deriving DecidableEq, Repr

/-- The slot record a plan makes, under a strip generation and IR offset (R40, R64). -/
def SlotPlan.slot (p : SlotPlan) (generation : Half16) (dx : Int) : Slot where
  state := .planned
  generation := generation
  top := p.top
  bottom := p.bottom
  left := p.left
  right := p.right
  bandBase := p.bandBase
  bandLines := p.bandLines
  bandPitch := p.bandPitch
  clearLevel := p.clearLevel
  cleanup := p.cleanup
  dx := dx
  newest := none
  classified := 0
  partialFrame := p.partialFrame
  splitFrame := p.splitFrame
  cut := false

/-- The plan entry a plan makes (R78). -/
def SlotPlan.entry (p : SlotPlan) (generation : Half16) : PlanEntry :=
  .planned ⟨p.origin, generation, p.top, p.bottom, p.left, p.right, p.bandBase, p.bandLines, p.bandPitch, p.clearLevel,
    p.cleanup, p.partialFrame, p.splitFrame, p.survey⟩

/-- Planning a slot (R64): its spans retired, its new values, and its pending plan entry. -/
def State.planSlot (v : SlotId) (p : SlotPlan) (s : State) : State :=
  let dx := (s.iu.strip.map (·.dx)).getD 0
  ((s.retireSlot v).setSlot v (p.slot s.fl.generation dx)).setPlanPending v (p.entry s.fl.generation)

/-- The first slot, in slot order, for which a test holds. -/
def findSlot (slots : Vector Slot 8) (p : Slot → Bool) : Option SlotId := allSlots.find? fun v => p (slots.get v)

/-- The ACTIVE slot, if any; there is at most one (R53). -/
def activeSlot (slots : Vector Slot 8) : Option SlotId := findSlot slots fun x => decide (x.state = .active)

/-- Whether a slot routes the word of capture row r and intake column c (R51). -/
def Slot.routes (x : Slot) (r c : Nat) : Bool :=
  (decide (x.state = .planned) || decide (x.state = .active)) && decide (x.top ≤ r) && decide (r ≤ x.bottom)
    && decide (x.left ≤ c) && decide (c ≤ x.right)

/-- The slot a capture word is routed to, if any; windows do not overlap in rows, so at most one qualifies (R51). -/
def routeOf (slots : Vector Slot 8) (r c : Nat) : Option SlotId := findSlot slots fun x => x.routes r c

/-- Every slot of a list changed in turn. -/
def State.forSlots (f : SlotId → State → State) : List SlotId → State → State
  | [], s => s
  | v :: rest, s => State.forSlots f rest (f v s)

end Sys2Proof.Machine
end

