-- ==== Sys2Proof/Machine/Locate.lean ====
section
/-! DEFINITION. The locate operation (04_frame_location.md, R67 to R73): from the survey profile to frames. Pure
functions of the inputs the operation took when it began (R66). -/

namespace Sys2Proof.Machine

/-- A maximal run of survey rows of one kind: gap rows when `gap`, else image rows. -/
structure RowRun where
  gap   : Bool
  first : Nat
  last  : Nat
  deriving DecidableEq, Repr

/-- The base level B: the greatest mean, 0 for an empty profile (R67). -/
def baseLevel (profile : List ProfileEntry) : Nat := greatest (profile.map (·.mean))

/-- Whether each row is a gap row: M + Tg ≥ B (R67). -/
def gapRows (profile : List ProfileEntry) (gapTolerance : Nat) : List Bool :=
  profile.map fun e => decide (baseLevel profile ≤ e.mean + gapTolerance)

/-- The maximal runs of equal marks, in order, `s` the row of the first mark. -/
def runsOf : Nat → List Bool → List RowRun
  | _, [] => []
  | s, g :: rest =>
    match runsOf (s + 1) rest with
    | [] => [⟨g, s, s⟩]
    | r :: more => if r.gap = g then ⟨g, s, r.last⟩ :: more else ⟨g, s, s⟩ :: r :: more

/-- The marks of a run's rows after short gaps are turned back into image rows: a gap run shorter than Gmin becomes
image rows unless it contains row 0 or row Q − 1 (R67). -/
def RowRun.marks (minGap rows : Nat) (r : RowRun) : List Bool :=
  let length := r.last - r.first + 1
  let stays := decide (minGap ≤ length) || decide (r.first = 0) || decide (r.last + 1 = rows)
  List.replicate length (r.gap && stays)

/-- The candidates: the maximal runs of image rows (R67, R68). -/
def candidatesOf (profile : List ProfileEntry) (p : LocateParams) : List RowRun :=
  let marks := (runsOf 0 (gapRows profile p.gapTolerance)).flatMap (RowRun.marks p.minGap profile.length)
  (runsOf 0 marks).filter fun r => !r.gap

/-- A frame in survey rows, with its flags (R69). -/
structure SurveyFrame where
  top          : Nat
  bottom       : Nat
  partialFrame : Bool
  splitFrame   : Bool
  deriving DecidableEq, Repr

/-- The number of rows of a candidate (R68). -/
def RowRun.length (r : RowRun) : Nat := r.last - r.first + 1

/-- A sliver: shorter than P div 2 (R68). -/
def RowRun.isSliver (p : LocateParams) (r : RowRun) : Bool := decide (r.length < p.frameLength / 2)

/-- The number of frames a candidate yields (R69). -/
def frameCount (p : LocateParams) (length : Nat) : Nat :=
  max 1 ((2 * (length + p.nominalGap) + (p.frameLength + p.nominalGap)) / (2 * (p.frameLength + p.nominalGap)))

/-- The survey window about a centre, moved inside rows 0 to Q − 1 (R69). -/
def windowAbout (p : LocateParams) (rows centre : Nat) : Nat × Nat :=
  let top := if p.frameLength / 2 ≤ centre then centre - p.frameLength / 2 else 0
  if rows < top + p.frameLength then (rows - p.frameLength, rows - 1) else (top, top + p.frameLength - 1)

/-- The frames of one candidate (R69). -/
def RowRun.frames (p : LocateParams) (rows : Nat) (r : RowRun) : List SurveyFrame :=
  let n := frameCount p r.length
  let touchesEnd := decide (r.first = 0) || decide (r.last + 1 = rows)
  (List.range n).map fun k =>
    let w := windowAbout p rows (r.first + r.length * (2 * k + 1) / (2 * n))
    ⟨w.1, w.2, touchesEnd && decide (r.length < p.frameLength), decide (1 < n)⟩

/-- Inserts a frame before the first frame of a greater top: frames of equal tops keep the order they were made. -/
def insertFrame (f : SurveyFrame) : List SurveyFrame → List SurveyFrame
  | [] => [f]
  | g :: rest => if f.top < g.top then f :: g :: rest else g :: insertFrame f rest

/-- Frames in ascending order of survey top (R70). -/
def sortFrames (fs : List SurveyFrame) : List SurveyFrame := fs.foldl (fun acc f => insertFrame f acc) []

/-- The frames kept so far, latest first, and the number dropped (R70). -/
structure Trimming where
  kept    : List SurveyFrame
  dropped : Nat
  deriving DecidableEq, Repr

/-- A frame kept, or dropped when its top is above its bottom (R70). -/
def Trimming.keep (t : Trimming) (f : SurveyFrame) : Trimming :=
  if f.bottom < f.top then { t with dropped := t.dropped + 1 } else { t with kept := f :: t.kept }

/-- The next frame trimmed against the last kept, and both kept or dropped (R70). DEDUCED, notes/assumptions/19.md. -/
def Trimming.next (t : Trimming) (f : SurveyFrame) : Trimming :=
  match t.kept with
  | [] => t.keep f
  | g :: rest =>
    if f.top ≤ g.bottom then
      let m := (g.bottom + f.top) / 2
      (Trimming.keep { t with kept := rest } { g with bottom := m }).keep { f with top := m + 1 }
    else t.keep f

/-- All frames trimmed in order (R70). -/
def trimFrames (fs : List SurveyFrame) : Trimming := (sortFrames fs).foldl Trimming.next ⟨[], 0⟩

/-- The last capture row of a survey window, before it is known to lie at or below the first (R71). -/
def captureBottom (s : StripRecord) (inset bottom : Nat) : Int :=
  min ((s.captureRows : Int) - 1) (((bottom + 1) * s.kc / s.ks : Nat) - 1 - (inset : Int))

/-- The clear level of a survey window: its greatest Ir (R72). -/
def clearLevelOf (profile : List ProfileEntry) (top bottom : Nat) : Nat :=
  greatest (((profile.drop top).take (bottom + 1 - top)).map (·.ir))

/-- A located frame: its survey window, capture window, clear level, cleanup state and flags (R71, R72). -/
structure LocatedFrame where
  surveyTop    : Nat
  surveyBottom : Nat
  top          : Nat
  bottom       : Nat
  left         : Nat
  right        : Nat
  clearLevel   : Nat
  cleanup      : CleanupState
  partialFrame : Bool
  splitFrame   : Bool
  deriving DecidableEq, Repr

/-- The conversion of a survey window, none when it is dropped (R71, R72). -/
def SurveyFrame.convert (k : LocateInputs) (f : SurveyFrame) : Option LocatedFrame :=
  let inset := k.params.inset
  let top := f.top * k.strip.kc / k.strip.ks + inset
  let bottom := captureBottom k.strip inset f.bottom
  let left := k.strip.filmLeft + inset
  if bottom < (top : Int) ∨ k.strip.filmRight < left + inset then none
  else
    let c := clearLevelOf k.profile f.top f.bottom
    some ⟨f.top, f.bottom, top, bottom.toNat, left, k.strip.filmRight - inset, c,
      if c < k.irFloor then .opaqueFilm else k.strip.defaultCleanup, f.partialFrame, f.splitFrame⟩

/-- The frames of a plan, and its counts and marks (R67 to R72). -/
structure LocatePlan where
  frames  : List LocatedFrame
  slivers : Nat
  base    : Nat
  noImage : Bool
  deriving DecidableEq, Repr

/-- The plan of a locate operation (R67 to R72). -/
def LocateInputs.plan (k : LocateInputs) : LocatePlan :=
  let candidates := candidatesOf k.profile k.params
  let whole := candidates.filter fun r => !r.isSliver k.params
  let trimmed := trimFrames (whole.flatMap (RowRun.frames k.params k.profile.length))
  let located := trimmed.kept.reverse.filterMap (SurveyFrame.convert k)
  ⟨located, (candidates.length - whole.length) + trimmed.dropped + (trimmed.kept.length - located.length),
    baseLevel k.profile, candidates.isEmpty⟩

/-- The slot plan of a located frame placed in slot v: the band template's band for v (R73). -/
def LocatedFrame.slotPlan (s : StripRecord) (v : SlotId) (f : LocatedFrame) : SlotPlan :=
  ⟨.locate, f.top, f.bottom, f.left, f.right, s.bandAreaBase + v.val * s.bandStride, s.bandLines, s.bandPitch,
    f.clearLevel, f.cleanup, f.partialFrame, f.splitFrame, some (f.surveyTop, f.surveyBottom)⟩

/-- The free slots: those not HELD, in ascending order (R73). -/
def freeSlots (slots : Vector Slot 8) : List SlotId := allSlots.filter fun v => decide ((slots.get v).state ≠ .held)

/-- The assigned frames: each free slot in turn takes the next frame (R73). -/
def assignments (slots : Vector Slot 8) (frames : List LocatedFrame) : List (SlotId × LocatedFrame) :=
  (freeSlots slots).zip frames

end Sys2Proof.Machine
end

