-- ==== Sys2Proof/Machine/Classify.lean ====
section
/-! DEFINITION. Classifying a row (05_defect_classification.md): registered IR, transmission, pixel classes, and the
row's runs (R103). Pure functions of the inputs a classification took (R92). -/

namespace Sys2Proof.Machine

/-- The transmission of a pixel (R89). C is at least 1 where the part computes it (R86). -/
def transmission (ir clearLevel : Nat) : Nat := min 256 (ir * 256 / clearLevel)

/-- The column whose IR registers with column x: x + dx, clamped to 0 and width − 1 (R88, R142). -/
def registeredColumn (dx : Int) (width x : Nat) : Nat :=
  min ((x : Int) + dx).toNat (width - 1)

/-- The four pixel classes (R90). -/
inductive PixelClass where
  | bridge | dense | faint | clean
  deriving DecidableEq, Repr

/-- The class of an unlisted pixel by its transmission (R90, R143). -/
def classOfTransmission (tDense tFaint t : Nat) : PixelClass :=
  if t < tDense then .dense else if t < tFaint then .faint else .clean

/-- Whether a cleanup state classifies by transmission (R84). -/
def CleanupState.classifies : CleanupState → Bool
  | .full | .denseOnly => true
  | .off | .opaqueFilm => false

/-- Whether a frame column is listed in the column mend list (R91). -/
def isListed (columns : List Nat) (left x : Nat) : Bool := columns.contains (left + x)

/-- The IR value of a row's column; a row without a half reads C everywhere (R87). -/
def Classification.irAt (k : Classification) (x : Nat) : Nat := k.values.getD x k.clearLevel

/-- The class of pixel x (R90). -/
def Classification.classAt (k : Classification) (x : Nat) : PixelClass :=
  if k.cleanup.classifies then
    if isListed k.columns k.left x then .bridge
    else classOfTransmission k.tDense k.tFaint
      (transmission (k.irAt (registeredColumn k.dx k.width x)) k.clearLevel)
  else .clean

/-- The classes of the row in column order (R90). -/
def Classification.classes (k : Classification) : List PixelClass := (List.range k.width).map k.classAt

/-- A run: first and last column and area, the number of its dense pixels (R103). -/
structure Run where
  start : Nat
  stop  : Nat
  area  : Nat
  deriving DecidableEq, Repr

/-- A run's length (R103). -/
def Run.length (r : Run) : Nat := r.stop - r.start + 1

/-- A sequence of dense pixels and bridges is a run when it holds a dense pixel (R103). -/
def closeRun : Option Run → List Run
  | some r => if r.area = 0 then [] else [r]
  | none => []

/-- The sequence extended by the pixel at column x. -/
def extendRun (x dense : Nat) : Option Run → Run
  | some r => ⟨r.start, x, r.area + dense⟩
  | none => ⟨x, x, dense⟩

/-- The runs of a row from column x on, `acc` the sequence that reaches column x − 1 (R103). -/
def runsFrom : Nat → Option Run → List PixelClass → List Run
  | _, acc, [] => closeRun acc
  | x, acc, c :: rest =>
    match c with
    | .dense => runsFrom (x + 1) (some (extendRun x 1 acc)) rest
    | .bridge => runsFrom (x + 1) (some (extendRun x 0 acc)) rest
    | .faint | .clean => closeRun acc ++ runsFrom (x + 1) none rest

/-- The runs of the row in column order (R103). -/
def Classification.runs (k : Classification) : List Run := runsFrom 0 none k.classes

end Sys2Proof.Machine
end

