-- ==== Sys2Proof/Machine/Track.lean ====
section
/-! DEFINITION. Blemish tracking (06_blemish_tracking_and_the_span_table.md): recording a row's spans (R106), following
runs from row to row (R111 to R115), closing and listing (R116 to R118). Pure functions; the State operations that
use them stand in Machine/Work.lean. -/

namespace Sys2Proof.Machine

/-! ## Recording spans -/

/-- The table's order: slot, then row, then start (R105). -/
def Span.precedes (a b : Span) : Bool :=
  decide (a.slot.val < b.slot.val) ||
    (decide (a.slot = b.slot) && (decide (a.row < b.row) || (decide (a.row = b.row) && decide (a.start < b.start))))

/-- A span enters the table in its place (R105, R106). -/
def insertSpan (x : Span) : List Span → List Span
  | [] => [x]
  | y :: rest => if x.precedes y then x :: y :: rest else y :: insertSpan x rest

/-- What recording a row's runs gives: the table, for each run whether it was refused for a full table, and the number
of runs recorded. -/
structure Recording where
  spans    : List Span
  refused  : List Bool
  recorded : Nat
  deriving DecidableEq, Repr

/-- The number of runs refused for a full table. -/
def Recording.overflows (r : Recording) : Nat := r.refused.count true

/-- The span of a run (R104, R105). -/
def Run.span (r : Run) (slot : SlotId) (row wMax : Nat) : Span := ⟨slot, row, r.start, r.stop, decide (wMax < r.length)⟩

/-- Offers the runs of a row to the span table in column order (R106): none recorded when the row is no longer
resident, refused when the table is full, else entered. -/
def recordRuns (lost : Bool) (slot : SlotId) (row wMax : Nat) : List Run → Recording → Recording
  | [], acc => acc
  | r :: rest, acc =>
    if lost then recordRuns lost slot row wMax rest { acc with refused := acc.refused ++ [false] }
    else if Config.spanCap ≤ acc.spans.length then
      recordRuns lost slot row wMax rest { acc with refused := acc.refused ++ [true] }
    else
      recordRuns lost slot row wMax rest
        ⟨insertSpan (r.span slot row wMax) acc.spans, acc.refused ++ [false], acc.recorded + 1⟩

/-! ## Following runs -/

/-- The working state of the second stage: the open table, the previous-row list, the list being made for this row, the
next key and the number of untracked runs (R111, R112). -/
structure Tracking where
  openTable : List OpenBlemish
  previous  : List TrackedRun
  current   : List TrackedRun
  nextKey   : Nat
  untracked : Nat
  deriving DecidableEq, Repr

/-- Whether a run touches a run of the previous row: 8-connectivity (R112). -/
def Run.touches (r : Run) (p : TrackedRun) : Bool := decide (r.start ≤ p.stop + 1) && decide (p.start ≤ r.stop + 1)

/-- The open blemishes a run touches, in the order they were opened (R112). -/
def Tracking.touched (t : Tracking) (r : Run) : List OpenBlemish :=
  t.openTable.filter fun b => t.previous.any fun p => decide (p.key = b.key) && r.touches p

/-- A wide run placed in order of row and then start (R110, R114). -/
def insertWide (w : WideRun) : List WideRun → List WideRun
  | [] => [w]
  | v :: rest =>
    if w.row < v.row ∨ (w.row = v.row ∧ w.start < v.start) then w :: v :: rest else v :: insertWide w rest

/-- The wide runs of both lists in order, the first 4 kept (R114). -/
def mergeWide (a b : List WideRun) : List WideRun := (b.foldl (fun acc w => insertWide w acc) a).take 4

/-- The survivor after absorbing a blemish (R114). -/
def OpenBlemish.absorb (s x : OpenBlemish) : OpenBlemish :=
  let first := min s.firstRow x.firstRow
  let last := max s.lastRow x.lastRow
  { key := s.key, firstRow := first, lastRow := last, left := min s.left x.left, right := max s.right x.right,
    area := s.area + x.area, rows := last - first + 1, widest := max s.widest x.widest,
    mergeCount := s.mergeCount + x.mergeCount + 1, wide := s.wide || x.wide, partialRec := s.partialRec || x.partialRec,
    edge := s.edge || x.edge, wideRuns := mergeWide s.wideRuns x.wideRuns }

/-- Where a run lies and how it was recorded, as R115 reads it. -/
structure RunContext where
  row     : Nat
  width   : Nat
  height  : Nat
  wMax    : Nat
  refused : Bool
  deriving DecidableEq, Repr

/-- Whether a run touches the frame's edge (R115). -/
def Run.atEdge (r : Run) (c : RunContext) : Bool :=
  decide (r.start = 0) || decide (r.stop = c.width - 1) || decide (c.row = 0) || decide (c.row = c.height - 1)

/-- A run adds itself to a blemish's totals (R115). -/
def OpenBlemish.join (b : OpenBlemish) (r : Run) (c : RunContext) : OpenBlemish :=
  let isWide := decide (c.wMax < r.length)
  { b with
    lastRow := c.row
    left := min b.left r.start
    right := max b.right r.stop
    area := b.area + r.area
    rows := c.row - b.firstRow + 1
    widest := max b.widest r.length
    wide := b.wide || isWide
    partialRec := b.partialRec || c.refused
    edge := b.edge || r.atEdge c
    wideRuns := if isWide && decide (b.wideRuns.length < 4) then b.wideRuns ++ [⟨c.row, r.start, r.stop⟩] else b.wideRuns }

/-- A new blemish opened by a run (R113). -/
def OpenBlemish.opened (key : Nat) (r : Run) (c : RunContext) : OpenBlemish :=
  let isWide := decide (c.wMax < r.length)
  { key := key, firstRow := c.row, lastRow := c.row, left := r.start, right := r.stop, area := r.area, rows := 1,
    widest := r.length, mergeCount := 0, wide := isWide, partialRec := c.refused, edge := r.atEdge c,
    wideRuns := if isWide then [⟨c.row, r.start, r.stop⟩] else [] }

/-- A run list with the runs of absorbed blemishes given to the survivor (R114). -/
def rekey (absorbed : List Nat) (survivor : Nat) (runs : List TrackedRun) : List TrackedRun :=
  runs.map fun p => if absorbed.contains p.key then { p with key := survivor } else p

/-- A run left untracked (R111). -/
def Tracking.leave (t : Tracking) : Tracking := { t with untracked := t.untracked + 1 }

/-- A tracked run enters the list being made for its row with its blemish (R112). -/
def Tracking.enter (t : Tracking) (r : Run) (key : Nat) : Tracking :=
  { t with current := t.current ++ [⟨r.start, r.stop, key⟩] }

/-- The treatment of one run by the open blemishes it touches (R112 to R115). `position` counts from 1 (R103). -/
def Tracking.take (t : Tracking) (position : Nat) (r : Run) (c : RunContext) : Tracking :=
  if Config.trackedCap < position then t.leave
  else
    match t.touched r with
    | [] =>
      if t.openTable.length < Config.openCap then
        Tracking.enter { t with openTable := t.openTable ++ [OpenBlemish.opened t.nextKey r c], nextKey := t.nextKey + 1 }
          r t.nextKey
      else t.leave
    | survivor :: others =>
      let merged := (others.foldl OpenBlemish.absorb survivor).join r c
      let absorbed := others.map (·.key)
      let table := (t.openTable.filter fun b => !absorbed.contains b.key).map fun b =>
        if b.key = survivor.key then merged else b
      Tracking.enter
        { t with openTable := table, previous := rekey absorbed survivor.key t.previous,
                 current := rekey absorbed survivor.key t.current }
        r survivor.key

/-- The runs of a row taken in column order with the outcome of their recording (R112). -/
def Tracking.takeAll (c : RunContext) : Nat → List Run → List Bool → Tracking → Tracking
  | _, [], _, t => t
  | position, r :: rest, refused, t =>
    Tracking.takeAll c (position + 1) rest refused.tail
      (t.take position r { c with refused := refused.headD false })

/-! ## Closing and listing -/

/-- What a set of closings does to the holding queue, the serials and the counts (R116 to R118). -/
structure Listing where
  queue      : List QueueEntry
  nextSerial : Option Nat
  closed     : Nat
  listed     : Nat
  unlisted   : Nat
  deriving DecidableEq, Repr

/-- The serial after one given (R117). -/
def serialAfter (n : Nat) : Option Nat := if n < Config.lastSerial then some (n + 1) else none

/-- The record of a closing blemish (R118). -/
def OpenBlemish.record (b : OpenBlemish) (serial : Nat) (slot : SlotId) (generation : Half16) (cut : Bool) :
    BlemishRecord :=
  ⟨serial, slot, generation, b.firstRow, b.lastRow, b.left, b.right, b.area, b.rows, b.widest, b.mergeCount, b.wide, cut,
    b.partialRec, b.edge, b.wideRuns⟩

/-- One closing (R116 to R118): discarded below min_area, else given a serial and offered to the holding queue. -/
def Listing.close (minArea : Nat) (slot : SlotId) (generation : Half16) (cut : Bool) (l : Listing) (b : OpenBlemish) :
    Listing :=
  let l := { l with closed := l.closed + 1 }
  if b.area < minArea then l
  else
    match l.nextSerial with
    | none => { l with unlisted := l.unlisted + 1 }
    | some n =>
      let l := { l with nextSerial := serialAfter n }
      if l.queue.length < Config.queueCap then
        { l with queue := l.queue ++ [.record (b.record n slot generation cut)], listed := l.listed + 1 }
      else { l with unlisted := l.unlisted + 1 }

/-- A set of closings in the order the blemishes were opened (R116). -/
def Listing.closeAll (minArea : Nat) (slot : SlotId) (generation : Half16) (cut : Bool) (bs : List OpenBlemish)
    (l : Listing) : Listing := bs.foldl (Listing.close minArea slot generation cut) l

end Sys2Proof.Machine
end

