-- ==== Sys2Proof/Machine/Work.lean ====
section
/-! DEFINITION. The operations that run beside the upstream port and what begins, ends and cancels them: row
classification (R92, R94), frame end (R119, R120), draining (R54), locate (R66, R74), the taking effect of CLOSE_STRIP
(R60) and RESTART (R34), and the release of the row hold (R57). -/

namespace Sys2Proof.Machine

/-! ## Posts answered -/

/-- Stages the ACK of a post; it shows the pass state and lock standing now (R22, R23). -/
def State.stageAck (kind : Byte) (outcome : AckOutcome) (detail : Word) (s : State) : State :=
  s.stage (.ack kind outcome s.iu.pass s.fault.locked detail)

/-! ## The IR row buffer and the row hold -/

/-- Whether neither half of the IR row buffer is EMPTY (R57). -/
def IntakeUnit.noHalfFree (u : IntakeUnit) : Bool :=
  decide (u.halfA.state ≠ .empty) && decide (u.halfB.state ≠ .empty)

/-- Whether a half holds a capture row. -/
def IrHalf.holds (h : IrHalf) (r : Nat) : Bool := decide (h.state ≠ .empty) && decide (h.row = r)

/-- The half that holds a capture row, if any (R56). -/
def IntakeUnit.halfOf (u : IntakeUnit) (r : Nat) : Option IrHalf :=
  if u.halfA.holds r then some u.halfA else if u.halfB.holds r then some u.halfB else none

/-- The half that holds a capture row changed, if any. -/
def IntakeUnit.mapHalf (f : IrHalf → IrHalf) (r : Nat) (u : IntakeUnit) : IntakeUnit :=
  if u.halfA.holds r then { u with halfA := f u.halfA }
  else if u.halfB.holds r then { u with halfB := f u.halfB } else u

/-- An access held on the row hold asks for the port once a half is EMPTY or the pass state has left CAPTURING (R57). -/
def State.endRowHold (s : State) : State :=
  match s.upstream with
  | some a =>
    if a.phase = .rowHeld ∧ (s.iu.noHalfFree = false ∨ s.iu.pass ≠ .capturing) then
      { s with upstream := some { a with phase := .asking } }
    else s
  | none => s

/-! ## Row classification -/

/-- Whether capture row r has completed in the pass: rows complete in ascending order up to the tracker's (R46, R56). -/
def RowTracker.hasCompleted (t : RowTracker) (r : Nat) : Bool :=
  match t.current with
  | some c => decide (r < c) || (decide (r = c) && t.complete)
  | none => false

/-- Whether frame row y of a slot is ready to be classified (R56, R92). -/
def State.rowReady (s : State) (v : SlotId) (y : Nat) : Bool :=
  decide (y < (s.slot v).height) && s.iu.tracker.hasCompleted ((s.slot v).top + y)

/-- The inputs a classification takes when it begins (R87, R92). -/
def State.classificationOf (s : State) (v : SlotId) (y : Nat) : Classification :=
  let x := s.slot v
  let half := s.iu.halfOf (x.top + y)
  { slot := v, row := y, values := (half.map (·.entries)).getD [], torn := (half.map (·.torn)).getD 0,
    clearLevel := x.clearLevel, dx := x.dx, width := x.width, left := x.left, cleanup := x.cleanup,
    tDense := s.cu.effDense, tFaint := s.cu.effFaint, wMax := s.cu.effWMax, minArea := s.cu.effMinArea,
    columns := s.cu.columns }

/-- A classification begins: its half, if any, goes to CLASSIFYING (R55, R92). -/
def State.beginClassification (v : SlotId) (y : Nat) (s : State) : State :=
  let k := s.classificationOf v y
  { s with bt := { s.bt with classifying := some k },
           iu := s.iu.mapHalf (fun h => { h with state := .classifying }) ((s.slot v).top + y) }

/-! ## Frame end -/

/-- Closes blemishes at one moment: the holding queue, the serials, the tally, and UNLISTED_BLEMISH for each record
dropped (R116 to R118, R122), one after another: DESIGN CHOICE, notes/assumptions/32.md. -/
def State.closeBlemishes (minArea : Nat) (v : SlotId) (cut : Bool) (bs : List OpenBlemish) (s : State) : State :=
  let l := Listing.closeAll minArea v (s.slot v).generation cut bs ⟨s.lw.queue, s.bt.nextSerial, 0, 0, 0⟩
  let t := s.bt.tally
  State.countTimes unlistedBlemish l.unlisted
    { s with
      lw := { s.lw with queue := l.queue }
      bt := { s.bt with nextSerial := l.nextSerial
                        tally := { t with closed := t.closed + l.closed, listed := t.listed + l.listed,
                                          unlisted := t.unlisted + l.unlisted } } }

/-- A frame end operation of slot v begins: its first step closes every open blemish (R119, R120). -/
def State.beginFrameEnd (v : SlotId) (s : State) : State :=
  let cut := decide ((s.slot v).classified < (s.slot v).height)
  let s' := s.closeBlemishes s.cu.effMinArea v cut s.bt.openTable
  { s' with bt := { s'.bt with openTable := [], previous := [], frameEnd := some ⟨v, cut⟩ } }

/-- Whether no row classification and no frame end operation is in flight. -/
def BlemishTracker.idle (b : BlemishTracker) : Bool := b.classifying.isNone && b.frameEnd.isNone

/-- What the Blemish Tracker does as soon as its conditions hold: begins the next ready row of the ACTIVE slot, unless a
RESTART or CLOSE_STRIP is pending (R92); in DRAINING begins the frame end of an ACTIVE slot with no ready row, and ends
draining when nothing is left (R54). That draining goes on so while such a command waits for the port is read from R54, which
makes no exception: notes/assumptions/31.md (DESIGN CHOICE for the order of the two). -/
def State.advance (s : State) : State :=
  if s.bt.idle then
    match activeSlot s.fl.slots with
    | some v =>
      if s.rowReady v (s.slot v).classified then
        if s.bt.restartPending || s.bt.closePending then s else s.beginClassification v (s.slot v).classified
      else if s.iu.pass = .draining then s.beginFrameEnd v
      else s
    | none =>
      if s.iu.pass = .draining ∧ s.iu.startQueue = [] then { s with iu := { s.iu with pass := .planned } } else s
  else s

/-- A slot becomes ACTIVE: a new tally, and an empty open table and previous-row list (R99, R110, R111). -/
def State.activate (v : SlotId) (s : State) : State :=
  let s' := s.setSlot v { s.slot v with state := .active }
  { s' with bt := { s'.bt with tally := .zero, openTable := [], previous := [] } }

/-- The oldest slot of the start queue becomes ACTIVE (R53). -/
def State.startNext (s : State) : State :=
  match s.iu.startQueue with
  | v :: rest => State.activate v { s with iu := { s.iu with startQueue := rest } }
  | [] => s

/-- The FRAME_SUMMARY of a frame (R123). -/
def State.summaryOf (s : State) (e : FrameEnd) : FrameSummary :=
  ⟨e.slot, (s.slot e.slot).cleanup, (s.slot e.slot).cut || e.cut, (s.slot e.slot).generation, (s.slot e.slot).clearLevel,
    s.bt.tally⟩

/-- Steps 2 to 4 of a frame end, made together when its marker joins the queue, and what follows: the next started slot
becomes ACTIVE or draining ends (R53, R54, R120). That this may happen, and a slot become ACTIVE, while a pending CLOSE_STRIP
waits for the port, so that the slot is then ended with CUT and not released, is the model's: DESIGN CHOICE,
notes/assumptions/31.md. -/
def State.completeFrameEnd (e : FrameEnd) (s : State) : State :=
  let joined := { s with lw := { s.lw with queue := s.lw.queue ++ [QueueEntry.marker e.slot] } }
  let reported := joined.stage (.frameSummary (s.summaryOf e))
  let x := reported.slot e.slot
  let captured := reported.setSlot e.slot { x with state := .captured, cut := x.cut || e.cut }
  (State.startNext { captured with bt := { captured.bt with frameEnd := none } }).advance

/-! ## Locating -/

/-- A locate operation begins with the inputs as they stand (R66). -/
def State.beginLocate (s : State) : State :=
  match s.iu.strip, s.fl.params with
  | some strip, some params =>
    { s with iu := { s.iu with pass := .locating },
             fl := { s.fl with locating := some ⟨s.fl.profile, params, strip, s.cu.effIrFloor⟩ } }
  | _, _ => { s with iu := { s.iu with pass := .locating } }

/-- What the end of a locate operation does to one free slot: planned with its frame, or released (R74). -/
def State.placeFrame (strip : StripRecord) (placed : List (SlotId × LocatedFrame)) (v : SlotId) (s : State) : State :=
  match placed.find? (fun p => decide (p.1 = v)) with
  | some p => s.planSlot v (p.2.slotPlan strip v)
  | none => s.releaseSlot v

/-- The PLAN report (R76). -/
def planReportOf (generation : Half16) (k : LocateInputs) (plan : LocatePlan) (placed : List (SlotId × LocatedFrame)) :
    PlanReport :=
  ⟨decide (8 < plan.frames.length), plan.noImage, generation, k.profile.length, plan.base, placed.length,
    placed.map (·.1), plan.slivers, plan.frames.length - placed.length⟩

/-- The end of a locate operation: its changes made together (R74). -/
def State.endLocate (k : LocateInputs) (s : State) : State :=
  let plan := k.plan
  let placed := assignments s.fl.slots plan.frames
  let done := State.forSlots (State.placeFrame k.strip placed) (freeSlots s.fl.slots) s
  let reported := done.stage (.plan (planReportOf s.fl.generation k plan placed))
  { reported with fl := { reported.fl with locating := none }, iu := { reported.iu with pass := .planned } }

/-! ## Ending a pass -/

/-- The pass ends: SURVEYING goes to LOCATING and the locate operation begins; CAPTURING goes to DRAINING. The pairing
state is emptied (R44, R48, R58). -/
def State.endPassState (s : State) : State :=
  let s' := { s with iu := { s.iu with pairing := none } }
  match s.iu.pass with
  | .surveying => s'.beginLocate
  | .capturing => State.advance { s' with iu := { s'.iu with pass := .draining } }
  | .stripClosed | .stripOpen | .locating | .planned | .draining => s

/-! ## CLOSE_STRIP and RESTART taking effect -/

/-- Every slot in one of the states a test names becomes VACANT (R63). -/
def State.vacateWhere (p : Slot → Bool) (s : State) : State :=
  State.forSlots State.vacateSlot (allSlots.filter fun v => p (s.slot v)) s

/-- CLOSE_STRIP takes effect (R60). -/
def State.closeStripEffect (s : State) : State :=
  let ended :=
    if s.bt.frameEnd.isSome then s
    else match activeSlot s.fl.slots with
      | some v => s.beginFrameEnd v
      | none => s
  let released := ended.vacateWhere fun x => decide (x.state = .planned)
  State.endRowHold
    { released with
      iu := .powerOn
      cu := { released.cu with overrides := .none }
      fl := { released.fl with profile := [], params := none, locating := none }
      bt := { released.bt with closePending := false } }

/-- RESTART takes effect (R34): every block's processing state returns to its reset values, and its ACK is the first
report staged. The frame end with CUT that R34 runs for an unfinished frame leaves nothing behind: its records, its
marker, its summary and its counts are removed by the same step. DEDUCED, notes/assumptions/22.md. -/
def State.restartEffect (s : State) : State :=
  let clean : State :=
    { s with
      fault := .powerOn
      cu := { s.cu with shadow := [], overrides := .none }
      iu := .powerOn
      fl := .powerOn
      bt := .powerOn
      lw := .powerOn
      ru := s.ru.restarted s.cu.standing
      mc := { s.mc with passedReport := 0, passedList := 0, promoReport := false, promoList := false } }
  State.endRowHold (clean.stageAck 0x0E .done 0)

/-- A pending RESTART, else a pending CLOSE_STRIP, takes effect outside any grant: once no classification is in flight
and no operation holds the downstream port (R33, R34, R59, R94, R196). DEDUCED, notes/assumptions/16.md. -/
def State.pendingEffects (s : State) : State :=
  if s.bt.classifying.isNone && s.mc.port.isNone then
    if s.bt.restartPending then s.restartEffect
    else if s.bt.closePending then s.closeStripEffect
    else s
  else s

/-! ## The end of a row classification -/

/-- The second stage of a classification: spans recorded, runs joined, blemishes closed (R93, R106 to R118), with Ycls
and the tally raised (R94, R99). Several events of one counter are raises by one, each SPAN_OVERFLOW before each
UNTRACKED_RUN before each UNLISTED_BLEMISH: DESIGN CHOICE, notes/assumptions/32.md. -/
def State.recordRow (k : Classification) (s : State) : State :=
  let runs := k.runs
  let x := s.slot k.slot
  let rec0 := recordRuns (x.hasLost k.row) k.slot k.row k.wMax runs ⟨s.bt.spans, [], 0⟩
  let context : RunContext := ⟨k.row, k.width, x.height, k.wMax, false⟩
  let t := Tracking.takeAll context 1 runs rec0.refused ⟨s.bt.openTable, s.bt.previous, [], s.bt.nextKey, 0⟩
  let continued := fun (b : OpenBlemish) => t.current.any fun p => decide (p.key = b.key)
  let tally := s.bt.tally
  let tracked : State :=
    { s with bt := { s.bt with
        spans := rec0.spans
        openTable := t.openTable.filter continued
        previous := t.current
        nextKey := t.nextKey
        tally := { tally with rows := tally.rows + 1, torn := tally.torn + k.torn,
                              spans := tally.spans + rec0.recorded, overflows := tally.overflows + rec0.overflows,
                              untracked := tally.untracked + t.untracked } } }
  let counted := State.countTimes untrackedRun t.untracked (State.countTimes spanOverflow rec0.overflows tracked)
  let closed := counted.closeBlemishes k.minArea k.slot false (t.openTable.filter fun b => !continued b)
  closed.setSlot k.slot { closed.slot k.slot with classified := k.row + 1 }

/-- The half of the row just classified, if any, becomes EMPTY (R94, step 1). -/
def State.emptyHalf (k : Classification) (s : State) : State :=
  { s with bt := { s.bt with classifying := none },
           iu := s.iu.mapHalf (fun _ => IrHalf.vacant) ((s.slot k.slot).top + k.row) }

/-- Step 2 of R94: the frame end begins after the bottom row, or in DRAINING when the next row is not ready. -/
def State.endFrameIfLast (k : Classification) (s : State) : State :=
  if k.row + 1 = (s.slot k.slot).height then s.beginFrameEnd k.slot
  else if s.iu.pass = .draining ∧ s.rowReady k.slot (k.row + 1) = false then s.beginFrameEnd k.slot
  else s

/-- The end of a row classification (R94). A row hold ends with the half unless a RESTART or CLOSE_STRIP is still to
take effect first. -/
def State.endClassification (k : Classification) (s : State) : State :=
  let ended := State.endFrameIfLast k ((s.recordRow k).emptyHalf k)
  if ended.bt.restartPending || ended.bt.closePending then ended.pendingEffects
  else ended.advance.endRowHold

end Sys2Proof.Machine
end

