-- ==== Sys2Proof/Machine/Intake.lean ====
section
/-! DEFINITION. The Intake Unit's work on one intake word (03_strips_and_passes.md): byte swap (R43), pairing (R44),
settling (R45), the row tracker (R46), row completion (R48, R50), survey storage (R49), capture routing and its effects
on the slot (R51, R52), the IR row buffer (R55), late words (R47), the row hold (R57) and the end of a pass (R58). -/

namespace Sys2Proof.Machine

/-- The pitch, declared width and declared row count of a pass (R11). -/
structure IntakeFrame where
  pitch : Nat
  width : Nat
  rows  : Nat
  deriving DecidableEq, Repr

/-- The intake frame of a pass state, none outside SURVEYING and CAPTURING (R11). -/
def intakeFrame (pass : PassState) (strip : Option StripRecord) : Option IntakeFrame :=
  match pass, strip with
  | .surveying, some r => some ⟨r.surveyPitch, r.surveyWidth, r.surveyRows⟩
  | .capturing, some r => some ⟨r.capturePitch, r.captureWidth, r.captureRows⟩
  | _, _ => none

/-- An intake word's place: row, column and word index (R11). -/
structure IntakePlace where
  row  : Nat
  col  : Nat
  word : Nat
  deriving DecidableEq, Repr

/-- The translation of an intake offset (R11). -/
def IntakeFrame.place (f : IntakeFrame) (offset : Nat) : IntakePlace :=
  ⟨offset / f.pitch, offset % f.pitch / 8, offset % 8 / 4⟩

/-- Whether a place lies within the declared rows and width (R12). -/
def IntakeFrame.declares (f : IntakeFrame) (p : IntakePlace) : Bool := decide (p.row < f.rows) && decide (p.col < f.width)

/-! ## Row completion -/

/-- The survey film window's first and last survey column (R50). -/
def StripRecord.filmWindow (r : StripRecord) : Nat × Nat := (r.filmLeft * r.ks / r.kc, r.filmRight * r.ks / r.kc)

/-- The profile entry of a survey row's sums (R50). -/
def StripRecord.profileEntry (r : StripRecord) (gSum iSum : Nat) : ProfileEntry :=
  let n := r.filmWindow.2 - r.filmWindow.1 + 1
  ⟨min 65535 (gSum / n), min 65535 (iSum / n)⟩

/-- The open row completes (R48): in SURVEYING its profile entry is made; in CAPTURING its half goes to WAITING and the
Blemish Tracker is told; the last declared row ends the pass. -/
def State.completeOpenRow (s : State) : State :=
  match s.iu.tracker.current, s.iu.strip with
  | some r, some strip =>
    let marked := { s with iu := { s.iu with tracker := { s.iu.tracker with complete := true } } }
    match s.iu.pass with
    | .surveying =>
      let entry := strip.profileEntry s.iu.tracker.gSum s.iu.tracker.iSum
      let stored := { marked with fl := { marked.fl with profile := marked.fl.profile ++ [entry] } }
      if r + 1 = strip.surveyRows then stored.endPassState else stored
    | .capturing =>
      let waiting := { marked with
        iu := marked.iu.mapHalf (fun h => if h.state = HalfState.filling then { h with state := .waiting } else h) r }
      let told := waiting.advance
      if r + 1 = strip.captureRows then told.endPassState else told
    | .stripClosed | .stripOpen | .locating | .planned | .draining => marked
  | _, _ => s

/-- The open row completes unless it has completed already (R46). -/
def State.completeIfOpen (s : State) : State := if s.iu.tracker.complete then s else s.completeOpenRow

/-- n rows complete as skipped rows: in SURVEYING each makes the entry (0, 0) (R46, R50). -/
def State.skipRows (n : Nat) (s : State) : State :=
  match s.iu.pass with
  | .surveying => { s with fl := { s.fl with profile := s.fl.profile ++ List.replicate n ⟨0, 0⟩ } }
  | .stripClosed | .stripOpen | .locating | .planned | .capturing | .draining => s

/-- Row r becomes current with settled count 0; the rows below it have completed, which the Blemish Tracker is told
(R46, R48). -/
def State.openRow (r : Nat) (s : State) : State :=
  State.advance { s with iu := { s.iu with tracker := { RowTracker.initial with current := some r } } }

/-- Whether a word of row r is a late word (R46). -/
def RowTracker.isLate (t : RowTracker) (r : Nat) : Bool :=
  match t.current with
  | some c => decide (r < c) || (decide (r = c) && t.complete)
  | none => false

/-- The row tracker's treatment of a word of row r that is not late (R46). -/
def State.moveTracker (r : Nat) (s : State) : State :=
  match s.iu.tracker.current with
  | none =>
    let skipped := s.skipRows r
    State.openRow r (if 0 < r then skipped.count rowSkip else skipped)
  | some c =>
    if r = c then s
    else if r = c + 1 then s.completeIfOpen.openRow r
    else ((s.completeIfOpen.skipRows (r - c - 1)).count rowSkip).openRow r

/-! ## Settling -/

/-- A half's entry and torn count after a pixel settles (R45, R87). -/
def IrHalf.settle (clearLevel column ir : Nat) (torn : Bool) (h : IrHalf) : IrHalf :=
  if torn then { h with entries := h.entries.set column clearLevel, torn := h.torn + 1 }
  else { h with entries := h.entries.set column ir }

/-- What a settling does beside the counts: in CAPTURING the entry of a routed pixel whose row holds a half; in
SURVEYING the sums of an untorn pixel in the film window (R45). -/
def State.settleEffect (row col : Nat) (torn : Bool) (g i : Nat) (s : State) : State :=
  match s.iu.pass with
  | .capturing =>
    match routeOf s.fl.slots row col with
    | some v =>
      { s with iu := s.iu.mapHalf (IrHalf.settle (s.slot v).clearLevel (col - (s.slot v).left) i torn) row }
    | none => s
  | .surveying =>
    match s.iu.strip with
    | some strip =>
      if !torn && decide (strip.filmWindow.1 ≤ col) && decide (col ≤ strip.filmWindow.2) then
        { s with iu := { s.iu with tracker := { s.iu.tracker with gSum := s.iu.tracker.gSum + g,
                                                                   iSum := s.iu.tracker.iSum + i } } }
      else s
    | none => s
  | .stripClosed | .stripOpen | .locating | .planned | .draining => s

/-- Whether the open row has settled as many pixels as the pass's declared width (R45). -/
def State.rowFilled (s : State) : Bool :=
  match intakeFrame s.iu.pass s.iu.strip with
  | some f => decide (s.iu.tracker.settled = f.width)
  | none => false

/-- A pixel settles (R45): only a pixel of the open row has an effect. -/
def State.settlePixel (row col : Nat) (torn : Bool) (g i : Nat) (s : State) : State :=
  if s.iu.tracker.current = some row ∧ s.iu.tracker.complete = false then
    let raised := { s with iu := { s.iu with tracker := { s.iu.tracker with settled := s.iu.tracker.settled + 1 } } }
    let counted := if torn then raised.count tornPixel else raised
    let done := counted.settleEffect row col torn g i
    if done.rowFilled then done.completeOpenRow else done
  else s

/-- Whether a pending word 0 is that of a pixel. -/
def PendingWord.isOf (q : PendingWord) (p : IntakePlace) : Bool := decide (q.row = p.row) && decide (q.col = p.col)

/-- Pairing before the tracker moves: a pending pixel the arriving word does not complete settles torn, and a word 0
becomes pending (R44). DEDUCED, notes/assumptions/13.md. That the word 0 becomes pending also when that settling ends the pass,
which empties the pairing state, is the model's: DESIGN CHOICE, notes/assumptions/34.md. -/
def State.pairWord (p : IntakePlace) (b : Beat) (s : State) : State :=
  let settled :=
    match s.iu.pairing with
    | some q => if p.word = 1 ∧ q.isOf p then s else s.settlePixel q.row q.col true 0 0
    | none => s
  { settled with iu := { settled.iu with
      pairing := if p.word = 0 then some ⟨p.row, p.col, b.isFull, b.data⟩ else none } }

/-- The settling of an arriving word 1's own pixel, after the word is stored: torn unless both words arrived full as a
pair (R44). `q` is the pending word 0 as the word arrived. -/
def State.settleOwn (p : IntakePlace) (b : Beat) (q : Option PendingWord) (s : State) : State :=
  if p.word = 1 then
    match q with
    | some q =>
      if q.isOf p && q.full && b.isFull then
        s.settlePixel p.row p.col false (Word.highSample q.word) (Word.highSample b.data)
      else s.settlePixel p.row p.col true 0 0
    | none => s.settlePixel p.row p.col true 0 0
  else s

/-! ## Capture storage -/

/-- A half taken by a routed row: every entry at the slot's clear level, torn count 0 (R55). -/
def IrHalf.taken (row : Nat) (v : SlotId) (x : Slot) : IrHalf :=
  ⟨.filling, row, v, List.replicate x.width x.clearLevel, 0⟩

/-- The first routed word of a row takes an EMPTY half if there is one (R55); which of two has no observable effect. -/
def State.takeHalf (row : Nat) (v : SlotId) (s : State) : State :=
  if s.iu.tracker.begun then s
  else
    let iu := { s.iu with tracker := { s.iu.tracker with begun := true } }
    if s.iu.halfA.state = .empty then { s with iu := { iu with halfA := IrHalf.taken row v (s.slot v) } }
    else if s.iu.halfB.state = .empty then { s with iu := { iu with halfB := IrHalf.taken row v (s.slot v) } }
    else { s with iu := iu }

/-- The view of an access follows a raise of Ymax and its retirement within the access (R127). -/
def AccessView.raiseNewest (v : SlotId) (y : Nat) (w : AccessView) : AccessView :=
  let x := { w.slots.get v with newest := some y }
  { w with slots := w.slots.set v.val x, spans := retireLostSpans v x w.spans }

/-- Ymax raised to y if absent or below it, and the spans of the rows that lost their band lines retired (R51, R108). -/
def State.raiseNewest (v : SlotId) (y : Nat) (s : State) : State :=
  let x := s.slot v
  let raises := match x.newest with
    | some n => decide (n < y)
    | none => true
  if raises then
    let x' := { x with newest := some y }
    let s' := s.setSlot v x'
    { s' with bt := { s'.bt with spans := retireLostSpans v x' s'.bt.spans },
              upstream := s'.upstream.map fun a => { a with view := a.view.raiseNewest v y } }
  else s

/-- The first routed, non-late word of a PLANNED slot starts it (R52). -/
def State.startSlot (v : SlotId) (s : State) : State :=
  let x := s.slot v
  if x.state = .planned ∧ v ∉ s.iu.startQueue then
    let s' := if x.clearLevel < s.cu.effIrFloor then s.setSlot v { x with cleanup := .opaqueFilm } else s
    match activeSlot s'.fl.slots with
    | none => (s'.activate v).advance
    | some _ => { s' with iu := { s'.iu with startQueue := s'.iu.startQueue ++ [v] } }
  else s

/-- A capture word stored (R47, R51): a margin word is dropped; a late word is stored only where its row is resident;
any other is stored, takes a half, raises Ymax and may start its slot. -/
def State.storeCapture (p : IntakePlace) (b : Beat) (late : Bool) (s : State) : State :=
  match routeOf s.fl.slots p.row p.col with
  | none => s
  | some v =>
    let x := s.slot v
    let y := p.row - x.top
    let a := x.bandAddress (y % x.bandLines) (p.col - x.left) p.word
    if late then
      if x.isResident y then { s with mem := s.mem.writeBeat a b } else s
    else
      (((State.takeHalf p.row v { s with mem := s.mem.writeBeat a b }).raiseNewest v y).startSlot v)

/-- A survey word stored (R49). -/
def State.storeSurvey (r : StripRecord) (p : IntakePlace) (b : Beat) (s : State) : State :=
  { s with mem := s.mem.writeBeat (r.surveyBase + p.row * r.surveyPitch + p.col * 8 + p.word * 4) b }

/-- LATE_WRITE counted once for the access (R47). DESIGN CHOICE, notes/assumptions/14.md. -/
def State.countLate (s : State) : State :=
  match s.upstream with
  | some a =>
    if a.lateCounted then s else State.count lateWrite { s with upstream := some { a with lateCounted := true } }
  | none => s

/-- IU's steps on one intake word, in their order: byte order, pairing, tracker, storage, own settling. -/
def State.intakeWord (pass : PassState) (r : StripRecord) (p : IntakePlace) (beat : Beat) (s : State) : State :=
  let b := match r.sampleOrder with
    | .little => beat
    | .big => beat.swapSamples
  let q := s.iu.pairing
  let paired := s.pairWord p b
  let late := paired.iu.tracker.isLate p.row
  let moved := if late then paired.countLate else paired.moveTracker p.row
  let stored := match pass with
    | .surveying => moved.storeSurvey r p b
    | .capturing => moved.storeCapture p b late
    | .stripClosed | .stripOpen | .locating | .planned | .draining => moved
  stored.settleOwn p b q

/-! ## The row hold and the end of a pass -/

/-- Whether an intake place would begin a new routed row (R57). -/
def State.beginsRow (s : State) (p : IntakePlace) : Bool :=
  (routeOf s.fl.slots p.row p.col).isSome &&
    (match s.iu.tracker.current with
     | some c => decide (c < p.row) || (decide (p.row = c) && !s.iu.tracker.complete && !s.iu.tracker.begun)
     | none => true)

/-- Whether IU would hold an intake word at an offset (R57). -/
def State.holdsOffset (s : State) (offset : Nat) : Bool :=
  match s.iu.pass, s.iu.strip with
  | .capturing, some r =>
    let f : IntakeFrame := ⟨r.capturePitch, r.captureWidth, r.captureRows⟩
    f.declares (f.place offset) && s.beginsRow (f.place offset)
  | _, _ => false

/-- What END_PASS does (R58): the pending word 0 settles torn, the open row completes, and the pass ends. -/
def State.endPassEffect (s : State) : State :=
  let settled := match s.iu.pairing with
    | some q => s.settlePixel q.row q.col true 0 0
    | none => s
  let completed := match settled.iu.tracker.current with
    | some _ => settled.completeIfOpen
    | none => settled
  let ended := completed.endPassState
  { ended with iu := { ended.iu with pairing := none } }

end Sys2Proof.Machine
end

