-- ==== Sys2Proof/Machine/Lists.lean ====
section
/-! DEFINITION. The List Writer (08_blemish_lists.md): the request level (R163), the operation chosen at a grant (R164),
loads, closes and record writes (R156 to R158), following the chain (R159), the watched word (R160, R161), attaching
and detaching (R155, R162). -/

namespace Sys2Proof.Machine

/-- A request level at the arbiter (R163, R171). -/
inductive RequestLevel where
  | none | normal | urgent
  deriving DecidableEq, Repr

/-- A frame-end marker. -/
def QueueEntry.isMarker : QueueEntry → Bool
  | .marker _ => true
  | .record _ => false

/-- The List Writer's request level (R163). -/
def ListWriter.level (st : Settings) (w : ListWriter) : RequestLevel :=
  match w.state with
  | .unchained | .stalled => .none
  | .loading => if st.urgent ≤ w.queue.length then .urgent else .normal
  | .filling =>
    if st.urgent ≤ w.queue.length then .urgent
    else if st.burst ≤ w.queue.length || w.queue.any QueueEntry.isMarker then .normal
    else .none

/-- A usable descriptor address: a multiple of 32 below S, and not 0 (R153). -/
def usableAddress (size a : Nat) : Bool := decide (a ≠ 0) && multipleOf 32 a && decide (a < size)

/-- Valid buffer fields (R153). -/
def DescriptorCopy.valid (size : Nat) (d : DescriptorCopy) : Bool :=
  multipleOf 32 d.buffer && multipleOf 32 d.capacity && decide (64 ≤ d.capacity)
    && decide (d.buffer + d.capacity ≤ size)

/-- The operation LW's grant is used for, chosen from its state and queue (R156, R157, R164). -/
def ListWriter.chooseOp (w : ListWriter) : Option ListOp :=
  match w.state with
  | .loading => some (if w.rejectPending then .rejectedClose else .load)
  | .filling =>
    match w.queue with
    | .record r :: _ =>
      if w.filled + r.length ≤ (w.copy.map (·.capacity)).getD 0 then some (.recordWrite r) else some .closeFull
    | .marker v :: _ => some (.closeFrameEnd v)
    | [] => none
  | .unchained | .stalled => none

/-- A descriptor becomes current and its load is still to be made (R155, R159, R161). The copies, filled count and serials stay
as they stand until the load (R154): DEDUCED, notes/assumptions/33.md. -/
def ListWriter.goTo (a : Nat) (w : ListWriter) : ListWriter :=
  { w with state := .loading, current := some a, rejectPending := false }

/-- The writer stalls on its current descriptor (R159), with the copies, filled count and serials held as they stand (R154). -/
def ListWriter.stall (w : ListWriter) : ListWriter := { w with state := .stalled, rejectPending := false }

/-- The writer stalls, and LIST_STALL carries the descriptor's address and the value that stalled it (R159). -/
def State.stallOn (address value : Nat) (s : State) : State :=
  State.stage (.listStall address value) { s with lw := s.lw.stall }

/-- The writer follows next after a close (R159). -/
def State.followNext (s : State) : State :=
  let address := s.lw.current.getD 0
  let next := (s.lw.copy.map (·.next)).getD 0
  if usableAddress s.mc.size next then { s with lw := s.lw.goTo next } else s.stallOn address next

/-- Bytes 0x0C to 0x1B of the current descriptor written (R219). -/
def State.writeCloseBytes (bytes : List Byte) (s : State) : State :=
  { s with mem := s.mem.writeBytes (s.lw.current.getD 0 + 0x0C) bytes }

/-- A close with the filled count and the serials written into the current descriptor (R158). -/
def State.writeClose (status : CloseStatus) (slot : Option SlotId) (s : State) : State :=
  s.writeCloseBytes (closeBytes s.lw.filled status slot s.lw.firstSerial s.lw.lastSerial)

/-- The load of the current descriptor (R156). -/
def State.loadDescriptor (s : State) : State :=
  let a := s.lw.current.getD 0
  let d : DescriptorCopy := ⟨s.mem.read32 a, s.mem.read32 (a + 4), s.mem.read32 (a + 8)⟩
  let w := { s.lw with copy := some d }
  if d.valid s.mc.size then
    { s with lw := { w with state := .filling, filled := 0, firstSerial := none, lastSerial := none } }
  else { s with lw := { w with rejectPending := true } }

/-- The REJECTED close, with filled 0 and both serials 0: the writer then follows next, but stalls on a link to itself
(R156). -/
def State.closeRejected (s : State) : State :=
  let address := s.lw.current.getD 0
  let closed := s.writeCloseBytes (closeBytes 0 .rejected none none none)
  if (s.lw.copy.map (·.next)).getD 0 = address then closed.stallOn address address else closed.followNext

/-- The oldest entry leaves the holding queue (R152). -/
def ListWriter.dequeue (w : ListWriter) : ListWriter := { w with queue := w.queue.tail }

/-- The write of a record into the current buffer (R157). -/
def State.writeRecord (r : BlemishRecord) (s : State) : State :=
  let buffer := (s.lw.copy.map (·.buffer)).getD 0
  { s with
    mem := s.mem.writeBytes (buffer + s.lw.filled) r.bytes
    lw := { s.lw.dequeue with
      filled := s.lw.filled + r.length
      firstSerial := some (s.lw.firstSerial.getD r.serial)
      lastSerial := some r.serial } }

/-- A FULL close: the record that did not fit stays at the head (R157). -/
def State.closeFull (s : State) : State := (s.writeClose .full none).followNext

/-- A FRAME_END close: the marker leaves the queue (R157). -/
def State.closeFrameEnd (v : SlotId) (s : State) : State :=
  let closed := s.writeClose .frameEnd (some v)
  State.followNext { closed with lw := closed.lw.dequeue }

/-- The watched word's address, outside UNCHAINED (R160). -/
def ListWriter.watchedWord (w : ListWriter) : Option Nat :=
  match w.state with
  | .unchained => none
  | .loading | .filling | .stalled => w.current

/-- What LW does with a write of the watched word (R160, R161): a full nonzero write replaces the copy of next, or
resumes a STALLED writer; every other write is ignored. -/
def State.watchedWrite (b : Beat) (s : State) : State :=
  let value := b.data.toNat
  if b.isFull && decide (value ≠ 0) then
    match s.lw.state with
    | .unchained => s
    | .loading | .filling => { s with lw := { s.lw with copy := s.lw.copy.map fun d => { d with next := value } } }
    | .stalled =>
      if usableAddress s.mc.size value then { s with lw := s.lw.goTo value }
      else s.stallOn (s.lw.current.getD 0) value
  else s

/-- CHAIN with a nonzero head (R155): a usable head becomes current; an unusable one raises DESCRIPTOR_REJECTED. -/
def State.attachChain (head : Nat) (s : State) : State :=
  if usableAddress s.mc.size head then { s with lw := s.lw.goTo head }
  else s.raiseFault ⟨false, .descriptorRejected, BitVec.ofNat 32 head, .command, 0, s.iu.pass, none⟩

/-- CHAIN with head 0 (R162): a FILLING descriptor is closed DETACHED, and the writer goes to UNCHAINED; entries in the
holding queue stay. -/
def State.detachChain (s : State) : State :=
  let closed := match s.lw.state with
    | .filling => s.writeClose .detached none
    | .unchained | .loading | .stalled => s
  { closed with lw := { ListWriter.powerOn with queue := s.lw.queue } }

end Sys2Proof.Machine
end

