-- ==== Sys2Proof/Machine/Mend.lean ====
section
/-! DEFINITION. The Mend Unit's computation of one pixel (07_the_mended_view.md): the five steps of R129, span repair
(R132 to R136), column mend (R137 to R140) and faint correction (R141 to R146). Pure functions of memory and of the
view fixed at the access's grant (R127). -/

namespace Sys2Proof.Machine

/-- The pixel two memory words hold (R200). -/
def pixelOfWords (w0 w1 : Word) : Pixel :=
  ⟨Word.lowSample w0, Word.highSample w0, Word.lowSample w1, Word.highSample w1⟩

/-- Word 0 of a pixel returns R and G, word 1 returns B and I (R126). -/
def Pixel.word (p : Pixel) (index : Nat) : Word := if index = 0 then samplesWord p.r p.g else samplesWord p.b p.i

/-- The raw pixel of a band line and column (R128). -/
def rawPixel (m : Memory) (x : Slot) (line column : Nat) : Pixel :=
  pixelOfWords (m.readWord (x.bandAddress line column 0)) (m.readWord (x.bandAddress line column 1))

/-- One interpolated sample (R136). -/
def interpolate (n k a b : Nat) : Nat := (a * (n + 1 - k) + b * k + (n + 1) / 2) / (n + 1)

/-- All four samples interpolated between two anchors (R136). -/
def interpolatePixel (n k : Nat) (a b : Pixel) : Pixel :=
  ⟨interpolate n k a.r b.r, interpolate n k a.g b.g, interpolate n k a.b b.b, interpolate n k a.i b.i⟩

/-- A computed pixel and the event it counts, if any (R126, R147). -/
structure MendResult where
  pixel : Pixel
  event : Option CounterId
  deriving DecidableEq, Repr

/-- The repair of columns start to stop from the anchors present (R134, R135, R139). -/
def repairBetween (m : Memory) (x : Slot) (line start stop column : Nat) : MendResult :=
  let anchorA := if start = 0 then none else some (rawPixel m x line (start - 1))
  let anchorB := if stop + 1 = x.width then none else some (rawPixel m x line (stop + 1))
  match anchorA, anchorB with
  | some a, some b => ⟨interpolatePixel (stop - start + 1) (column - start + 1) a b, none⟩
  | none, some b => ⟨b, none⟩
  | some a, none => ⟨a, none⟩
  | none, none => ⟨rawPixel m x line column, some unmendedRead⟩

/-- The first column of the group of listed columns that reaches column c from the left (R137). -/
def groupStart (listed : List Nat) (left : Nat) : Nat → Nat
  | 0 => 0
  | c + 1 => if isListed listed left c then groupStart listed left c else c + 1

/-- The last column of the group, looking at most `fuel` columns to the right of c (R137). -/
def groupStop (listed : List Nat) (left : Nat) : Nat → Nat → Nat
  | 0, c => c
  | fuel + 1, c => if isListed listed left (c + 1) then groupStop listed left fuel (c + 1) else c

/-- The span of a slot and row that holds a column, if any; at most one does (R105, R132). -/
def spanAt (spans : List Span) (v : SlotId) (row column : Nat) : Option Span :=
  spans.find? fun sp =>
    decide (sp.slot = v) && decide (sp.row = row) && decide (sp.start ≤ column) && decide (column ≤ sp.stop)

/-- One corrected visible sample (R144). -/
def correctSample (clearLevel ir v : Nat) : Nat := min 65535 ((v * clearLevel + ir / 2) / ir)

/-- A faint pixel corrected; its infrared becomes the clear level (R144, R145). -/
def correctPixel (clearLevel ir : Nat) (p : Pixel) : Pixel :=
  ⟨correctSample clearLevel ir p.r, correctSample clearLevel ir p.g, correctSample clearLevel ir p.b, clearLevel⟩

/-- Step 5: the class of the pixel at this read (R142 to R146). -/
def mendByClass (m : Memory) (x : Slot) (tDense tFaint line column : Nat) : MendResult :=
  let raw := rawPixel m x line column
  let ir := (rawPixel m x line (registeredColumn x.dx x.width column)).i
  match classOfTransmission tDense tFaint (transmission ir x.clearLevel) with
  | .dense => ⟨raw, some unmendedRead⟩
  | .faint =>
    match x.cleanup with
    | .full => ⟨correctPixel x.clearLevel ir raw, none⟩
    | .denseOnly | .off | .opaqueFilm => ⟨raw, none⟩
  | .clean | .bridge => ⟨raw, none⟩

/-- Step 3 for a listed column (R137 to R139). -/
def mendColumn (m : Memory) (x : Slot) (columns : List Nat) (line column : Nat) : MendResult :=
  let first := groupStart columns x.left column
  let last := groupStop columns x.left (x.width - 1 - column) column
  if 4 < last - first + 1 then ⟨rawPixel m x line column, some unmendedRead⟩
  else repairBetween m x line first last column

/-- A computation: the steps of R129 in order. -/
def mend (m : Memory) (w : AccessView) (v : SlotId) (line column : Nat) : MendResult :=
  let x := w.slots.get v
  match x.residentRow line with
  | none => ⟨rawPixel m x line column, some earlyRead⟩
  | some y =>
    if x.classified ≤ y then ⟨rawPixel m x line column, some earlyRead⟩
    else
      match spanAt w.spans v y column with
      | some sp =>
        if sp.wide then ⟨rawPixel m x line column, some unmendedRead⟩
        else repairBetween m x line sp.start sp.stop column
      | none =>
        if isListed w.columns x.left column then mendColumn m x w.columns line column
        else if x.cleanup.classifies then mendByClass m x w.tDense w.tFaint line column
        else ⟨rawPixel m x line column, none⟩

end Sys2Proof.Machine
end

