-- ==== Sys2Proof/Machine/Arbiter.lean ====
section
/-! DEFINITION. The Memory Controller's arbiter (10_memory_controller_and_arbitration.md): the standing requests and
their levels (R163, R171, R188), rank (R192), promotion (R193), the grant of one whole operation (R189, R191) and what
follows its completion; and the form every event of the part has. -/

namespace Sys2Proof.Machine

/-! ## Requests -/

/-- The pending plan entries in ascending slot order (R77). -/
def FrameLocator.pendingEntries (f : FrameLocator) : List (SlotId × PlanEntry) :=
  allSlots.filterMap fun v => (f.planPending.get v).map fun e => (v, e)

/-- Whether a staged report can be written: a ring is set and not full (R171). -/
def State.canWriteReport (s : State) : Bool :=
  !s.ru.staging.isEmpty && decide (s.cu.standing.slotCount ≠ 0) && decide (s.ru.unread < s.cu.standing.slotCount)

/-- The report writer's request level (R77, R171). -/
def State.reportLevel (s : State) : RequestLevel :=
  if !s.fl.pendingEntries.isEmpty || s.canWriteReport then
    (if s.ru.staging.length < Config.stagingCap then .normal else .urgent)
  else .none

/-- The List Writer's request level (R163). -/
def State.listLevel (s : State) : RequestLevel := s.lw.level s.cu.standing

/-- Whether the upstream access asks for the port (R4, R6). -/
def State.upstreamAsks (s : State) : Bool :=
  match s.upstream with
  | some a => decide (a.phase = .asking)
  | none => false

/-- The requesters at the arbiter. -/
inductive Requester where
  | refresh | reportWriter | listWriter | upstream
  deriving DecidableEq, Repr

/-- The standing request of highest rank (R192). -/
def State.winner (s : State) : Option Requester :=
  let report := s.reportLevel
  let list := s.listLevel
  if Config.debtUrgent ≤ s.mc.debt then some .refresh
  else if report = .urgent ∨ (report = .normal ∧ s.mc.promoReport) then some .reportWriter
  else if list = .urgent ∨ (list = .normal ∧ s.mc.promoList) then some .listWriter
  else if s.upstreamAsks then some .upstream
  else if report = .normal then some .reportWriter
  else if list = .normal then some .listWriter
  else if 1 ≤ s.mc.debt then some .refresh
  else none

/-! ## Grants -/

/-- What an access takes as it stands at its grant (R4, R127). -/
def State.viewNow (s : State) : AccessView :=
  ⟨s.iu.pass, s.iu.strip, s.fl.slots, s.cu.effDense, s.cu.effFaint, s.cu.columns, s.bt.spans⟩

/-- An access goes into service under the state as it stands (R4). -/
def State.beginService (s : State) : State :=
  { s with upstream := s.upstream.map fun a => { a with phase := .serving, view := s.viewNow } }

/-- A writer's pass-over count and promotion after an upstream grant made while it stands at a level (R193). -/
def passOver (level : RequestLevel) (count : Nat) (promoted : Bool) : Nat × Bool :=
  if level = .normal ∧ promoted = false then (count + 1, decide (Config.passOverLimit ≤ count + 1)) else (count, promoted)

/-- The grant of the port to the upstream access: pass-over counts rise, and WRITER_PROMOTE is counted for each
promotion (R193). -/
def State.grantUpstream (s : State) : State :=
  let r := passOver s.reportLevel s.mc.passedReport s.mc.promoReport
  let l := passOver s.listLevel s.mc.passedList s.mc.promoList
  let promotions := bit (r.2 && !s.mc.promoReport) + bit (l.2 && !s.mc.promoList)
  let served := s.beginService
  let granted := { served with
    mc := { served.mc with port := some .upstream, passedReport := r.1, promoReport := r.2, passedList := l.1,
                           promoList := l.2 } }
  if promotions = 0 then granted else granted.countBy writerPromote promotions

/-- The grant to the report writer: the plan entries pending and whether a report is written are taken as the grant
begins (R77, R171); its pass-over count and promotion end (R193). DEDUCED, notes/assumptions/20.md. -/
def State.grantReport (s : State) : State :=
  { s with
    mc := { s.mc with port := some (.report s.fl.pendingEntries s.canWriteReport), passedReport := 0,
                      promoReport := false }
    fl := { s.fl with planPending := Vector.replicate 8 none } }

/-- The grant to the List Writer, which chooses its operation (R164); its pass-over count and promotion end (R193). -/
def State.grantList (s : State) : State :=
  match s.lw.chooseOp with
  | some op => { s with mc := { s.mc with port := some (.list op), passedList := 0, promoList := false } }
  | none => s

/-- The grant to refresh (R188). -/
def State.grantRefresh (s : State) : State := { s with mc := { s.mc with port := some .refresh } }

/-- The grant of the port to one requester for one whole operation (R189, R191). -/
def State.grant (w : Requester) (s : State) : State :=
  match w with
  | .upstream => s.grantUpstream
  | .reportWriter => s.grantReport
  | .listWriter => s.grantList
  | .refresh => s.grantRefresh

/-- An operation completes: the port is free, and a RESTART or CLOSE_STRIP that waited for it takes effect (R196). -/
def State.finishOperation (s : State) : State :=
  State.pendingEffects { s with mc := { s.mc with port := none } }

/-! ## The form of an event -/

/-- A writer whose request has ceased to stand has no pass-over count and no promotion (R193). -/
def State.settleRequests (s : State) : State :=
  let noReport := decide (s.reportLevel = .none)
  let noList := decide (s.listLevel = .none)
  { s with mc := { s.mc with
      passedReport := if noReport then 0 else s.mc.passedReport
      promoReport := !noReport && s.mc.promoReport
      passedList := if noList then 0 else s.mc.passedList
      promoList := !noList && s.mc.promoList } }

/-- An event of the part. When its condition holds it happens, and the writers' requests settle; when it does not hold
there is no such event, and the state stays as it is (notes/assumptions/1.md). -/
def occurs (condition : Bool) (after : State) (s : State) : Host.Outcome State Fault Refusal :=
  .next (if condition then after.settleRequests else s)

/-- Whether the part is up: RESET_N released and the SDRAM start-up ended (R185, R186). -/
def State.isRunning (s : State) : Bool := decide (s.mc.phase = .running)

end Sys2Proof.Machine
end

