-- ==== Sys2Proof/Machine/Path.lean ====
section
/-! DEFINITION. The Path Decoder and the upstream port (01_the_memory_path.md): zones (R3), the access from its
presentation to its completion (R2, R6), the service of each word in its zone (R5 to R14), and the hand-overs that
follow a write (R5): one meaning for each word-level row of the table. -/

namespace Sys2Proof.Machine

/-! ## Accesses, words and zones -/

/-- The five zones (R3). -/
inductive Zone where
  | plain | bulletin | unbacked | intake | view
  deriving DecidableEq, Repr

/-- The zone of a word address (R3). -/
def zoneOf (size a : Nat) : Zone :=
  if Config.viewBase ≤ a then .view
  else if Config.intakeBase ≤ a then .intake
  else if size ≤ a then .unbacked
  else if size ≤ a + Config.bulletinBytes then .bulletin
  else .plain

/-- The byte address an access presents. -/
def requestAddress : UpstreamReq → Nat
  | .read a _ => a.toNat
  | .write a _ => a.toNat

/-- Whether an access is a write. -/
def requestIsWrite : UpstreamReq → Bool
  | .read _ _ => false
  | .write _ _ => true

/-- The address of word i: the aligned first address plus 4 × i, modulo 2^30 (R1). -/
def wordAddress (r : UpstreamReq) (i : Nat) : Nat := (requestAddress r / 4 * 4 + 4 * i) % 1073741824

/-- The beat of word i of a write; a read has none. -/
def requestBeat (r : UpstreamReq) (i : Nat) : Beat :=
  match r with
  | .read _ _ => ⟨0, 0⟩
  | .write _ bs => bs.getD i ⟨0, 0⟩

/-- A word of an access: its burst position, address and zone, and for a write its beat. -/
structure WordItem where
  position : Nat
  address  : Nat
  zone     : Zone
  isWrite  : Bool
  beat     : Beat
  deriving DecidableEq, Repr

/-- Word i of an access. -/
def State.wordAt (s : State) (a : Access) (i : Nat) : WordItem :=
  ⟨i, wordAddress a.req i, zoneOf s.mc.size (wordAddress a.req i), requestIsWrite a.req, requestBeat a.req i⟩

/-- The bulletin offset of an address (R8). -/
def State.bulletinOffset (s : State) (a : Nat) : Nat := a - bulletinBase s.mc.size

/-- An intake word's offset, its address minus 0x2000_0000 (R11): the zone's 0x1000_0000 bytes begin at a multiple of
their number, so the offset is the address modulo that number. -/
def intakeOffset (a : Nat) : Nat := a % 0x10000000

/-- A view word's offset in the zone, its address minus 0x3000_0000 (R14), written in the same way. -/
def viewOffset (a : Nat) : Nat := a % 0x10000000

/-- Whether every word of an access lies in the UNBACKED zone (R4). -/
def allUnbacked (size : Nat) (r : UpstreamReq) : Bool :=
  (List.range r.wordCount).all fun i => decide (zoneOf size (wordAddress r i) = .unbacked)

/-- Whether IU holds an access offered to it: an intake write word that would begin a new routed row while no half is
EMPTY (R57). DEDUCED, notes/assumptions/11.md. -/
def State.holdsAccess (s : State) (r : UpstreamReq) : Bool :=
  s.iu.noHalfFree && requestIsWrite r &&
    (List.range r.wordCount).any fun i =>
      decide (zoneOf s.mc.size (wordAddress r i) = .intake) && s.holdsOffset (intakeOffset (wordAddress r i))

/-- The phase of an access that is decoded and offered to IU (R4, R6). DEDUCED, notes/assumptions/26.md. -/
def State.admittedPhase (s : State) (r : UpstreamReq) : AccessPhase :=
  if allUnbacked s.mc.size r then .serving else if s.holdsAccess r then .rowHeld else .asking

/-- The access held at the port, offered to IU now that the start-up has ended (R6, R185). -/
def State.offerHeld (s : State) : State :=
  { s with upstream := s.upstream.map fun a => { a with phase := s.admittedPhase a.req, view := s.viewNow } }

/-- An access as it arrives at the port. -/
def State.present (r : UpstreamReq) (s : State) : State :=
  { s with upstream := some ⟨r, .startupHeld, 0, [], [], false, false, false, s.viewNow, none⟩, completion := none }

/-- The word an access is to have served next: the access is in service, no hand-over of the word before it is
outstanding and no post waits to be taken (R5, R6). -/
def State.wordInService (s : State) : Option WordItem :=
  match s.upstream with
  | some a =>
    if a.phase = .serving ∧ a.handed = [] ∧ s.cu.posted = none ∧ a.served < a.req.wordCount then
      some (s.wordAt a a.served)
    else none
  | none => none

/-- The last word served, whose hand-overs may be outstanding. -/
def State.wordHanded (s : State) : Option WordItem := s.upstream.map fun a => s.wordAt a (a.served - 1)

/-- The service of a word in its zone, when one of its kind is next: the form of the word-level rows. -/
def serve (fits : WordItem → Bool) (effect : WordItem → State → State) (s : State) :
    Host.Outcome State Fault Refusal :=
  match s.wordInService with
  | some w => occurs (fits w) (effect w s) s
  | none => occurs false s s

/-- The word is served: a write with the hand-overs still to be acted on. -/
def State.wordWritten (handed : List HandOver) (s : State) : State :=
  { s with upstream := s.upstream.map fun a => { a with served := a.served + 1, handed := handed } }

/-- The word is served: a read with the value its zone yields (R2). -/
def State.wordRead (value : Word) (s : State) : State :=
  { s with upstream := s.upstream.map fun a => { a with served := a.served + 1, data := a.data ++ [value] } }

/-- The first faulting word of an access raises a fault; later ones raise none (R15). -/
def State.wordFault (kind : FaultKind) (slot : Option SlotId) (w : WordItem) (s : State) : State :=
  match s.upstream with
  | some a =>
    if a.faulted then s
    else
      State.raiseFault
        ⟨false, kind, BitVec.ofNat 32 w.address, if w.isWrite then .write else .read, w.position, a.view.pass, slot⟩
        { s with upstream := some { a with faulted := true } }
  | none => s

/-! ## Plain and bulletin words -/

/-- Whether a write at an address is offered to LW (R5, R160). -/
def State.offersListWriter (s : State) (a : Nat) : List HandOver :=
  if s.lw.watchedWord = some a then [.listWriter] else []

/-- A PLAIN write: memory, then the offer to LW (R7). -/
def State.plainWriteEffect (w : WordItem) (s : State) : State :=
  State.wordWritten (s.offersListWriter w.address) { s with mem := s.mem.writeBeat w.address w.beat }

/-- A PLAIN or BULLETIN read: memory, then, for a PLAIN word, the offer to RU (R7, R8, R178). -/
def State.plainReadEffect (w : WordItem) (s : State) : State :=
  let read := s.wordRead (s.mem.readWord w.address)
  match w.zone with
  | .plain => { read with ru := read.ru.acknowledgeRead read.cu.standing w.address }
  | .bulletin | .unbacked | .intake | .view => read

/-- What CU does with a bulletin write handed to it (R8, R20, R21): the enabled bytes of the command record enter the
shadow; a full post word with bytes 1 to 3 zero posts its kind; any other write at 0x100 is rejected and counted. -/
def State.commandSnoop (offset : Nat) (b : Beat) (s : State) : State :=
  if offset < 0x100 then { s with cu := { s.cu with shadow := s.cu.shadow.writeBeat offset b } }
  else if offset = 0x100 then
    if b.isFull && decide (b.data.toNat < 256) then { s with cu := { s.cu with posted := some (Word.byte b.data 0) } }
    else s.count bulletinReject
  else s

/-- CU acts on the last served word when it is next in the order of hand-overs (R5). -/
def State.runCommandUnit (s : State) : State :=
  match s.upstream, s.wordHanded with
  | some a, some w =>
    match a.handed with
    | .commandUnit :: rest =>
      State.commandSnoop (s.bulletinOffset w.address) w.beat { s with upstream := some { a with handed := rest } }
    | _ => s
  | _, _ => s

/-- The hand-overs of a bulletin write in the order of R5's table: LW, CU, RU. -/
def State.bulletinHandOvers (s : State) (address : Nat) : List HandOver :=
  s.offersListWriter address
    ++ (if s.bulletinOffset address < 0x108 then [.commandUnit] else [])
    ++ (if s.bulletinOffset address = 0x104 then [.reportUnit] else [])

/-- A BULLETIN write: memory, then the hand-overs; CU acts here unless LW comes before it (R5, R8). -/
def State.bulletinWriteEffect (w : WordItem) (s : State) : State :=
  State.runCommandUnit
    (State.wordWritten (s.bulletinHandOvers w.address) { s with mem := s.mem.writeBeat w.address w.beat })

/-- Whether a hand-over is the next outstanding one. -/
def State.nextHandOver (s : State) (h : HandOver) : Bool :=
  match s.upstream with
  | some a => decide (a.handed.head? = some h)
  | none => false

/-- The next outstanding hand-over is acted on. -/
def State.dropHandOver (s : State) : State :=
  { s with upstream := s.upstream.map fun a => { a with handed := a.handed.tail } }

/-- LW acts on the write of its watched word, and CU then takes its own hand-over of the same word (R5, R160).
DEDUCED, notes/assumptions/6.md. -/
def State.watchedWordEffect (s : State) : State :=
  match s.wordHanded with
  | some w => (State.watchedWrite w.beat s.dropHandOver).runCommandUnit
  | none => s

/-- RU's treatment of a taken-count write (R174): accepted in the ring window, else counted in BULLETIN_REJECT. -/
def State.takenCountEffect (s : State) : State :=
  match s.wordHanded with
  | some w =>
    let s' := s.dropHandOver
    if w.beat.isFull && s'.ru.takenInWindow s'.cu.standing.slotCount w.beat.data then
      State.drainRing { s' with ru := s'.ru.takenAccepted s'.cu.standing w.beat.data }
    else s'.count bulletinReject
  | none => s

/-! ## Unbacked, intake and view words -/

/-- An UNBACKED word: dropped or zero, with fault UNBACKED (R10). -/
def State.unbackedEffect (w : WordItem) (s : State) : State :=
  let faulted := s.wordFault .unbacked none w
  if w.isWrite then faulted.wordWritten [] else faulted.wordRead 0

/-- ROW_OVERRUN counted once for the access (R12). DESIGN CHOICE, notes/assumptions/14.md. -/
def State.countOverrun (s : State) : State :=
  match s.upstream with
  | some a =>
    if a.overCounted then s else State.count rowOverrun { s with upstream := some { a with overCounted := true } }
  | none => s

/-- The view an access was granted (R4); without an access, the state as it stands. -/
def State.accessView (s : State) : AccessView :=
  match s.upstream with
  | some a => a.view
  | none => s.viewNow

/-- An INTAKE write by the first case of R12 that applies. -/
def State.intakeWriteEffect (w : WordItem) (s : State) : State :=
  let v := s.accessView
  let treated :=
    match intakeFrame v.pass v.strip, v.strip with
    | some f, some strip =>
      let p := f.place (intakeOffset w.address)
      if f.rows ≤ p.row then s.countOverrun
      else if f.width ≤ p.col then s
      else s.intakeWord v.pass strip p w.beat
    | _, _ => s.wordFault .intakeIdle none w
  treated.wordWritten []

/-- The value of an INTAKE read: the stored translated word where one exists, else zero (R13). -/
def State.intakeValue (s : State) (address : Nat) : Word :=
  let v := s.accessView
  match intakeFrame v.pass v.strip, v.strip with
  | some f, some strip =>
    let p := f.place (intakeOffset address)
    if f.declares p then
      match v.pass with
      | .surveying => s.mem.readWord (strip.surveyBase + p.row * strip.surveyPitch + p.col * 8 + p.word * 4)
      | .capturing =>
        match routeOf s.fl.slots p.row p.col with
        | some v =>
          let x := s.slot v
          if x.isResident (p.row - x.top) then
            s.mem.readWord (x.bandAddress ((p.row - x.top) % x.bandLines) (p.col - x.left) p.word)
          else 0
        | none => 0
      | .stripClosed | .stripOpen | .locating | .planned | .draining => 0
    else 0
  | _, _ => 0

/-- A view word's window, band line, frame column and word index (R14). -/
structure ViewPlace where
  slot   : SlotId
  line   : Nat
  column : Nat
  word   : Nat
  deriving DecidableEq, Repr

/-- The decode of a view address under an access's view (R14). -/
def AccessView.place (v : AccessView) (address : Nat) : ViewPlace :=
  let slot := slotOfByte (viewOffset address / Config.windowBytes)
  let o := viewOffset address % Config.windowBytes
  let x := v.slots.get slot
  ⟨slot, o / x.bandPitch, o % x.bandPitch / 8, o % 8 / 4⟩

/-- The computation of a pixel, made once for both its words within an access, with its event counted (R126, R147). -/
def State.compute (p : ViewPlace) (s : State) : State :=
  match s.upstream with
  | some a =>
    let again := match a.computation with
      | some k => decide (k.slot = p.slot) && decide (k.line = p.line) && decide (k.column = p.column)
      | none => false
    if again then s
    else
      let m := mend s.mem a.view p.slot p.line p.column
      let kept := { s with upstream := some { a with computation := some ⟨p.slot, p.line, p.column, m.pixel⟩ } }
      match m.event with
      | some c => kept.count c
      | none => kept
  | none => s

/-- The value of the computed pixel's word. -/
def State.computedWord (p : ViewPlace) (s : State) : Word :=
  match s.upstream with
  | some a =>
    match a.computation with
    | some k => k.pixel.word p.word
    | none => 0
  | none => 0

/-- A VIEW read by the cases 2 to 4 of R14. -/
def State.viewReadEffect (w : WordItem) (s : State) : State :=
  let v := s.accessView
  let p := v.place w.address
  let x := v.slots.get p.slot
  if x.state = .vacant then (s.wordFault .viewVacant (some p.slot) w).wordRead 0
  else if x.bandLines ≤ p.line ∨ x.width ≤ p.column then s.wordRead 0
  else
    let computed := s.compute p
    computed.wordRead (computed.computedWord p)

/-! ## The meanings -/

/-- UPSTREAM_ACCESS (R1, R6): the controller presents an access. A term of no words or of more than 8 is no access. The
port carries one access at a time (R2): a presentation while one is held does not happen. -/
def execUpstreamAccess (req : UpstreamReq) (s : State) : Host.Outcome State Fault Refusal :=
  if req.wellFormed then
    let arrived := s.present req
    occurs (s.upstream.isNone && decide (s.mc.phase ≠ .inReset)) (if s.isRunning then arrived.offerHeld else arrived) s
  else .refused .burstLength

/-- ACCESS_COMPLETE (R2): every word served and acted on, the completion is signalled and the port becomes free. -/
def execAccessComplete (s : State) : Host.Outcome State Fault Refusal :=
  match s.upstream with
  | some a =>
    let ended := { s with upstream := none, completion := some ⟨!requestIsWrite a.req, a.data⟩ }
    occurs
      (decide (a.phase = .serving) && decide (a.handed = []) && decide (s.cu.posted = none)
        && decide (a.served = a.req.wordCount))
      (if s.mc.port = some .upstream then ended.finishOperation else ended) s
  | none => occurs false s s

/-- PLAIN_WRITE (R7). -/
def execPlainWrite (s : State) : Host.Outcome State Fault Refusal :=
  serve (fun w => decide (w.zone = .plain) && w.isWrite) State.plainWriteEffect s

/-- PLAIN_READ (R7, R178). The table has no row for a bulletin read; R8 serves it from memory as a plain word, so this
row serves it (notes/assumptions/7.md). -/
def execPlainRead (s : State) : Host.Outcome State Fault Refusal :=
  serve (fun w => (decide (w.zone = .plain) || decide (w.zone = .bulletin)) && !w.isWrite) State.plainReadEffect s

/-- BULLETIN_WRITE (R8, R20, R21). -/
def execBulletinWrite (s : State) : Host.Outcome State Fault Refusal :=
  serve (fun w => decide (w.zone = .bulletin) && w.isWrite) State.bulletinWriteEffect s

/-- TAKEN_COUNT_WRITE (R174, R177). -/
def execTakenCountWrite (s : State) : Host.Outcome State Fault Refusal :=
  occurs (s.nextHandOver .reportUnit) s.takenCountEffect s

/-- WATCHED_WORD_WRITE (R160, R161). -/
def execWatchedWordWrite (s : State) : Host.Outcome State Fault Refusal :=
  occurs (s.nextHandOver .listWriter) s.watchedWordEffect s

/-- UNBACKED_ACCESS (R10). -/
def execUnbackedAccess (s : State) : Host.Outcome State Fault Refusal :=
  serve (fun w => decide (w.zone = .unbacked)) State.unbackedEffect s

/-- INTAKE_WRITE (R12). -/
def execIntakeWrite (s : State) : Host.Outcome State Fault Refusal :=
  serve (fun w => decide (w.zone = .intake) && w.isWrite) State.intakeWriteEffect s

/-- INTAKE_READ (R13). -/
def execIntakeRead (s : State) : Host.Outcome State Fault Refusal :=
  serve (fun w => decide (w.zone = .intake) && !w.isWrite) (fun w s => s.wordRead (s.intakeValue w.address)) s

/-- VIEW_READ (R14, R126). -/
def execViewRead (s : State) : Host.Outcome State Fault Refusal :=
  serve (fun w => decide (w.zone = .view) && !w.isWrite) State.viewReadEffect s

/-- VIEW_WRITE (R14): dropped without a count or a fault. -/
def execViewWrite (s : State) : Host.Outcome State Fault Refusal :=
  serve (fun w => decide (w.zone = .view) && w.isWrite) (fun _ s => s.wordWritten []) s

end Sys2Proof.Machine
end

