-- ==== Sys2Proof/Machine/Engines.lean ====
section
/-! DEFINITION. The meanings of the rows that are no access and no post: the pins (R184 to R186), the arbiter's decision
(R191), the ends of the operations that run beside the port (R74, R94, R120), the operations of the writers and of
refresh (R156 to R158, R171, R188) and the two timers (R176, R187). -/

namespace Sys2Proof.Machine

/-! ## The pins -/

/-- The memory size the two SIZE straps fix (R184). -/
def strapSize (size1 size0 : Bool) : Nat :=
  match size1, size0 with
  | false, false => 0x04000000
  | false, true => 0x08000000
  | true, _ => 0x10000000

/-- RESET_N asserted: every block abandons its work at once; a downstream operation is cut short and a held access is
abandoned without its completion (R186). Memory is not defined from here on: it reads as unwritten.
DEDUCED, notes/assumptions/27.md. -/
def State.abandonWork (s : State) : State :=
  { s with
    upstream := none
    cu := { s.cu with posted := none }
    fl := { s.fl with locating := none }
    bt := { s.bt with classifying := none, frameEnd := none, restartPending := false, closePending := false }
    ru := s.ru.release
    mc := { s.mc with phase := .inReset, refreshTimer := none, port := none }
    mem := [] }

/-- RESET_N_ASSERT (R186). -/
def execResetNAssert (s : State) : Host.Outcome State Fault Refusal := .next s.abandonWork

/-- RESET_N_RELEASE (R184, R185): S from the straps, every block at its power-on values, the start-up running. A release
stands for the assertion before it too, if that was not sent (notes/assumptions/5.md). -/
def execResetNRelease (size1 size0 : Bool) (s : State) : Host.Outcome State Fault Refusal :=
  .next (State.powerOn (strapSize size1 size0) s.pending)

/-- The start-up has ended: the refresh timer starts from zero, the arbiter begins to grant, and a held access is
decoded and offered (R6, R185). -/
def State.startupEnded (s : State) : State :=
  State.offerHeld { s with mc := { s.mc with phase := .running, refreshTimer := some 0 } }

/-- SDRAM_STARTUP_END (R185). -/
def execSdramStartupEnd (s : State) : Host.Outcome State Fault Refusal :=
  occurs (decide (s.mc.phase = .startup)) s.startupEnded s

/-! ## The arbiter -/

/-- GRANT_DECISION (R191): the port is free and a request stands. -/
def execGrantDecision (s : State) : Host.Outcome State Fault Refusal :=
  match s.winner with
  | some w => occurs (s.isRunning && s.mc.port.isNone) (s.grant w) s
  | none => occurs false s s

/-! ## The operations beside the port -/

/-- LOCATE_END (R74). -/
def execLocateEnd (s : State) : Host.Outcome State Fault Refusal :=
  match s.fl.locating with
  | some k => occurs true (s.endLocate k) s
  | none => occurs false s s

/-- ROW_CLASSIFICATION_END (R94). -/
def execRowClassificationEnd (s : State) : Host.Outcome State Fault Refusal :=
  match s.bt.classifying with
  | some k => occurs true (s.endClassification k) s
  | none => occurs false s s

/-- FRAME_END_COMPLETE (R120): the marker waits while the holding queue is full. It may occur while a pending CLOSE_STRIP
waits for the operation at the port, which R94, R121 and R196 leave open: DESIGN CHOICE, notes/assumptions/31.md. -/
def execFrameEndComplete (s : State) : Host.Outcome State Fault Refusal :=
  match s.bt.frameEnd with
  | some e => occurs (decide (s.lw.queue.length < Config.queueCap)) (s.completeFrameEnd e) s
  | none => occurs false s s

/-! ## The writers' operations -/

/-- DESCRIPTOR_LOAD (R156). -/
def execDescriptorLoad (s : State) : Host.Outcome State Fault Refusal :=
  occurs (decide (s.mc.port = some (.list .load))) s.loadDescriptor.finishOperation s

/-- REJECTED_CLOSE (R156, R158). -/
def execRejectedClose (s : State) : Host.Outcome State Fault Refusal :=
  occurs (decide (s.mc.port = some (.list .rejectedClose))) s.closeRejected.finishOperation s

/-- RECORD_WRITE (R157). -/
def execRecordWrite (s : State) : Host.Outcome State Fault Refusal :=
  match s.mc.port with
  | some (.list (.recordWrite r)) => occurs true (s.writeRecord r).finishOperation s
  | _ => occurs false s s

/-- DESCRIPTOR_CLOSE (R157, R158, R159). -/
def execDescriptorClose (s : State) : Host.Outcome State Fault Refusal :=
  match s.mc.port with
  | some (.list .closeFull) => occurs true s.closeFull.finishOperation s
  | some (.list (.closeFrameEnd v)) => occurs true (s.closeFrameEnd v).finishOperation s
  | _ => occurs false s s

/-- The plan entries of a grant written into their places in slot order (R77, R171). -/
def writePlanEntries (size : Nat) (entries : List (SlotId × PlanEntry)) (m : Memory) : Memory :=
  entries.foldl (fun m e => m.writeBytes (bulletinBase size + 0x200 + 32 * e.1.val) e.2.bytes) m

/-- The oldest staged report written into its ring slot, with the counts, the attention line and the status block of
the same grant (R171, R173). -/
def State.writeReport (x : Report) (s : State) : State :=
  let st := s.cu.standing
  let place := st.ringBase + 32 * (s.ru.produced.toNat % st.slotCount)
  let m := s.mem.writeBytes place (x.bytes s.ru.lost)
  let ru := ReportUnit.reportWritten st x { s.ru with staging := s.ru.staging.tail }
  let block := statusBlock ru.produced s.iu.pass s.lw.state s.fault.locked s.fl.generation
  { s with mem := m.writeBytes (bulletinBase s.mc.size + 0x180) block, ru := ru }

/-- The report writer's operation: the plan entries, then at most one report with the status block (R171). A report is
written only where the ring has room, which a grant that carries one leaves true until its end. -/
def State.reportOperation (entries : List (SlotId × PlanEntry)) (withReport : Bool) (s : State) : State :=
  let planned := { s with mem := writePlanEntries s.mc.size entries s.mem }
  let ended :=
    match planned.ru.staging with
    | x :: _ => if withReport && planned.canWriteReport then planned.writeReport x else planned
    | [] => planned
  ended.drainRing

/-- REPORT_WRITER_GRANT (R171). -/
def execReportWriterGrant (s : State) : Host.Outcome State Fault Refusal :=
  match s.mc.port with
  | some (.report entries withReport) => occurs true (s.reportOperation entries withReport).finishOperation s
  | _ => occurs false s s

/-! ## Refresh and the timers -/

/-- The expiry of the refresh timer (R187): the debt rises, or at 8 REFRESH_OVERRUN is counted; the timer runs on. -/
def State.refreshExpires (s : State) : State :=
  let restarted := { s with mc := { s.mc with refreshTimer := some 0 } }
  if s.mc.debt < Config.debtLimit then { restarted with mc := { restarted.mc with debt := s.mc.debt + 1 } }
  else restarted.count refreshOverrun

/-- REFRESH_TIMER_EXPIRY (R187). -/
def execRefreshTimerExpiry (s : State) : Host.Outcome State Fault Refusal :=
  occurs s.mc.refreshTimer.isSome s.refreshExpires s

/-- REFRESH_OPERATION (R188): one unit of debt is retired when it completes. -/
def execRefreshOperation (s : State) : Host.Outcome State Fault Refusal :=
  occurs (decide (s.mc.port = some .refresh))
    (State.finishOperation { s with mc := { s.mc with debt := s.mc.debt - 1 } }) s

/-- COALESCING_TIMER_EXPIRY (R176). -/
def execCoalescingTimerExpiry (s : State) : Host.Outcome State Fault Refusal :=
  occurs s.ru.timer.isSome { s with ru := s.ru.timerExpires } s

/-! ## The clock -/

/-- A timer one tick on. -/
def tickTimer (t : Option Nat) : Option Nat := t.map (· + 1)

/-- One tick of 0.1 µs with nothing commanded (notes/assumptions/4.md): the running timers run on, and each that has
reached its time puts its expiry on the queue. -/
def State.tick (s : State) : State :=
  let refresh := tickTimer s.mc.refreshTimer
  let coalescing := tickTimer s.ru.timer
  let refreshDue := match refresh with
    | some n => decide (Config.refreshTicks ≤ n)
    | none => false
  let coalescingDue := match coalescing with
    | some n => decide (s.cu.standing.coalesceTime * Config.ticksPerMicro ≤ n)
    | none => false
  { s with
    mc := { s.mc with refreshTimer := refresh }
    ru := { s.ru with timer := coalescing }
    pending := s.pending ++ (if refreshDue then [Instr.refreshTimerExpiry] else [])
      ++ (if coalescingDue then [Instr.coalescingTimerExpiry] else []) }

end Sys2Proof.Machine
end

