-- ==== Sys2Proof/Machine/Posts.lean ====
section
/-! DEFINITION. The posted commands (02_bulletin_and_commands.md): the order of the checks (R22), refusals (R24 to R26)
and what each command does when it is carried out. One meaning for each posted row of the table. -/

namespace Sys2Proof.Machine

/-! ## The shared form of a post -/

/-- Detail codes of REFUSED_STATE (R212). -/
def detailPass : Nat := 1
/-- NO_PLANNED (R212). -/
def detailNoPlanned : Nat := 2
/-- RING_BACKLOG (R212). -/
def detailRingBacklog : Nat := 4
/-- WRITER (R212). -/
def detailWriter : Nat := 5

/-- The detail of REFUSED_BUSY under a pending RESTART (R33, R212). -/
def detailRestartPending : Nat := 4

/-- The busy condition standing, by its detail code, the first of R25's table (R25, R212). -/
def State.busyCause (s : State) : Option Nat :=
  if s.iu.pass = .locating then some 1
  else if s.bt.classifying.isSome then some 2
  else if s.bt.frameEnd.isSome then some 3
  else none

/-- What a command's checks find: whether it is subject to busy refusal, the state reason against it, and its first bad
field (R22). -/
structure PostChecks where
  busy     : Bool
  reason   : Option Nat
  badField : Option Nat
  deriving DecidableEq, Repr

/-- The refusal a post of a known kind meets, the first check that fails deciding: pending RESTART, work in flight,
state, fields (R22). -/
def State.refusalOf (c : PostChecks) (s : State) : Option (AckOutcome × Nat) :=
  if s.bt.restartPending then some (.refusedBusy, detailRestartPending)
  else
    match if c.busy then s.busyCause else none with
    | some d => some (.refusedBusy, d)
    | none =>
      match c.reason with
      | some d => some (.refusedState, d)
      | none => c.badField.map fun o => (.refusedMalformed, o)

/-- The post is taken: it waits no longer. -/
def State.takePosted (s : State) : State := { s with cu := { s.cu with posted := none } }

/-- A post of a known kind (R22): refused with its ACK and no other change, or carried out. -/
def State.post (kind : Nat) (c : PostChecks) (carry : State → State) (s : State) : State :=
  match s.refusalOf c with
  | some r => s.takePosted.stageAck (byteOf kind) r.1 (BitVec.ofNat 32 r.2)
  | none => carry s.takePosted

/-- A command carried out at once, its effect complete before its ACK is staged (R22, R23). -/
def carryDone (kind : Nat) (effect : State → State) (s : State) : State := (effect s).stageAck (byteOf kind) .done 0

/-- A command whose effect starts work that ends later (R23). -/
def carryAccepted (kind : Nat) (effect : State → State) (s : State) : State :=
  (effect s).stageAck (byteOf kind) .accepted 0

/-- Whether the posted word names a kind (R202). DEDUCED, notes/assumptions/12.md. -/
def State.posts (s : State) (kind : Nat) : Bool := decide (s.cu.posted = some (byteOf kind))

/-- The reason PASS unless the pass state is one of those that take the command (R26). -/
def passReason (s : State) (taken : List PassState) : Option Nat :=
  if taken.contains s.iu.pass then none else some detailPass

/-! ## Settings -/

/-- The standing settings replaced, with what that does to the attention line (R31, R179). -/
def State.applySettings (s : State) : State :=
  let st := setPlanSettings s.cu.shadow s.cu.standing
  { s with cu := { s.cu with standing := st }, ru := s.ru.settingsChanged s.cu.standing st }

/-- The Report Unit's changes on a new ring, and its ACK at the head of the staging queue (R169).
DEDUCED, notes/assumptions/18.md. -/
def ReportUnit.ringReplaced (mask : BitVec 14) (ack : Report) (r : ReportUnit) : ReportUnit :=
  let ready := { r.release with ackThrough := r.produced, newest := none }
  if r.hasRoom then { ready with staging := ack :: r.staging }
  else ReportUnit.drop mask { ready with staging := ack :: r.staging.take 7 }

/-- SET_PLAN with its ring flag set, carried out (R31, R169). -/
def State.applyRing (s : State) : State :=
  let set := s.applySettings
  let ack := Report.ack 0x01 .done set.iu.pass set.fault.locked 0
  { set with ru := set.ru.ringReplaced set.cu.standing.countMask ack }

/-- The column mend list replaced (R32). -/
def State.applyColumns (s : State) : State := { s with cu := { s.cu with columns := setColumnsList s.cu.shadow } }

/-! ## Strips and passes -/

/-- Every CAPTURED slot becomes HELD (R38). -/
def State.holdCaptured (s : State) : State :=
  { s with fl := { s.fl with
      slots := s.fl.slots.map fun x => if x.state = .captured then { x with state := .held } else x } }

/-- OPEN_STRIP carried out, in the order of R38. -/
def State.openStripEffect (s : State) : State :=
  let record := openStripRecord s.cu.shadow
  let raised := { s with fl := { s.fl with generation := s.fl.generation + 1 } }
  let released := State.vacateWhere (fun x => decide (x.state = .planned)) raised.holdCaptured
  { released with
    cu := { released.cu with overrides := openStripOverrides s.cu.shadow }
    fl := { released.fl with params := some record.params, profile := [] }
    bt := { released.bt with nextSerial := some 1 }
    iu := { IntakeUnit.powerOn with pass := .stripOpen, strip := some record } }

/-- IU's state at the beginning of a pass: pairing, tracker and both halves emptied (R41, R42). -/
def IntakeUnit.beginPass (pass : PassState) (u : IntakeUnit) : IntakeUnit :=
  { u with pass := pass, pairing := none, tracker := .initial, halfA := .vacant, halfB := .vacant }

/-- BEGIN_SURVEY carried out (R41). -/
def State.beginSurveyEffect (s : State) : State :=
  { s with iu := s.iu.beginPass .surveying, fl := { s.fl with profile := [] } }

/-- BEGIN_CAPTURE carried out (R42). -/
def State.beginCaptureEffect (s : State) : State :=
  { s with iu := { s.iu.beginPass .capturing with startQueue := [] } }

/-- RELOCATE carried out (R79). -/
def State.relocateEffect (s : State) : State :=
  State.beginLocate { s with fl := { s.fl with params := some (relocateParams s.cu.shadow) } }

/-- Whether any slot is PLANNED (R42). -/
def State.hasPlanned (s : State) : Bool := (findSlot s.fl.slots fun x => decide (x.state = .planned)).isSome

/-! ## SET_FRAME -/

/-- The clear level a SET_FRAME plan gives: the record's, or, when that is 0, the greatest Ir over the window's survey
rows that the profile holds (R81). -/
def State.chosenClear (s : State) (r : FrameRecord) : Nat :=
  if r.clearLevel ≠ 0 then r.clearLevel
  else
    match s.iu.strip with
    | some strip =>
      let first := r.top * strip.ks / strip.kc
      let last := r.bottom * strip.ks / strip.kc
      if first < s.fl.profile.length then
        clearLevelOf s.fl.profile first (min last (s.fl.profile.length - 1))
      else 0
    | none => 0

/-- The plan a SET_FRAME gives its slot (R81). -/
def FrameRecord.slotPlan (r : FrameRecord) (clearLevel : Nat) : SlotPlan :=
  ⟨.setFrame, r.top, r.bottom, r.left, r.right, r.bandBase, r.bandLines, r.bandPitch, clearLevel, r.cleanup, false,
    false, none⟩

/-- SET_FRAME with action PLAN carried out (R81). -/
def State.setFramePlanEffect (s : State) : State :=
  let r := setFrameRecord s.cu.shadow
  s.planSlot (slotOfByte r.slot) (r.slotPlan (s.chosenClear r))

/-- SET_FRAME with action RELEASE carried out (R82). -/
def State.setFrameReleaseEffect (s : State) : State := s.releaseSlot (slotOfByte (rec8 s.cu.shadow 0x000))

/-! ## CLOSE_STRIP, RESTART, PUBLISH_COUNTERS, PROBE_SPAN -/

/-- CLOSE_STRIP taken (R59, R35): at once, or pending on the classification in flight, or joining a pending one. -/
def State.closeStripTaken (s : State) : State :=
  if s.bt.classifying.isSome || s.bt.closePending then
    State.stageAck 0x08 .accepted 0 { s with bt := { s.bt with closePending := true } }
  else s.closeStripEffect.stageAck 0x08 .done 0

/-- RESTART taken (R33): at once, or pending on the classification in flight, where it takes a pending CLOSE_STRIP's
place; its ACK is staged when it takes effect. -/
def State.restartTaken (s : State) : State :=
  if s.bt.classifying.isSome then { s with bt := { s.bt with restartPending := true, closePending := false } }
  else s.restartEffect

/-- The COUNTERS report of PUBLISH_COUNTERS staged, and the counters cleared if it joins the queue (R182). -/
def State.publishEffect (s : State) : State :=
  let mask := s.cu.standing.countMask
  if s.ru.hasRoom then
    State.drainRing
      { s with ru := { s.ru.push (s.ru.countersReport mask none) with counters := Vector.replicate 14 0 } }
  else State.drainRing { s with ru := s.ru.drop mask }

/-- The detail of PROBE_SPAN: bits 0 to 12 start, 16 to 28 end, 30 wide, 31 hit (R124, R212). -/
def probeDetail (found : Option Span) : Word :=
  match found with
  | some sp => BitVec.ofNat 32 (sp.start % 8192 + 65536 * (sp.stop % 8192) + 1073741824 * bit sp.wide + 2147483648)
  | none => 0

/-- PROBE_SPAN's lookup (R124). -/
def State.probe (s : State) : Option Span :=
  spanAt s.bt.spans (slotOfByte (rec8 s.cu.shadow 0x000)) (s.cu.shadow.read32 0x004) (s.cu.shadow.read16 0x008)

/-! ## The meanings -/

/-- Whether the posted kind names no command: 0x00, and 0x0F and above (R202). -/
def State.postsUnknown (s : State) : Bool :=
  match s.cu.posted with
  | some k => decide (k.toNat = 0) || decide (0x0E < k.toNat)
  | none => false

/-- A post of unknown kind: REFUSED_MALFORMED with detail 0x100, the kind check coming first (R22, R202). -/
def execUnknownCommand (s : State) : Host.Outcome State Fault Refusal :=
  occurs s.postsUnknown (s.takePosted.stageAck (s.cu.posted.getD 0) .refusedMalformed 0x100) s

/-- SET_PLAN with its ring flag clear (R31). -/
def execSetPlan (s : State) : Host.Outcome State Fault Refusal :=
  occurs (s.posts 0x01 && !ringFlag s.cu.shadow)
    (s.post 0x01 ⟨false, none, firstBad (setPlanChecks s.mc.size s.cu)⟩ (carryDone 0x01 State.applySettings)) s

/-- SET_PLAN with its ring flag set (R31, R169). -/
def execSetPlanRing (s : State) : Host.Outcome State Fault Refusal :=
  occurs (s.posts 0x01 && ringFlag s.cu.shadow)
    (s.post 0x01
      ⟨true, if s.ru.produced = s.ru.taken then none else some detailRingBacklog,
        firstBad (setPlanChecks s.mc.size s.cu)⟩ State.applyRing) s

/-- OPEN_STRIP (R37, R38). -/
def execOpenStrip (s : State) : Host.Outcome State Fault Refusal :=
  occurs (s.posts 0x02)
    (s.post 0x02
      ⟨true, passReason s [.stripClosed, .stripOpen, .planned], firstBad (openStripChecks s.mc.size s.cu)⟩
      (carryDone 0x02 State.openStripEffect)) s

/-- BEGIN_SURVEY (R41). -/
def execBeginSurvey (s : State) : Host.Outcome State Fault Refusal :=
  occurs (s.posts 0x03)
    (s.post 0x03 ⟨true, passReason s [.stripOpen, .planned], none⟩ (carryDone 0x03 State.beginSurveyEffect)) s

/-- RELOCATE (R79). -/
def execRelocate (s : State) : Host.Outcome State Fault Refusal :=
  occurs (s.posts 0x04)
    (s.post 0x04 ⟨true, passReason s [.planned], firstBad (relocateChecks s.cu.shadow)⟩
      (carryAccepted 0x04 State.relocateEffect)) s

/-- SET_FRAME with action PLAN (R80, R81); any action byte but 1 is read as PLAN by the state check (R210). -/
def execSetFramePlan (s : State) : Host.Outcome State Fault Refusal :=
  occurs (s.posts 0x05 && !frameActionIsRelease s.cu.shadow)
    (s.post 0x05
      ⟨true, passReason s [.stripOpen, .planned],
        firstBad (setFramePlanChecks s.mc.size s.iu.strip s.fl.slots s.cu.shadow)⟩
      (carryDone 0x05 State.setFramePlanEffect)) s

/-- SET_FRAME with action RELEASE (R80, R82). -/
def execSetFrameRelease (s : State) : Host.Outcome State Fault Refusal :=
  occurs (s.posts 0x05 && frameActionIsRelease s.cu.shadow)
    (s.post 0x05
      ⟨true, passReason s [.stripOpen, .planned, .stripClosed], firstBad (setFrameReleaseChecks s.cu.shadow)⟩
      (carryDone 0x05 State.setFrameReleaseEffect)) s

/-- BEGIN_CAPTURE (R42): refused PASS, else NO_PLANNED without a PLANNED slot. -/
def execBeginCapture (s : State) : Host.Outcome State Fault Refusal :=
  occurs (s.posts 0x06)
    (s.post 0x06
      ⟨true, (passReason s [.stripOpen, .planned]).or (if s.hasPlanned then none else some detailNoPlanned), none⟩
      (carryDone 0x06 State.beginCaptureEffect)) s

/-- END_PASS (R58). -/
def execEndPass (s : State) : Host.Outcome State Fault Refusal :=
  occurs (s.posts 0x07)
    (s.post 0x07 ⟨true, passReason s [.surveying, .capturing], none⟩ (carryAccepted 0x07 State.endPassEffect)) s

/-- CLOSE_STRIP (R59). -/
def execCloseStrip (s : State) : Host.Outcome State Fault Refusal :=
  occurs (s.posts 0x08)
    (s.post 0x08 ⟨false, if s.iu.pass = .stripClosed then some detailPass else none, none⟩ State.closeStripTaken) s

/-- SET_COLUMNS (R32). -/
def execSetColumns (s : State) : Host.Outcome State Fault Refusal :=
  occurs (s.posts 0x09)
    (s.post 0x09
      ⟨false, if s.iu.pass = .capturing ∨ s.iu.pass = .draining then some detailPass else none,
        firstBad (setColumnsChecks s.cu.shadow)⟩ (carryDone 0x09 State.applyColumns)) s

/-- CHAIN with a nonzero head (R155). -/
def execChain (s : State) : Host.Outcome State Fault Refusal :=
  occurs (s.posts 0x0A && decide (chainHead s.cu.shadow ≠ 0))
    (s.post 0x0A ⟨false, if s.lw.state = .unchained then none else some detailWriter, none⟩
      (carryDone 0x0A (State.attachChain (chainHead s.cu.shadow)))) s

/-- CHAIN with head 0 (R162). -/
def execChainDetach (s : State) : Host.Outcome State Fault Refusal :=
  occurs (s.posts 0x0A && decide (chainHead s.cu.shadow = 0))
    (s.post 0x0A ⟨false, if s.lw.state = .unchained then some detailWriter else none, none⟩
      (carryDone 0x0A State.detachChain)) s

/-- PROBE_SPAN (R124). -/
def execProbeSpan (s : State) : Host.Outcome State Fault Refusal :=
  occurs (s.posts 0x0B)
    (s.post 0x0B ⟨false, none, firstBad (probeSpanChecks s.cu.shadow)⟩
      (fun t => t.stageAck 0x0B .done (probeDetail t.probe))) s

/-- PUBLISH_COUNTERS (R182). -/
def execPublishCounters (s : State) : Host.Outcome State Fault Refusal :=
  occurs (s.posts 0x0C) (s.post 0x0C ⟨false, none, none⟩ (carryDone 0x0C State.publishEffect)) s

/-- CLEAR_FAULT (R17). -/
def execClearFault (s : State) : Host.Outcome State Fault Refusal :=
  occurs (s.posts 0x0D)
    (s.post 0x0D ⟨false, none, none⟩
      (carryDone 0x0D fun t => { t with fault := { t.fault with locked := false } })) s

/-- RESTART (R33, R34). -/
def execRestart (s : State) : Host.Outcome State Fault Refusal :=
  occurs (s.posts 0x0E) (s.post 0x0E ⟨false, none, none⟩ State.restartTaken) s

end Sys2Proof.Machine
end

