-- ==== Sys2Proof/Machine/Dispatch.lean ====
section
/-! DEFINITION. exec: one arm for each row of spec/opcode_table.json, in the table's order. -/

namespace Sys2Proof.Machine

def exec (i : Instr) (s : State) : Host.Outcome State Fault Refusal :=
  match i with
  | .resetNAssert => Sys2Proof.Machine.execResetNAssert s
  | .resetNRelease size1 size0 => Sys2Proof.Machine.execResetNRelease size1 size0 s
  | .sdramStartupEnd => Sys2Proof.Machine.execSdramStartupEnd s
  | .upstreamAccess req => Sys2Proof.Machine.execUpstreamAccess req s
  | .grantDecision => Sys2Proof.Machine.execGrantDecision s
  | .accessComplete => Sys2Proof.Machine.execAccessComplete s
  | .plainWrite => Sys2Proof.Machine.execPlainWrite s
  | .plainRead => Sys2Proof.Machine.execPlainRead s
  | .bulletinWrite => Sys2Proof.Machine.execBulletinWrite s
  | .takenCountWrite => Sys2Proof.Machine.execTakenCountWrite s
  | .watchedWordWrite => Sys2Proof.Machine.execWatchedWordWrite s
  | .unbackedAccess => Sys2Proof.Machine.execUnbackedAccess s
  | .intakeWrite => Sys2Proof.Machine.execIntakeWrite s
  | .intakeRead => Sys2Proof.Machine.execIntakeRead s
  | .viewRead => Sys2Proof.Machine.execViewRead s
  | .viewWrite => Sys2Proof.Machine.execViewWrite s
  | .locateEnd => Sys2Proof.Machine.execLocateEnd s
  | .rowClassificationEnd => Sys2Proof.Machine.execRowClassificationEnd s
  | .frameEndComplete => Sys2Proof.Machine.execFrameEndComplete s
  | .unknownCommand => Sys2Proof.Machine.execUnknownCommand s
  | .setPlan => Sys2Proof.Machine.execSetPlan s
  | .setPlanRing => Sys2Proof.Machine.execSetPlanRing s
  | .openStrip => Sys2Proof.Machine.execOpenStrip s
  | .beginSurvey => Sys2Proof.Machine.execBeginSurvey s
  | .relocate => Sys2Proof.Machine.execRelocate s
  | .setFramePlan => Sys2Proof.Machine.execSetFramePlan s
  | .setFrameRelease => Sys2Proof.Machine.execSetFrameRelease s
  | .beginCapture => Sys2Proof.Machine.execBeginCapture s
  | .endPass => Sys2Proof.Machine.execEndPass s
  | .closeStrip => Sys2Proof.Machine.execCloseStrip s
  | .setColumns => Sys2Proof.Machine.execSetColumns s
  | .chain => Sys2Proof.Machine.execChain s
  | .chainDetach => Sys2Proof.Machine.execChainDetach s
  | .probeSpan => Sys2Proof.Machine.execProbeSpan s
  | .publishCounters => Sys2Proof.Machine.execPublishCounters s
  | .clearFault => Sys2Proof.Machine.execClearFault s
  | .restart => Sys2Proof.Machine.execRestart s
  | .descriptorLoad => Sys2Proof.Machine.execDescriptorLoad s
  | .rejectedClose => Sys2Proof.Machine.execRejectedClose s
  | .recordWrite => Sys2Proof.Machine.execRecordWrite s
  | .descriptorClose => Sys2Proof.Machine.execDescriptorClose s
  | .reportWriterGrant => Sys2Proof.Machine.execReportWriterGrant s
  | .coalescingTimerExpiry => Sys2Proof.Machine.execCoalescingTimerExpiry s
  | .refreshTimerExpiry => Sys2Proof.Machine.execRefreshTimerExpiry s
  | .refreshOperation => Sys2Proof.Machine.execRefreshOperation s

end Sys2Proof.Machine
end

