-- ==== Sys2Proof/Safety.lean ====
section
/-! DEFINITION. What a sound state of the part is: the bounds and orders the manual promises of every state it can be in,
each a predicate that a step is to keep; the relation between a state and the same state with the writers' requests settled;
and, for the operations with many results, what the manual says of one of them. -/

namespace Sys2Proof.Machine

/-- Memory and the bulletin shadow have their canonical form. -/
def State.MemoryCanonical (s : State) : Prop := s.mem.wf = true ∧ s.cu.shadow.wf = true

/-- The greatest sizes the manual gives: refresh debt (R187), staging queue (R170), holding queue (R152), span table
(R105), open blemish table (R110) and previous-row run list (R111). -/
def State.Bounded (s : State) : Prop :=
  s.mc.debt ≤ 8 ∧ s.ru.staging.length ≤ 8 ∧ s.lw.queue.length ≤ 32 ∧ s.bt.spans.length ≤ 4096
    ∧ s.bt.openTable.length ≤ 64 ∧ s.bt.previous.length ≤ 256

/-- Each pass-over count runs from 0 to 32, and a writer is promoted exactly at 32 (R193). -/
def State.PromotionsCounted (s : State) : Prop :=
  s.mc.passedReport ≤ 32 ∧ (s.mc.promoReport = true ↔ s.mc.passedReport = 32)
    ∧ s.mc.passedList ≤ 32 ∧ (s.mc.promoList = true ↔ s.mc.passedList = 32)

/-- T_dense is below T_faint, among the standing settings (R28) and among the effective ones (R30). -/
def State.ThresholdsOrdered (s : State) : Prop :=
  s.cu.standing.tDense < s.cu.standing.tFaint ∧ s.cu.effDense < s.cu.effFaint

/-- The ring has at most 1024 slots (R168), and produced − taken, modulo 2^32, never exceeds the slot count (R174). -/
def State.RingWindow (s : State) : Prop := s.cu.standing.slotCount ≤ 1024 ∧ s.ru.unread ≤ s.cu.standing.slotCount

/-- The span table stands in order of slot, then row, then start, and each span ends no earlier than it starts (R105). -/
def State.SpansOrdered (s : State) : Prop :=
  s.bt.spans.Pairwise (fun a b => b.precedes a = false) ∧ ∀ sp ∈ s.bt.spans, sp.start ≤ sp.stop

/-- The column mend list holds at most 16 columns, each once, in ascending order (R32). -/
def State.ColumnsAscend (s : State) : Prop := s.cu.columns.length ≤ 16 ∧ s.cu.columns.Pairwise (· < ·)

/-- The Memory Controller of `b` is that of `a` with the requests settled (R193): a writer whose request does not stand has
pass-over count 0 and no promotion, and one whose request stands keeps both. `report` and `list` are the writers' levels. -/
def MemoryController.settledFrom (report list : RequestLevel) (a b : MemoryController) : Prop :=
  b = { a with passedReport := b.passedReport, promoReport := b.promoReport, passedList := b.passedList,
               promoList := b.promoList }
    ∧ (report = .none → b.passedReport = 0 ∧ b.promoReport = false)
    ∧ (report ≠ .none → b.passedReport = a.passedReport ∧ b.promoReport = a.promoReport)
    ∧ (list = .none → b.passedList = 0 ∧ b.promoList = false)
    ∧ (list ≠ .none → b.passedList = a.passedList ∧ b.promoList = a.promoList)

/-- `b` is `a` once the writers' requests have settled at the levels they have in `a`. -/
def State.Settles (a b : State) : Prop :=
  b = { a with mc := b.mc } ∧ a.mc.settledFrom a.reportLevel a.listLevel b.mc

/-- The kind under which a posted command is taken (R202); none for a command that is no post. -/
def postKind : Instr → Option Byte
  | .setPlan | .setPlanRing => some 0x01
  | .openStrip => some 0x02
  | .beginSurvey => some 0x03
  | .relocate => some 0x04
  | .setFramePlan | .setFrameRelease => some 0x05
  | .beginCapture => some 0x06
  | .endPass => some 0x07
  | .closeStrip => some 0x08
  | .setColumns => some 0x09
  | .chain | .chainDetach => some 0x0A
  | .probeSpan => some 0x0B
  | .publishCounters => some 0x0C
  | .clearFault => some 0x0D
  | .restart => some 0x0E
  | .resetNAssert | .resetNRelease _ _ | .sdramStartupEnd | .upstreamAccess _ | .grantDecision | .accessComplete
  | .plainWrite | .plainRead | .bulletinWrite | .takenCountWrite | .watchedWordWrite | .unbackedAccess | .intakeWrite
  | .intakeRead | .viewRead | .viewWrite | .locateEnd | .rowClassificationEnd | .frameEndComplete | .unknownCommand
  | .descriptorLoad | .rejectedClose | .recordWrite | .descriptorClose | .reportWriterGrant | .coalescingTimerExpiry
  | .refreshTimerExpiry | .refreshOperation => none

/-- The post that waits is one of command `c`: of its kind, and, where two rows share a kind, with the ring flag (R206),
the action byte (R210) or the head address (R155, R162) that tells them apart. -/
def State.Posts (s : State) (c : Instr) : Prop :=
  (∃ k, postKind c = some k ∧ s.cu.posted = some k)
    ∧ (c = .setPlan → (s.cu.shadow.read 0x000).getLsbD 0 = false)
    ∧ (c = .setPlanRing → (s.cu.shadow.read 0x000).getLsbD 0 = true)
    ∧ (c = .setFramePlan → s.cu.shadow.read 0x001 ≠ 1)
    ∧ (c = .setFrameRelease → s.cu.shadow.read 0x001 = 1)
    ∧ (c = .chain → s.cu.shadow.read32 0x000 ≠ 0)
    ∧ (c = .chainDetach → s.cu.shadow.read32 0x000 = 0)

/-- Whether a command is subject to busy refusal (R25). -/
def BusySubject (c : Instr) : Prop :=
  c ∈ [Instr.openStrip, .beginSurvey, .relocate, .setFramePlan, .setFrameRelease, .beginCapture, .endPass, .setPlanRing]

/-- A post of command `c` waits and neither a pending RESTART (R33) nor, for a command subject to busy refusal, work in
flight (R25) bars it: what R22 checks before the state and the fields. -/
def State.TakesPost (s : State) (c : Instr) : Prop :=
  s.Posts c ∧ s.bt.restartPending = false
    ∧ (BusySubject c → s.iu.pass ≠ .locating ∧ s.bt.classifying = none ∧ s.bt.frameEnd = none)

/-- Nothing waits for the operation holding the port to end. -/
def State.NothingPending (s : State) : Prop := s.bt.restartPending = false ∧ s.bt.closePending = false

/-- Memory `n` is memory `m` but for the bytes at `a` and up, which are `bytes`. -/
def Memory.Holds (m n : Memory) (a : Nat) (bytes : List Byte) : Prop :=
  ∀ x, n.read x = if a ≤ x ∧ x < a + bytes.length then bytes.getD (x - a) 0 else m.read x

/-- Memory `n` is memory `m` but for the enabled bytes of a beat written at `a`. -/
def Memory.HoldsBeat (m n : Memory) (a : Nat) (b : Beat) : Prop :=
  ∀ x, n.read x = if a ≤ x ∧ x < a + 4 ∧ b.enables.getLsbD (x - a) = true
    then BitVec.ofNat 8 (b.data.toNat / 256 ^ (x - a)) else m.read x

/-- The access after one of its write words is served, with the hand-overs still to be acted on (R5). -/
def Access.wroteWord (a : Access) (handed : List HandOver) : Access := { a with served := a.served + 1, handed := handed }

/-- The access after one of its read words is served with its value (R2). -/
def Access.readWord (a : Access) (value : Word) : Access :=
  { a with served := a.served + 1, data := a.data ++ [value] }

/-- The rank of a requester at a grant decision, 1 the highest; none while it does not ask (R192). -/
def State.rankOf (s : State) : Requester → Option Nat
  | .refresh => if 6 ≤ s.mc.debt then some 1 else if 1 ≤ s.mc.debt then some 7 else none
  | .reportWriter =>
    match s.reportLevel with
    | .none => none
    | .urgent => some 2
    | .normal => if s.mc.promoReport then some 2 else some 5
  | .listWriter =>
    match s.listLevel with
    | .none => none
    | .urgent => some 3
    | .normal => if s.mc.promoList then some 3 else some 6
  | .upstream => if s.upstreamAsks then some 4 else none

/-! ## The end of an operation at the port -/

/-- Command `c` is the completion of the operation that holds the port (R189). -/
def State.EndsOperation (s : State) (c : Instr) : Prop :=
  (c = .accessComplete ∧ s.mc.port = some .upstream
      ∧ ∃ a, s.upstream = some a ∧ a.phase = .serving ∧ a.handed = [] ∧ s.cu.posted = none ∧ a.served = a.req.wordCount)
    ∨ (c = .reportWriterGrant ∧ ∃ entries carries, s.mc.port = some (.report entries carries))
    ∨ (c = .descriptorLoad ∧ s.mc.port = some (.list .load))
    ∨ (c = .rejectedClose ∧ s.mc.port = some (.list .rejectedClose))
    ∨ (c = .recordWrite ∧ ∃ r, s.mc.port = some (.list (.recordWrite r)))
    ∨ (c = .descriptorClose ∧ (s.mc.port = some (.list .closeFull) ∨ ∃ v, s.mc.port = some (.list (.closeFrameEnd v))))
    ∨ (c = .refreshOperation ∧ s.mc.port = some .refresh)

/-- An access held on the row hold in `s` asks for the port in `t` (R57). -/
def State.HoldEnds (s t : State) : Prop :=
  ∀ a, s.upstream = some a → a.phase = .rowHeld → t.upstream = some { a with phase := .asking }

/-- `t` is left by the completion of an operation of `s` at which a pending RESTART takes effect: the values of R34's table, and
the ACK the first report staged. -/
def State.RestartedBy (s t : State) : Prop :=
  t.mc.port = none ∧ s.HoldEnds t
    ∧ t.fault = ⟨false, .unbacked, 0, .read, 0, .stripClosed, none⟩
    ∧ t.cu = { s.cu with shadow := [], overrides := ⟨none, none, none, none, none⟩ }
    ∧ t.iu = ⟨.stripClosed, none, none, ⟨none, 0, false, false, 0, 0⟩, ⟨.empty, 0, 0, [], 0⟩, ⟨.empty, 0, 0, [], 0⟩, []⟩
    ∧ t.fl = ⟨Vector.replicate 8 Slot.vacantValues, 0, [], none, Vector.replicate 8 none, none⟩
    ∧ t.bt = ⟨[], [], [], 0, some 1, ⟨0, 0, 0, 0, 0, 0, 0, 0⟩, none, none, false, false⟩
    ∧ t.lw = ⟨[], .unchained, none, none, 0, none, none, false⟩
    ∧ t.ru.attention = false
    ∧ t.ru.timer = (if s.cu.standing.attentionMode = .take ∧ t.ru.produced ≠ t.ru.taken ∧ s.cu.standing.coalesceTime ≠ 0
        then some 0 else none)
    ∧ (s.cu.standing.attentionMode = .read → t.ru.ackThrough = t.ru.produced)
    ∧ (t.ru.ringFull s.cu.standing.slotCount = false →
        t.ru.staging = [.ack 0x0E .done .stripClosed false 0] ∧ t.ru.lost = false
          ∧ t.ru.counters = Vector.replicate 14 0)

/-- `t` is left by the completion of an operation of `s` at which a pending CLOSE_STRIP takes effect (R60). -/
def State.ClosedBy (s t : State) : Prop :=
  t.mc.port = none ∧ s.HoldEnds t
    ∧ t.cu = { s.cu with overrides := ⟨none, none, none, none, none⟩ }
    ∧ t.iu = ⟨.stripClosed, none, none, ⟨none, 0, false, false, 0, 0⟩, ⟨.empty, 0, 0, [], 0⟩, ⟨.empty, 0, 0, [], 0⟩, []⟩
    ∧ t.fl = { s.fl with slots := t.fl.slots, profile := [], params := none, locating := none }
    ∧ (∀ v : SlotId, t.fl.slots.get v =
        if (s.fl.slots.get v).state = .planned then Slot.vacantValues else s.fl.slots.get v)
    ∧ t.bt.spans = (s.bt.spans.filter fun sp => decide ((s.fl.slots.get sp.slot).state ≠ .planned))
    ∧ t.bt.restartPending = false ∧ t.bt.closePending = false ∧ t.bt.classifying = none
    ∧ ((s.bt.frameEnd ≠ none ∨ ∀ v, (s.fl.slots.get v).state ≠ .active) →
        t.bt.frameEnd = s.bt.frameEnd ∧ t.bt.openTable = s.bt.openTable ∧ t.bt.tally = s.bt.tally)
    ∧ ∀ v x, s.bt.frameEnd = none → activeSlot s.fl.slots = some v → s.fl.slots.get v = x →
        t.bt.frameEnd = some ⟨v, decide (x.classified < x.height)⟩ ∧ t.bt.openTable = [] ∧ t.bt.previous = []

/-- `u` is `s` once LW has acted on a write of its watched word (R160, R161): a partial write and a write of 0 are ignored; in
LOADING and FILLING the value replaces the copy of next; in STALLED a usable value becomes the current descriptor, still to be
loaded, and an unusable one stages LIST_STALL. The copies, filled count and serials stay as they stand (R154). -/
def State.LinkWritten (s : State) (b : Beat) (u : State) : Prop :=
  ((b.enables ≠ 0xF#4 ∨ b.data.toNat = 0 ∨ s.lw.state = .unchained) → u = s)
    ∧ (b.enables = 0xF#4 → b.data.toNat ≠ 0 → (s.lw.state = .loading ∨ s.lw.state = .filling) →
        u = { s with lw := { s.lw with copy := s.lw.copy.map fun d => { d with next := b.data.toNat } } })
    ∧ (b.enables = 0xF#4 → b.data.toNat ≠ 0 → s.lw.state = .stalled → b.data.toNat % 32 = 0 →
        b.data.toNat < s.mc.size →
        u = { s with lw := { s.lw with state := .loading, current := some b.data.toNat, rejectPending := false } })
    ∧ (b.enables = 0xF#4 → b.data.toNat ≠ 0 → s.lw.state = .stalled →
        (b.data.toNat % 32 ≠ 0 ∨ s.mc.size ≤ b.data.toNat) →
        u = State.stage (.listStall (s.lw.current.getD 0) b.data.toNat)
              { s with lw := { s.lw with state := .stalled, rejectPending := false } })

/-! ## Words of a survey row -/

/-- The access's next word is word `k` of the pixel at row `row` and column `col` of a survey pass over strip `r`, within its
declared rows and width, with data and enables `b` after any byte swap (R11, R12, R43). -/
def State.SurveyWord (s : State) (a : Access) (r : StripRecord) (row col k : Nat) (b : Beat) : Prop :=
  ∃ w, s.upstream = some a ∧ s.wordInService = some w ∧ w.isWrite = true ∧ a.view.pass = .surveying
    ∧ a.view.strip = some r ∧ b = (match r.sampleOrder with | .little => w.beat | .big => w.beat.swapSamples)
    ∧ col < r.surveyWidth ∧ row < r.surveyRows ∧ 8 * r.surveyWidth ≤ r.surveyPitch ∧ r.surveyPitch % 8 = 0
    ∧ row * r.surveyPitch + r.surveyPitch ≤ 0x10000000 ∧ k < 2
    ∧ w.address = 0x20000000 + row * r.surveyPitch + col * 8 + k * 4

/-- The mean of a survey row's sum over the film window, limited to 65535 (R50). -/
def StripRecord.surveyMean (r : StripRecord) (sum : Nat) : Nat :=
  min 65535 (sum / (r.filmRight * r.ks / r.kc - r.filmLeft * r.ks / r.kc + 1))

/-- A survey column lies in the film window (R50). -/
def StripRecord.filmHas (r : StripRecord) (col : Nat) : Bool :=
  decide (r.filmLeft * r.ks / r.kc ≤ col ∧ col ≤ r.filmRight * r.ks / r.kc)

/-! ## Words of a capture row -/

/-- The access's next word is word `k` of the pixel at row `row` and column `col` of a capture pass over strip `r`, within its
declared rows and width, with data and enables `b` after any byte swap (R11, R12, R43). -/
def State.CaptureWord (s : State) (a : Access) (r : StripRecord) (row col k : Nat) (b : Beat) : Prop :=
  ∃ w, s.upstream = some a ∧ s.wordInService = some w ∧ w.isWrite = true ∧ a.view.pass = .capturing
    ∧ a.view.strip = some r ∧ b = (match r.sampleOrder with | .little => w.beat | .big => w.beat.swapSamples)
    ∧ col < r.captureWidth ∧ row < r.captureRows ∧ 8 * r.captureWidth ≤ r.capturePitch ∧ r.capturePitch % 8 = 0
    ∧ row * r.capturePitch + r.capturePitch ≤ 0x10000000 ∧ k < 2
    ∧ w.address = 0x20000000 + row * r.capturePitch + col * 8 + k * 4

/-- The pass state and the strip are still those of the access's grant, so that IU follows the word as one of its pass. -/
def State.Captures (s : State) (r : StripRecord) : Prop := s.iu.pass = .capturing ∧ s.iu.strip = some r

/-- Row `row` is current, not completed, and its first routed word is stored or not, as `begun` says (R46, R55). -/
def RowTracker.isOpen (t : RowTracker) (row : Nat) (begun : Bool) : Prop :=
  t.current = some row ∧ t.complete = false ∧ t.begun = begun

/-- A half that is not EMPTY holds a capture row (R55). -/
def IrHalf.HoldsRow (h : IrHalf) (row : Nat) : Prop := h.state ≠ .empty ∧ h.row = row

/-- The two halves of `u'` are those of `u`, but that the half which holds a row, if any, is changed by `f`; when both hold it,
half A is meant. -/
def IntakeUnit.HalfChanged (u u' : IntakeUnit) (row : Nat) (f : IrHalf → IrHalf) : Prop :=
  (u.halfA.HoldsRow row → u'.halfA = f u.halfA ∧ u'.halfB = u.halfB)
    ∧ (¬u.halfA.HoldsRow row → u.halfB.HoldsRow row → u'.halfA = u.halfA ∧ u'.halfB = f u.halfB)
    ∧ (¬u.halfA.HoldsRow row → ¬u.halfB.HoldsRow row → u'.halfA = u.halfA ∧ u'.halfB = u.halfB)

/-- A half once a pixel of frame column `x` has settled in it: the sample `ir`, or, torn, the clear level and one more in the
torn count (R45). -/
def IrHalf.afterPixel (h : IrHalf) (x clearLevel ir : Nat) (torn : Bool) : IrHalf :=
  { h with entries := h.entries.set x (if torn then clearLevel else ir), torn := h.torn + bit torn }

/-- A half once its row has completed (R48, R55). -/
def IrHalf.afterRow (h : IrHalf) : IrHalf := if h.state = .filling then { h with state := .waiting } else h

/-- A slot's Ymax after a routed word of frame row `y` that is not late (R51). -/
def newestAfter (newest : Option Nat) (y : Nat) : Option Nat := some (max y (newest.getD 0))

/-- Whether frame row `y` raises a slot's Ymax (R51). -/
def Slot.raisesNewest (x : Slot) (y : Nat) : Bool :=
  match x.newest with
  | some n => decide (n < y)
  | none => true

/-- No pending word 0 is left over by word `k` of the pixel at `row` and `col`: none is pending, or it is the word's own (R44). -/
def State.LeavesNone (s : State) (row col k : Nat) : Prop :=
  ∀ p, s.iu.pairing = some p → k = 1 ∧ p.row = row ∧ p.col = col

/-- Word 1 of the pixel at `row` and `col` settles it torn, as `torn` says: not a pair, or one of the two not full (R44). -/
def State.SettlesTorn (s : State) (row col : Nat) (b : Beat) (torn : Bool) : Prop :=
  torn = false ↔ b.isFull = true ∧ ∃ q, s.iu.pairing = some ⟨row, col, true, q⟩

/-- The frame being followed is the same: the tally, the open blemishes and the previous row's runs. -/
def State.SameFrame (s t : State) : Prop :=
  t.bt.tally = s.bt.tally ∧ t.bt.openTable = s.bt.openTable ∧ t.bt.previous = s.bt.previous

/-- Nothing is classified and no frame ends, so that the Blemish Tracker may begin (R92). -/
def State.TrackerFree (s : State) : Prop := s.bt.classifying = none ∧ s.bt.frameEnd = none

/-- Word `k`, with data and enables `b`, of the pixel at capture row `row` and intake column `col`, routed to slot `v` with record
`x` and not late, is stored: its bytes at its band address, Ymax raised, the spans of the rows that lost their band lines retired,
and a PLANNED slot outside the start queue started (R51, R52, R108). -/
def State.StoredInto (s t : State) (v : SlotId) (x : Slot) (row col k : Nat) (b : Beat) : Prop :=
  s.mem.HoldsBeat t.mem
    (x.bandBase + (row - x.top) % x.bandLines * x.bandPitch + (col - x.left) * 8 + k * 4) b
  ∧ t.bt.spans = (if x.raisesNewest (row - x.top) then
      s.bt.spans.filter fun sp => decide (sp.slot ≠ v) || decide (row - x.top < sp.row + x.bandLines) else s.bt.spans)
  ∧ ∀ y : Slot, y = { x with newest := newestAfter x.newest (row - x.top) } →
    (x.state = .active ∨ v ∈ s.iu.startQueue →
      t.fl = { s.fl with slots := s.fl.slots.set v.val y } ∧ t.iu.startQueue = s.iu.startQueue ∧ s.SameFrame t)
    ∧ (x.state = .planned → v ∉ s.iu.startQueue → ∀ z : Slot,
        z = { y with cleanup := if x.clearLevel < s.cu.effIrFloor then .opaqueFilm else x.cleanup } →
        (activeSlot s.fl.slots = none →
          t.fl = { s.fl with slots := s.fl.slots.set v.val { z with state := .active } }
            ∧ t.iu.startQueue = s.iu.startQueue ∧ t.bt.tally = ⟨0, 0, 0, 0, 0, 0, 0, 0⟩ ∧ t.bt.openTable = []
            ∧ t.bt.previous = [])
        ∧ (activeSlot s.fl.slots ≠ none →
          t.fl = { s.fl with slots := s.fl.slots.set v.val z } ∧ t.iu.startQueue = s.iu.startQueue ++ [v]
            ∧ s.SameFrame t))

/-- The half a routed row takes: every entry at the slot's clear level, nothing torn (R55). -/
def IrHalf.freshFor (row : Nat) (v : SlotId) (x : Slot) : IrHalf :=
  ⟨.filling, row, v, List.replicate (x.right - x.left + 1) x.clearLevel, 0⟩

/-- The half that a row takes: an EMPTY one, if there is one (R55; which of two is log 9). -/
def IntakeUnit.TakesHalf (u u' : IntakeUnit) (half : IrHalf) : Prop :=
  (u.halfA.state = .empty → u'.halfA = half) ∧ (u.halfA.state ≠ .empty → u.halfB.state = .empty → u'.halfB = half)

/-- The two halves of `u'` are those of `u` once the row of a word has begun: a routed word's row takes a half (R55). -/
def IntakeUnit.RowBegun (u u' : IntakeUnit) (slots : Vector Slot 8) (row col : Nat) : Prop :=
  (routeOf slots row col = none → u'.halfA = u.halfA ∧ u'.halfB = u.halfB)
    ∧ ∀ v x, routeOf slots row col = some v → slots.get v = x →
      u'.halfA = (if u.halfA.state = .empty then IrHalf.freshFor row v x else u.halfA)
      ∧ u'.halfB =
          (if u.halfA.state ≠ .empty ∧ u.halfB.state = .empty then IrHalf.freshFor row v x else u.halfB)

/-- `k` is the classification of frame row `x.classified` of slot `v`, with record `x`, that begins with the halves of `u`, its
own going to CLASSIFYING in `u'`: its values and torn count are those of the half that holds the row, if any (R56, R87, R92). -/
def State.ClassifiesNext (s : State) (u u' : IntakeUnit) (v : SlotId) (x : Slot) (k : Classification) : Prop :=
  k = { slot := v, row := x.classified, values := k.values, torn := k.torn, clearLevel := x.clearLevel, dx := x.dx,
        width := x.right - x.left + 1, left := x.left, cleanup := x.cleanup, tDense := s.cu.effDense,
        tFaint := s.cu.effFaint, wMax := s.cu.effWMax, minArea := s.cu.effMinArea, columns := s.cu.columns }
  ∧ u.HalfChanged u' (x.top + x.classified) (fun h => { h with state := .classifying })
  ∧ (u.halfA.HoldsRow (x.top + x.classified) → k.values = u.halfA.entries ∧ k.torn = u.halfA.torn)
  ∧ (¬u.halfA.HoldsRow (x.top + x.classified) → u.halfB.HoldsRow (x.top + x.classified) →
      k.values = u.halfB.entries ∧ k.torn = u.halfB.torn)
  ∧ (¬u.halfA.HoldsRow (x.top + x.classified) → ¬u.halfB.HoldsRow (x.top + x.classified) → k.values = [] ∧ k.torn = 0)

/-- The halves of `w` are those of `s` once the open row, if there is one, has completed (R46, R48). -/
def State.RowClosed (s : State) (w : IntakeUnit) : Prop :=
  (s.iu.tracker.current = none ∨ s.iu.tracker.complete = true → w.halfA = s.iu.halfA ∧ w.halfB = s.iu.halfB)
    ∧ ∀ c, s.iu.tracker.current = some c → s.iu.tracker.complete = false → s.iu.HalfChanged w c IrHalf.afterRow

/-- `m` is `s` once the open row of `s`, if there is one, has completed and `row`, above it, is current: ROW_SKIP is counted if rows
were skipped, and the next row of the ACTIVE slot, if it is ready by that, begins to be classified unless something hinders it
(R46, R48, R92). -/
def State.RowMoved (s m : State) (row : Nat) : Prop :=
  ∃ (w : IntakeUnit) (base : State), s.RowClosed w
    ∧ base = { s with
        ru := base.ru
        iu := { s.iu with halfA := w.halfA, halfB := w.halfB, tracker := ⟨some row, 0, false, false, 0, 0⟩ } }
    ∧ ((s.iu.tracker.current = none ∧ 0 < row ∨ ∃ c, s.iu.tracker.current = some c ∧ c + 1 < row) →
        base.ru = (s.count rowSkip).ru)
    ∧ ((s.iu.tracker.current = none ∧ row = 0 ∨ ∃ c, s.iu.tracker.current = some c ∧ c + 1 = row) → base.ru = s.ru)
    ∧ ((¬s.TrackerFree ∨ ¬s.NothingPending ∨ ∀ v x, activeSlot s.fl.slots = some v → s.fl.slots.get v = x →
          x.bottom - x.top + 1 ≤ x.classified ∨ row ≤ x.top + x.classified) → m = base)
    ∧ ∀ v x, s.TrackerFree → s.NothingPending → activeSlot s.fl.slots = some v → s.fl.slots.get v = x →
        x.classified < x.bottom - x.top + 1 → x.top + x.classified < row →
        ∃ c w', s.ClassifiesNext w w' v x c
          ∧ m = { base with iu := { base.iu with halfA := w'.halfA, halfB := w'.halfB },
                            bt := { s.bt with classifying := some c } }

/-- `m` is `s` once word 1 of the pixel at `row`, the open row, and `col` has been stored, if it is routed, and the pixel has
settled, short of the completion of a row it fills (R45, R51, R52, R55). -/
def State.PixelStored (s : State) (a : Access) (row col : Nat) (b : Beat) (torn : Bool) (m : State) : Prop :=
  ∃ w : IntakeUnit,
    (s.iu.tracker.begun = true → w.halfA = s.iu.halfA ∧ w.halfB = s.iu.halfB)
    ∧ (s.iu.tracker.begun = false → s.iu.RowBegun w s.fl.slots row col)
    ∧ m = { s with
        mem := m.mem
        fl := m.fl
        upstream := m.upstream
        ru := (if torn then s.count tornPixel else s).ru
        iu := { s.iu with
          pairing := none
          startQueue := m.iu.startQueue
          halfA := m.iu.halfA
          halfB := m.iu.halfB
          tracker := { s.iu.tracker with settled := s.iu.tracker.settled + 1,
                                         begun := s.iu.tracker.begun || (routeOf s.fl.slots row col).isSome } }
        bt := { s.bt with spans := m.bt.spans, tally := m.bt.tally, openTable := m.bt.openTable,
                          previous := m.bt.previous } }
    ∧ (routeOf s.fl.slots row col = none →
        m.mem = s.mem ∧ m.fl = s.fl ∧ m.bt = s.bt ∧ m.upstream = some (a.wroteWord [])
          ∧ m.iu.startQueue = s.iu.startQueue ∧ m.iu.halfA = w.halfA ∧ m.iu.halfB = w.halfB)
    ∧ ∀ v x, routeOf s.fl.slots row col = some v → s.fl.slots.get v = x →
        s.StoredInto m v x row col 1 b
        ∧ m.upstream = some (Access.wroteWord
            { a with view := if x.raisesNewest (row - x.top) then a.view.raiseNewest v (row - x.top) else a.view } [])
        ∧ w.HalfChanged m.iu row fun h => h.afterPixel (col - x.left) x.clearLevel (b.data.toNat / 65536) torn

/-- `n` is `m` once capture row `row`, the open row of `m`, has completed as one of `rows` declared rows. Its half goes to WAITING,
and the last declared row begins draining (R48). With nothing classified and no frame ending: the next row of the ACTIVE slot, if it
is ready, begins to be classified unless a RESTART or CLOSE_STRIP is pending (R56, R92); in DRAINING the frame end of an ACTIVE
slot with no ready row begins, with CUT while rows are unclassified, and with no slot ACTIVE and the start queue empty the pass
state is PLANNED (R54, R120). -/
def State.RowCompleted (m n : State) (row rows : Nat) : Prop :=
  ∃ w unit : IntakeUnit, m.iu.HalfChanged w row IrHalf.afterRow
    ∧ unit = { m.iu with
        halfA := w.halfA
        halfB := w.halfB
        tracker := { m.iu.tracker with complete := true }
        pass := if row + 1 = rows then .draining else m.iu.pass
        pairing := if row + 1 = rows then none else m.iu.pairing }
    ∧ (¬m.TrackerFree → n = { m with iu := unit })
    ∧ (m.TrackerFree → activeSlot m.fl.slots = none →
        n = { m with iu := { unit with
          pass := if row + 1 = rows ∧ m.iu.startQueue = [] then .planned else unit.pass } })
    ∧ ∀ (v : SlotId) (x : Slot) (ready : Prop), m.TrackerFree → activeSlot m.fl.slots = some v → m.fl.slots.get v = x →
        (ready ↔ x.classified < x.bottom - x.top + 1 ∧ x.top + x.classified ≤ row) →
        (ready → ¬m.NothingPending → n = { m with iu := unit })
        ∧ (ready → m.NothingPending → ∃ c w', m.ClassifiesNext w w' v x c
            ∧ n = { m with iu := { unit with halfA := w'.halfA, halfB := w'.halfB },
                           bt := { m.bt with classifying := some c } })
        ∧ (¬ready → row + 1 ≠ rows → n = { m with iu := unit })
        ∧ ∀ cut l, ¬ready → row + 1 = rows → cut = decide (x.classified < x.bottom - x.top + 1) →
            l = Listing.closeAll m.cu.effMinArea v x.generation cut m.bt.openTable
              ⟨m.lw.queue, m.bt.nextSerial, 0, 0, 0⟩ →
            n = { m with
              iu := unit
              lw := { m.lw with queue := l.queue }
              ru := (State.countTimes unlistedBlemish l.unlisted m).ru
              bt := { m.bt with
                openTable := []
                previous := []
                nextSerial := l.nextSerial
                frameEnd := some ⟨v, cut⟩
                tally := { m.bt.tally with
                  closed := m.bt.tally.closed + l.closed
                  listed := m.bt.tally.listed + l.listed
                  unlisted := m.bt.tally.unlisted + l.unlisted } } }

/-- `u` is `s` with the pending word 0 of pixel `q` settled torn and nothing pending, short of the completion of a row it fills: of
the open row it raises the settled count, counts TORN_PIXEL and, in CAPTURING, puts the clear level into its row's half; of any
other row it has no effect (R44, R45). -/
def State.SettledTorn (s : State) (q : PendingWord) (u : State) : Prop :=
  (¬(s.iu.tracker.current = some q.row ∧ s.iu.tracker.complete = false) → u = { s with iu := { s.iu with pairing := none } })
    ∧ (s.iu.tracker.current = some q.row → s.iu.tracker.complete = false →
      u = { s with
        ru := (s.count tornPixel).ru
        iu := { s.iu with pairing := none, halfA := u.iu.halfA, halfB := u.iu.halfB,
                          tracker := { s.iu.tracker with settled := s.iu.tracker.settled + 1 } } }
      ∧ (s.iu.pass ≠ .capturing ∨ routeOf s.fl.slots q.row q.col = none →
          u.iu.halfA = s.iu.halfA ∧ u.iu.halfB = s.iu.halfB)
      ∧ ∀ v x, s.iu.pass = .capturing → routeOf s.fl.slots q.row q.col = some v → s.fl.slots.get v = x →
          s.iu.HalfChanged u.iu q.row fun h => h.afterPixel (q.col - x.left) x.clearLevel 0 true)

/-! ## Blemish tracking -/

/-- The order of a blemish's wide runs: by row and then start (R110). -/
def WideRun.NotAfter (a b : WideRun) : Prop := a.row < b.row ∨ a.row = b.row ∧ a.start ≤ b.start

/-- `j` is blemish `b` with the blemishes `others` absorbed into it, each after the one before (R114), and the run joined to it
(R115). -/
def OpenBlemish.Joined (b : OpenBlemish) (others : List OpenBlemish) (r : Run) (c : RunContext) (j : OpenBlemish) : Prop :=
  j.key = b.key
    ∧ j.firstRow = (others.map (·.firstRow)).foldl min b.firstRow ∧ j.lastRow = c.row
    ∧ j.rows = c.row - j.firstRow + 1
    ∧ j.left = min ((others.map (·.left)).foldl min b.left) r.start
    ∧ j.right = max ((others.map (·.right)).foldl max b.right) r.stop
    ∧ j.area = b.area + (others.map (·.area)).sum + r.area
    ∧ j.widest = max ((others.map (·.widest)).foldl max b.widest) (r.stop - r.start + 1)
    ∧ j.mergeCount = b.mergeCount + (others.map (·.mergeCount)).sum + others.length
    ∧ (j.wide = true ↔ b.wide = true ∨ (∃ o ∈ others, o.wide = true) ∨ c.wMax < r.stop - r.start + 1)
    ∧ (j.partialRec = true ↔ b.partialRec = true ∨ (∃ o ∈ others, o.partialRec = true) ∨ c.refused = true)
    ∧ (j.edge = true ↔ b.edge = true ∨ (∃ o ∈ others, o.edge = true) ∨ r.start = 0 ∨ r.stop = c.width - 1 ∨ c.row = 0
        ∨ c.row = c.height - 1)
    ∧ ∀ held, held = others.foldl (fun l o => mergeWide l o.wideRuns) b.wideRuns →
        j.wideRuns = if c.wMax < r.stop - r.start + 1 ∧ held.length < 4 then held ++ [⟨c.row, r.start, r.stop⟩] else held

/-- `t'` is the tracking `t` after one run of a row, the run's position counted from 1 (R111 to R115). A run above position 256,
or one that touches no open blemish while 64 are open, is untracked. Another that touches none opens one behind the rest. One
that touches some joins the one opened earliest, into which the others are merged; every run of theirs becomes its own. -/
def Tracking.Follows (t : Tracking) (position : Nat) (r : Run) (c : RunContext) (t' : Tracking) : Prop :=
  ∀ touches : OpenBlemish → Bool,
    (∀ b, touches b = true ↔ ∃ p ∈ t.previous, p.key = b.key ∧ r.start ≤ p.stop + 1 ∧ p.start ≤ r.stop + 1) →
    (256 < position → t' = { t with untracked := t.untracked + 1 })
    ∧ (position ≤ 256 → t.openTable.filter touches = [] → 64 ≤ t.openTable.length →
        t' = { t with untracked := t.untracked + 1 })
    ∧ (position ≤ 256 → t.openTable.filter touches = [] → t.openTable.length < 64 →
        t' = { t with
          openTable := t.openTable ++
            [{ key := t.nextKey, firstRow := c.row, lastRow := c.row, left := r.start, right := r.stop, area := r.area,
               rows := 1, widest := r.stop - r.start + 1, mergeCount := 0,
               wide := decide (c.wMax < r.stop - r.start + 1), partialRec := c.refused,
               edge := decide (r.start = 0 ∨ r.stop = c.width - 1 ∨ c.row = 0 ∨ c.row = c.height - 1),
               wideRuns := if c.wMax < r.stop - r.start + 1 then [⟨c.row, r.start, r.stop⟩] else [] }]
          nextKey := t.nextKey + 1
          current := t.current ++ [⟨r.start, r.stop, t.nextKey⟩] })
    ∧ ∀ b others, position ≤ 256 → t.openTable.filter touches = b :: others →
        ∃ j, b.Joined others r c j ∧
          t' = { t with
            openTable := (t.openTable.filter fun o => decide (o.key ∉ others.map (·.key))).map fun o =>
              if o.key = b.key then j else o
            previous := t.previous.map fun p => if p.key ∈ others.map (·.key) then { p with key := b.key } else p
            current := (t.current.map fun p => if p.key ∈ others.map (·.key) then { p with key := b.key } else p)
              ++ [⟨r.start, r.stop, b.key⟩] }

/-- `l'` is the listing `l` after one closing (R116 to R118): below min_area the blemish leaves no record; else it takes the
next serial, and its record joins a queue that holds fewer than 32 entries or is dropped; with no serial left it is dropped
too. -/
def Listing.Closes (minArea : Nat) (v : SlotId) (generation : Half16) (cut : Bool) (l : Listing) (b : OpenBlemish)
    (l' : Listing) : Prop :=
  (b.area < minArea → l' = { l with closed := l.closed + 1 })
    ∧ (minArea ≤ b.area → l.nextSerial = none → l' = { l with closed := l.closed + 1, unlisted := l.unlisted + 1 })
    ∧ ∀ n, minArea ≤ b.area → l.nextSerial = some n →
        (l.queue.length < 32 →
          l' = { l with
            closed := l.closed + 1
            listed := l.listed + 1
            nextSerial := if n < 4294967295 then some (n + 1) else none
            queue := l.queue ++
              [.record
                { serial := n, slot := v, generation := generation, firstRow := b.firstRow, lastRow := b.lastRow,
                  left := b.left, right := b.right, area := b.area, rows := b.rows, widest := b.widest,
                  mergeCount := b.mergeCount, wide := b.wide, cut := cut, partialRec := b.partialRec, edge := b.edge,
                  wideRuns := b.wideRuns }] })
        ∧ (32 ≤ l.queue.length →
          l' = { l with closed := l.closed + 1, unlisted := l.unlisted + 1,
                        nextSerial := if n < 4294967295 then some (n + 1) else none })

/-! ## Pixel classes -/

/-- Column `j` of a row is the one whose IR registers with column `x`: x + dx, held within columns 0 to width − 1 (R88). -/
def Classification.Registers (k : Classification) (x j : Nat) : Prop :=
  ((x : Int) + k.dx < 0 → j = 0) ∧ (0 ≤ (x : Int) + k.dx → (x : Int) + k.dx < k.width → (j : Int) = x + k.dx)
    ∧ ((k.width : Int) ≤ x + k.dx → j = k.width - 1)

/-! ## Locating frames -/

/-- `a` to `b` is a maximal run of the rows below `rows` that have property `p`. -/
def MaximalRun (p : Nat → Prop) (rows a b : Nat) : Prop :=
  a ≤ b ∧ b < rows ∧ (∀ s, a ≤ s → s ≤ b → p s) ∧ (a = 0 ∨ ¬p (a - 1)) ∧ (b + 1 = rows ∨ ¬p (b + 1))

/-- Survey row `s` is a gap row by the threshold: M + Tg ≥ B, `base` being B (R67). -/
def LocateInputs.GapByThreshold (k : LocateInputs) (base s : Nat) : Prop :=
  ∃ e, k.profile[s]? = some e ∧ base ≤ e.mean + k.params.gapTolerance

/-- Survey row `s` stays a gap row: its run has Gmin rows or contains the first or the last row (R67). -/
def LocateInputs.StaysGap (k : LocateInputs) (base s : Nat) : Prop :=
  ∃ a b, MaximalRun (k.GapByThreshold base) k.profile.length a b ∧ a ≤ s ∧ s ≤ b
    ∧ (k.params.minGap ≤ b - a + 1 ∨ a = 0 ∨ b + 1 = k.profile.length)

/-- Survey row `s` is an image row (R67). -/
def LocateInputs.IsImage (k : LocateInputs) (base s : Nat) : Prop := s < k.profile.length ∧ ¬k.StaysGap base s

/-- `n` is the greatest of the numbers `l`, 0 for none. -/
def IsGreatest (l : List Nat) (n : Nat) : Prop := (∀ m ∈ l, m ≤ n) ∧ (l = [] → n = 0) ∧ (l ≠ [] → n ∈ l)

/-- `f` is frame `i` of the `n` frames of candidate [a, b], over a profile of `rows` rows (R69). -/
def LocateParams.FrameOf (p : LocateParams) (rows a b n i : Nat) (f : SurveyFrame) : Prop :=
  (∀ len centre top, len = b - a + 1 → centre = a + len * (2 * i + 1) / (2 * n) →
      top = (if p.frameLength / 2 ≤ centre then centre - p.frameLength / 2 else 0) →
      (top + p.frameLength - 1 ≤ rows - 1 → f.top = top ∧ f.bottom = top + p.frameLength - 1)
      ∧ (rows - 1 < top + p.frameLength - 1 → f.top = rows - p.frameLength ∧ f.bottom = rows - 1)
      ∧ (f.partialFrame = true ↔ (a = 0 ∨ b + 1 = rows) ∧ len < p.frameLength))
    ∧ (f.splitFrame = true ↔ 1 < n)

/-- `t'` is the trimming `t` after one more frame in order of survey top: against the last frame kept, the shared rows are divided
at their midpoint, and a frame left with no row is dropped (R70; that this may be either of the two is DEDUCED, log 19). -/
def Trimming.Trims (t : Trimming) (f : SurveyFrame) (t' : Trimming) : Prop :=
  (t.kept = [] → t' = if f.bottom < f.top then { t with dropped := t.dropped + 1 } else { t with kept := [f] })
  ∧ ∀ g rest m, t.kept = g :: rest → m = (g.bottom + f.top) / 2 →
    (g.bottom < f.top → f.top ≤ f.bottom → t' = { t with kept := f :: g :: rest })
    ∧ (g.bottom < f.top → f.bottom < f.top → t' = { t with dropped := t.dropped + 1 })
    ∧ (f.top ≤ g.bottom → g.top ≤ m → m + 1 ≤ f.bottom →
        t' = { t with kept := { f with top := m + 1 } :: { g with bottom := m } :: rest })
    ∧ (f.top ≤ g.bottom → g.top ≤ m → f.bottom < m + 1 →
        t' = ⟨{ g with bottom := m } :: rest, t.dropped + 1⟩)
    ∧ (f.top ≤ g.bottom → m < g.top → m + 1 ≤ f.bottom → t' = ⟨{ f with top := m + 1 } :: rest, t.dropped + 1⟩)
    ∧ (f.top ≤ g.bottom → m < g.top → f.bottom < m + 1 → t' = ⟨rest, t.dropped + 2⟩)

/-- A survey window keeps rows and columns when converted to capture rows with the inset (R71). -/
def LocateInputs.Converts (k : LocateInputs) (f : SurveyFrame) : Prop :=
  f.top * k.strip.kc / k.strip.ks + k.params.inset < k.strip.captureRows
    ∧ f.top * k.strip.kc / k.strip.ks + k.params.inset + k.params.inset + 1 ≤ (f.bottom + 1) * k.strip.kc / k.strip.ks
    ∧ k.strip.filmLeft + k.params.inset + k.params.inset ≤ k.strip.filmRight

/-- `g` is survey frame `f` converted, with the clear level and cleanup state it takes from the profile (R71, R72). -/
def LocateInputs.ConvertedTo (k : LocateInputs) (f : SurveyFrame) (g : LocatedFrame) : Prop :=
  g.surveyTop = f.top ∧ g.surveyBottom = f.bottom ∧ g.partialFrame = f.partialFrame ∧ g.splitFrame = f.splitFrame
    ∧ g.top = f.top * k.strip.kc / k.strip.ks + k.params.inset
    ∧ g.bottom = min (k.strip.captureRows - 1) ((f.bottom + 1) * k.strip.kc / k.strip.ks - 1 - k.params.inset)
    ∧ g.left = k.strip.filmLeft + k.params.inset ∧ g.right = k.strip.filmRight - k.params.inset
    ∧ IsGreatest (((k.profile.drop f.top).take (f.bottom + 1 - f.top)).map (·.ir)) g.clearLevel
    ∧ g.cleanup = if g.clearLevel < k.irFloor then .opaqueFilm else k.strip.defaultCleanup

/-! ## Repair between anchors -/

/-- What the pixels of columns `start` to `stop` take from the anchors next to them in their band line (R134 to R136, R139): the
interpolation between two, a copy of one, and without any the raw pixel, counted in UNMENDED_READ. -/
def RepairsBetween (m : Memory) (x : Slot) (line col start stop : Nat) (result : MendResult) : Prop :=
  (∀ (a b p : Pixel) (len k : Nat), 0 < start → stop + 1 ≠ x.width → a = rawPixel m x line (start - 1) →
      b = rawPixel m x line (stop + 1) → len = stop - start + 1 → k = col - start + 1 →
      p = ⟨(a.r * (len + 1 - k) + b.r * k + (len + 1) / 2) / (len + 1),
           (a.g * (len + 1 - k) + b.g * k + (len + 1) / 2) / (len + 1),
           (a.b * (len + 1 - k) + b.b * k + (len + 1) / 2) / (len + 1),
           (a.i * (len + 1 - k) + b.i * k + (len + 1) / 2) / (len + 1)⟩ →
      result = ⟨p, none⟩)
    ∧ (start = 0 → stop + 1 ≠ x.width → result = ⟨rawPixel m x line (stop + 1), none⟩)
    ∧ (0 < start → stop + 1 = x.width → result = ⟨rawPixel m x line (start - 1), none⟩)
    ∧ (start = 0 → stop + 1 = x.width → result = ⟨rawPixel m x line col, some unmendedRead⟩)

/-- Columns `lo` to `hi` are the column group of frame column `col` (R137): the maximal range of listed columns of the frame that
holds it. -/
def ColumnGroup (x : Slot) (columns : List Nat) (col lo hi : Nat) : Prop :=
  lo ≤ col ∧ col ≤ hi ∧ hi < x.width ∧ (∀ c, lo ≤ c → c ≤ hi → x.left + c ∈ columns)
    ∧ (0 < lo → x.left + (lo - 1) ∉ columns) ∧ (hi + 1 < x.width → x.left + (hi + 1) ∉ columns)

/-! ## Fields of the command records -/

/-- The field at an offset of a SET_PLAN record is good (R24, R28, R30, R168, R206); an offset at which no checked field begins
has nothing that could be bad. -/
def SetPlanFieldGood (size : Nat) (c : CommandUnit) : Nat → Prop
  | 0x001 => (c.shadow.read 1).toNat ≤ 1
  | 0x002 => 1 ≤ (c.shadow.read 2).toNat
  | 0x008 => (c.shadow.read 0).getLsbD 0 = true → c.shadow.read16 0x008 ∈ [0, 16, 32, 64, 128, 256, 512, 1024]
  | 0x00C => (c.shadow.read 0).getLsbD 0 = true → c.shadow.read16 0x008 ≠ 0 →
      c.shadow.read32 0x00C % 32 = 0 ∧ c.shadow.read32 0x00C + c.shadow.read16 0x008 * 32 + 4096 ≤ size
  | 0x010 => 1 ≤ c.shadow.read16 0x010 ∧ c.shadow.read16 0x010 ≤ 255
  | 0x012 => c.shadow.read16 0x010 < c.shadow.read16 0x012 ∧ c.shadow.read16 0x012 ≤ 256
      ∧ c.overrides.tDense.getD (c.shadow.read16 0x010) < c.overrides.tFaint.getD (c.shadow.read16 0x012)
  | 0x014 => 1 ≤ (c.shadow.read 0x014).toNat ∧ (c.shadow.read 0x014).toNat ≤ 64
  | 0x015 => 1 ≤ (c.shadow.read 0x015).toNat ∧ (c.shadow.read 0x015).toNat ≤ 31
  | 0x016 => (c.shadow.read 0x015).toNat < (c.shadow.read 0x016).toNat ∧ (c.shadow.read 0x016).toNat ≤ 32
  | 0x018 => 1 ≤ c.shadow.read16 0x018
  | 0x01A => 1 ≤ c.shadow.read16 0x01A
  | _ => True

/-- The field at an offset of an OPEN_STRIP record is good (R24, R30, R37, R207). -/
def OpenStripFieldGood (size : Nat) (c : CommandUnit) (r : StripRecord) (o : Overrides) : Nat → Prop
  | 0x000 => (c.shadow.read 0).toNat ≤ 1
  | 0x002 => 1 ≤ r.surveyWidth ∧ r.surveyWidth ≤ 8192
  | 0x004 => r.surveyPitch % 8 = 0 ∧ r.surveyWidth * 8 ≤ r.surveyPitch
  | 0x008 => 1 ≤ r.surveyRows ∧ r.surveyRows ≤ 4096 ∧ r.surveyRows * r.surveyPitch ≤ 0x10000000
  | 0x00C => r.surveyBase % 32 = 0 ∧ r.surveyBase + r.surveyRows * r.surveyPitch + 4096 ≤ size
  | 0x010 => 1 ≤ r.captureWidth
  | 0x014 => r.capturePitch % 8 = 0 ∧ r.captureWidth * 8 ≤ r.capturePitch
  | 0x018 => 1 ≤ r.captureRows ∧ r.captureRows * r.capturePitch ≤ 0x10000000
  | 0x01C => 1 ≤ r.kc ∧ r.kc ≤ 16
  | 0x01D => 1 ≤ r.ks ∧ r.ks ≤ 16
  | 0x020 => r.filmLeft < r.captureWidth
  | 0x022 => r.filmLeft ≤ r.filmRight ∧ r.filmRight < r.captureWidth ∧ r.filmRight - r.filmLeft + 1 ≤ 8192
      ∧ r.filmRight * r.ks / r.kc < r.surveyWidth
  | 0x024 => -3 ≤ r.dx ∧ r.dx ≤ 3
  | 0x025 => (c.shadow.read 0x025).toNat ≤ 2
  | 0x028 => r.bandAreaBase % 32 = 0
  | 0x02C => r.bandStride % 32 = 0
  | 0x030 => 8 ≤ r.bandLines ∧ r.bandLines ≤ 4096
  | 0x034 => r.bandPitch % 32 = 0 ∧ (r.filmRight - r.filmLeft + 1) * 8 ≤ r.bandPitch
      ∧ r.bandLines * r.bandPitch ≤ 0x02000000
      ∧ r.bandAreaBase + 7 * r.bandStride + r.bandLines * r.bandPitch + 4096 ≤ size
  | 0x03A => 1 ≤ r.params.minGap ∧ r.params.minGap ≤ 64
  | 0x03C => 8 ≤ r.params.frameLength ∧ r.params.frameLength ≤ 2048
  | 0x03E => r.params.nominalGap ≤ 256
  | 0x042 => ∀ d, o.tDense = some d → 1 ≤ d ∧ d ≤ 255 ∧ (o.tFaint = none → d < c.standing.tFaint)
  | 0x044 => ∀ f, o.tFaint = some f → 2 ≤ f ∧ f ≤ 256 ∧ o.tDense.getD c.standing.tDense < f
  | 0x046 => ∀ w, o.wMax = some w → 1 ≤ w ∧ w ≤ 64
  | 0x048 => ∀ n, o.minArea = some n → 1 ≤ n
  | 0x04A => ∀ n, o.irFloor = some n → 1 ≤ n
  | _ => True

/-- The field at an offset of a SET_FRAME record with action PLAN is good, over strip `r` and the slots (R24, R80, R208). -/
def SetFrameFieldGood (size : Nat) (r : StripRecord) (slots : Vector Slot 8) (m : Memory) : Nat → Prop
  | 0x000 => (m.read 0).toNat ≤ 7
  | 0x001 => (m.read 1).toNat ≤ 1
  | 0x004 => m.read32 0x004 < r.captureRows
  | 0x008 => m.read32 0x004 ≤ m.read32 0x008 ∧ m.read32 0x008 < r.captureRows
      ∧ ∀ u : SlotId, u.val ≠ (m.read 0).toNat → (slots.get u).state ∈ [.planned, .active, .captured] →
        m.read32 0x008 < (slots.get u).top ∨ (slots.get u).bottom < m.read32 0x004
  | 0x00C => m.read16 0x00C < r.captureWidth
  | 0x00E => m.read16 0x00C ≤ m.read16 0x00E ∧ m.read16 0x00E < r.captureWidth
      ∧ m.read16 0x00E - m.read16 0x00C + 1 ≤ 8192
  | 0x010 => m.read32 0x010 % 32 = 0
  | 0x014 => 8 ≤ m.read16 0x014 ∧ m.read16 0x014 ≤ 4096
  | 0x018 => m.read32 0x018 % 32 = 0 ∧ (m.read16 0x00E - m.read16 0x00C + 1) * 8 ≤ m.read32 0x018
      ∧ m.read16 0x014 * m.read32 0x018 ≤ 0x02000000
      ∧ m.read32 0x010 + m.read16 0x014 * m.read32 0x018 + 4096 ≤ size
  | 0x01E => (m.read 0x01E).toNat ≤ 3
  | _ => True

end Sys2Proof.Machine
end

