-- ==== Sys2Proof/Certificates/Slice0/Obligations.lean ====
section
/-! DEFINITION. The statements for the provers. Each docstring names the rules it rests on. -/

open Sys2Proof Sys2Proof.Machine

/-! ## Steps and the queue -/

/-- The command at the front of the queue is taken off it and runs (the model's step, log 4). -/
def Obligations.StepRunsFrontCommand : Prop :=
  ∀ (s : State) (c : Instr) (rest : List Instr), s.pending = c :: rest → step s = exec c { s with pending := rest }

/-- Every command answers a next state in every state and leaves the queue of commands that wait as it is. That it does so
where the event's condition does not hold, by leaving the state as it is, is the model's choice (DESIGN CHOICE, log 1). An
access of no words or of more than 8 is refused, which the model reads from R1's 1 to 8 words (DEDUCED, log 23). -/
def Obligations.ExecAnswersNext : Prop :=
  ∀ (c : Instr) (s : State),
    ((∀ req, c = .upstreamAccess req → 1 ≤ req.wordCount ∧ req.wordCount ≤ 8) →
        ∃ t, exec c s = .next t ∧ t.pending = s.pending)
      ∧ (∀ req, c = .upstreamAccess req → (req.wordCount = 0 ∨ 8 < req.wordCount) →
          exec c s = .refused .burstLength)

/-- With no command waiting a step is one tick of 0.1 µs (the model's choice, log 4): a running timer moves on by one; 78
ticks after the last expiry the refresh timer's expiry is queued, and T µs after its start the coalescing timer's;
nothing else changes. -/
def Obligations.IdleStepTicksTheTimers : Prop :=
  ∀ s : State, s.pending = [] → ∃ t, step s = .next t
    ∧ t = { s with mc := { s.mc with refreshTimer := s.mc.refreshTimer.map (· + 1) },
                   ru := { s.ru with timer := s.ru.timer.map (· + 1) }, pending := t.pending }
    ∧ (.refreshTimerExpiry ∈ t.pending ↔ ∃ n, s.mc.refreshTimer = some n ∧ 78 ≤ n + 1)
    ∧ (.coalescingTimerExpiry ∈ t.pending ↔ ∃ n, s.ru.timer = some n ∧ s.cu.standing.coalesceTime * 10 ≤ n + 1)
    ∧ ∀ c ∈ t.pending, c = .refreshTimerExpiry ∨ c = .coalescingTimerExpiry

/-! ## Invariants -/

/-- Every step keeps memory and the bulletin shadow in their canonical form (the model's own form of memory). -/
def Obligations.StepKeepsMemoryCanonical : Prop :=
  ∀ s t : State, s.MemoryCanonical → step s = .next t → t.MemoryCanonical

/-- Every step keeps the sizes of R187 (refresh debt), R170 (staging queue), R152 (holding queue), R105 (span table), R110
(open blemish table) and R111 (previous-row run list). -/
def Obligations.StepKeepsBounds : Prop :=
  ∀ s t : State, s.Bounded → step s = .next t → t.Bounded

/-- Every step keeps the pass-over counts from 0 to 32, a writer being promoted exactly at 32 (R193). -/
def Obligations.StepKeepsPromotionsCounted : Prop :=
  ∀ s t : State, s.PromotionsCounted → step s = .next t → t.PromotionsCounted

/-- Every step keeps T_dense below T_faint, standing and effective (R30). -/
def Obligations.StepKeepsThresholdsOrdered : Prop :=
  ∀ s t : State, s.ThresholdsOrdered → step s = .next t → t.ThresholdsOrdered

/-- Every step keeps (produced − taken) mod 2^32 at or below the ring's slot count (R174). -/
def Obligations.StepKeepsRingWindow : Prop :=
  ∀ s t : State, s.RingWindow → step s = .next t → t.RingWindow

/-- Every step keeps the span table in order of slot, row and start (R105). -/
def Obligations.StepKeepsSpansOrdered : Prop :=
  ∀ s t : State, s.SpansOrdered → step s = .next t → t.SpansOrdered

/-- Every step keeps the column mend list at no more than 16 distinct columns in ascending order (R32). -/
def Obligations.StepKeepsColumnsAscending : Prop :=
  ∀ s t : State, s.ColumnsAscend → step s = .next t → t.ColumnsAscend

/-- The state after reset meets every invariant above. -/
def Obligations.ResetMeetsInvariants : Prop :=
  State.reset.MemoryCanonical ∧ State.reset.Bounded ∧ State.reset.PromotionsCounted ∧ State.reset.ThresholdsOrdered
    ∧ State.reset.RingWindow ∧ State.reset.SpansOrdered ∧ State.reset.ColumnsAscend

/-- The memory size changes only when RESET_N is released, which samples the straps (R184). -/
def Obligations.MemorySizeFixedByStraps : Prop :=
  (∀ s : State, ∃ t, exec (.resetNRelease false false) s = .next t ∧ t.mc.size = 0x04000000)
    ∧ (∀ s : State, ∃ t, exec (.resetNRelease false true) s = .next t ∧ t.mc.size = 0x08000000)
    ∧ (∀ s : State, ∃ t, exec (.resetNRelease true false) s = .next t ∧ t.mc.size = 0x10000000)
    ∧ (∀ s : State, ∃ t, exec (.resetNRelease true true) s = .next t ∧ t.mc.size = 0x10000000)
    ∧ ∀ (c : Instr) (s t : State), (∀ a b, c ≠ .resetNRelease a b) → exec c s = .next t → t.mc.size = s.mc.size

/-! ## Accesses -/

/-- The words of an access lie at consecutive word addresses modulo 2^30 (R1), and each address lies in one of the five
zones of R3. -/
def Obligations.AddressPlan : Prop :=
  (∀ (req : UpstreamReq) (i : Nat),
      wordAddress req i = (requestAddress req - requestAddress req % 4 + 4 * i) % 2 ^ 30)
    ∧ ∀ size a : Nat, 4096 < size → size ≤ 0x20000000 → a < 2 ^ 30 →
      (zoneOf size a = .plain ↔ a ≤ size - 4097)
        ∧ (zoneOf size a = .bulletin ↔ size - 4096 ≤ a ∧ a ≤ size - 1)
        ∧ (zoneOf size a = .unbacked ↔ size ≤ a ∧ a ≤ 0x1FFFFFFF)
        ∧ (zoneOf size a = .intake ↔ 0x20000000 ≤ a ∧ a ≤ 0x2FFFFFFF)
        ∧ (zoneOf size a = .view ↔ 0x30000000 ≤ a ∧ a ≤ 0x3FFFFFFF)

/-- An access of 1 to 8 words presented at a free port is held (R2, R6): during the start-up undecoded; once running,
served at once when all its words are UNBACKED (R4), else on the row hold when IU holds it (R57), else asking for the
port. Only the access and the last completion change. -/
def Obligations.AccessPresented : Prop :=
  ∀ (s : State) (req : UpstreamReq), s.upstream = none → s.mc.phase ≠ .inReset → 1 ≤ req.wordCount → req.wordCount ≤ 8 →
    ∃ t a, exec (.upstreamAccess req) s = .next t
      ∧ State.Settles { s with upstream := some a, completion := none } t
      ∧ a = { req := req, phase := a.phase, served := 0, data := [], handed := [], faulted := false, lateCounted := false,
              overCounted := false, view := a.view, computation := none }
      ∧ (s.mc.phase = .startup → a.phase = .startupHeld)
      ∧ (s.mc.phase = .running → a.view = s.viewNow)
      ∧ (s.mc.phase = .running → (∀ i < req.wordCount, zoneOf s.mc.size (wordAddress req i) = .unbacked) →
          a.phase = .serving)
      ∧ (s.mc.phase = .running → (∃ i < req.wordCount, zoneOf s.mc.size (wordAddress req i) ≠ .unbacked) →
          a.phase = if s.holdsAccess req then .rowHeld else .asking)

/-- IU holds a write exactly when neither half of the IR row buffer is EMPTY and one of its intake words would begin a new
routed row (R57): it lies within the declared rows and width of the capture pass, a slot routes it, and its row is above
the current row, or there is none, or it is the open current row with no routed word stored yet. It holds no read: a read
begins no row (DEDUCED, log 11). -/
def Obligations.RowHoldDecided : Prop :=
  ∀ (s : State) (req : UpstreamReq),
    s.holdsAccess req = true ↔
      (∃ a beats, req = .write a beats) ∧ s.iu.halfA.state ≠ .empty ∧ s.iu.halfB.state ≠ .empty
        ∧ s.iu.pass = .capturing
        ∧ ∃ r i o, s.iu.strip = some r ∧ i < req.wordCount ∧ wordAddress req i = 0x20000000 + o ∧ o < 0x10000000
          ∧ o / r.capturePitch < r.captureRows ∧ o % r.capturePitch / 8 < r.captureWidth
          ∧ (∃ v, routeOf s.fl.slots (o / r.capturePitch) (o % r.capturePitch / 8) = some v)
          ∧ ∀ cur, s.iu.tracker.current = some cur →
              cur < o / r.capturePitch
                ∨ o / r.capturePitch = cur ∧ s.iu.tracker.complete = false ∧ s.iu.tracker.begun = false

/-- An access whose words are all served, with no hand-over and no post outstanding, completes (R2): the port is free, the
completion is signalled with the data in burst position order, and a grant it held ends. A RESTART or CLOSE_STRIP that is pending
while no classification is in flight takes effect as the operation at the port completes, whichever operation that is, with the
values of R34 or R60 (R196; that it waits for that moment is DEDUCED, log 16, and what came before it in that time log 31). While a
classification is in flight the completion leaves it pending. -/
def Obligations.AccessCompletes : Prop :=
  (∀ (s : State) (a : Access), s.upstream = some a → a.phase = .serving → a.handed = [] → s.cu.posted = none →
    a.served = a.req.wordCount → s.NothingPending →
    ∃ t, exec .accessComplete s = .next t
      ∧ State.Settles
          { s with upstream := none, completion := some ⟨!requestIsWrite a.req, a.data⟩,
                   mc := { s.mc with port := if s.mc.port = some .upstream then none else s.mc.port } } t)
  ∧ ∀ (s : State) (c : Instr), s.EndsOperation c →
    (s.bt.classifying = none → s.bt.restartPending = true → ∃ t, exec c s = .next t ∧ s.RestartedBy t)
    ∧ (s.bt.classifying = none → s.bt.restartPending = false → s.bt.closePending = true →
        ∃ t, exec c s = .next t ∧ s.ClosedBy t)
    ∧ (s.bt.classifying ≠ none →
        ∃ t, exec c s = .next t ∧ t.mc.port = none ∧ t.bt = s.bt ∧ t.iu = s.iu ∧ t.fl = s.fl ∧ t.cu = s.cu)

/-! ## Plain and bulletin words -/

/-- A PLAIN write (R7): the enabled bytes reach memory, every other byte stays, and a write of the watched word is handed to
LW. A PLAIN or BULLETIN read returns the four bytes memory holds (R7, R8); that a BULLETIN read is served by PLAIN_READ,
since the table has no row for it, is the model's (DEDUCED, log 7). In READ mode a PLAIN read of the newest written slot
releases ATTN_N, stops the timer and sets the acknowledged-through count to the produced count (R178); no other read
changes anything but the access. -/
def Obligations.PlainWords : Prop :=
  ∀ (s : State) (a : Access) (w : WordItem), s.upstream = some a → s.wordInService = some w →
    (w.zone = .plain → w.isWrite = true →
      ∃ t, exec .plainWrite s = .next t
        ∧ State.Settles
            { s with mem := t.mem,
                     upstream := some (a.wroteWord
                       (if s.lw.state ≠ .unchained ∧ s.lw.current = some w.address then [.listWriter] else [])) } t
        ∧ s.mem.HoldsBeat t.mem w.address w.beat)
    ∧ ((w.zone = .plain ∨ w.zone = .bulletin) → w.isWrite = false →
      ∃ t v ru, exec .plainRead s = .next t
        ∧ State.Settles { s with upstream := some (a.readWord v), ru := ru } t
        ∧ (∀ k < 4, v.toNat / 256 ^ k % 256 = (s.mem.read (w.address + k)).toNat)
        ∧ (∀ n, w.zone = .plain → s.cu.standing.attentionMode = .read → s.ru.newest = some n →
            s.cu.standing.ringBase + 32 * n ≤ w.address → w.address < s.cu.standing.ringBase + 32 * n + 32 →
            ru = { s.ru with attention := false, timer := none, ackThrough := s.ru.produced })
        ∧ ((w.zone = .bulletin ∨ s.cu.standing.attentionMode = .take ∨ s.ru.newest = none
              ∨ ∃ n, s.ru.newest = some n ∧ ¬(s.cu.standing.ringBase + 32 * n ≤ w.address
                                            ∧ w.address < s.cu.standing.ringBase + 32 * n + 32)) → ru = s.ru))

/-- A BULLETIN write reaches memory (R8). Outside the watched word: in the command record its enabled bytes enter the
shadow (R20); a full post word with bytes 1 to 3 zero posts its kind, any other write at 0x100 is counted in
BULLETIN_REJECT (R21); a write at 0x104 is handed to RU; elsewhere nothing more happens. A write of the watched word is
handed to LW before CU and RU take it (R5). -/
def Obligations.BulletinWrite : Prop :=
  ∀ (s : State) (a : Access) (w : WordItem) (offset : Nat), s.upstream = some a → s.wordInService = some w →
    w.zone = .bulletin → w.isWrite = true → 4096 ≤ s.mc.size → w.address + 4096 = s.mc.size + offset →
    ∃ t, exec .bulletinWrite s = .next t
      ∧ s.mem.HoldsBeat t.mem w.address w.beat
      ∧ (s.lw.state ≠ .unchained → s.lw.current = some w.address →
          State.Settles
            { s with mem := t.mem,
                     upstream := some (a.wroteWord
                       (.listWriter :: ((if offset < 0x108 then [.commandUnit] else [])
                         ++ if offset = 0x104 then [.reportUnit] else []))) } t)
      ∧ ((s.lw.state = .unchained ∨ s.lw.current ≠ some w.address) →
          (offset < 0x100 →
            State.Settles { s with mem := t.mem, upstream := some (a.wroteWord []),
                                   cu := { s.cu with shadow := t.cu.shadow } } t
              ∧ s.cu.shadow.HoldsBeat t.cu.shadow offset w.beat)
          ∧ (offset = 0x100 → w.beat.enables = 0xF#4 → w.beat.data.toNat < 256 →
            State.Settles { s with mem := t.mem, upstream := some (a.wroteWord []),
                                   cu := { s.cu with posted := some (BitVec.ofNat 8 w.beat.data.toNat) } } t)
          ∧ (offset = 0x100 → (w.beat.enables ≠ 0xF#4 ∨ 256 ≤ w.beat.data.toNat) →
            State.Settles (State.count bulletinReject { s with mem := t.mem, upstream := some (a.wroteWord []) }) t)
          ∧ (offset = 0x104 → State.Settles { s with mem := t.mem, upstream := some (a.wroteWord [.reportUnit]) } t)
          ∧ (0x108 ≤ offset → State.Settles { s with mem := t.mem, upstream := some (a.wroteWord []) } t))

/-- A taken-count write handed to RU (R174). Unless it is full and lies within the slot count of the produced count it is
counted in BULLETIN_REJECT. Else it becomes the taken count: in READ mode nothing else changes (R178); in TAKE mode a
backlog of 0 releases ATTN_N and stops the timer (R177), a raised one asserts at N and starts the timer from 0 (R175,
R176). The ring is taken not to be full afterwards, or no report staged. -/
def Obligations.TakenCountWrite : Prop :=
  ∀ (s : State) (a : Access) (rest : List HandOver) (b : Beat), s.upstream = some a →
    a.handed = .reportUnit :: rest → b = requestBeat a.req (a.served - 1) →
    ∃ t, exec .takenCountWrite s = .next t
      ∧ ((b.enables ≠ 0xF#4 ∨ s.cu.standing.slotCount < (s.ru.produced - b.data).toNat) →
          State.Settles (State.count bulletinReject { s with upstream := some { a with handed := rest } }) t)
      ∧ (b.enables = 0xF#4 → (s.ru.produced - b.data).toNat ≤ s.cu.standing.slotCount →
          (s.ru.staging = [] ∨ s.cu.standing.slotCount = 0
            ∨ (s.ru.produced - b.data).toNat < s.cu.standing.slotCount) →
          (s.cu.standing.attentionMode = .read →
            State.Settles { s with upstream := some { a with handed := rest }, ru := { s.ru with taken := b.data } } t)
          ∧ (s.cu.standing.attentionMode = .take → b.data = s.ru.produced →
            State.Settles { s with upstream := some { a with handed := rest },
                                   ru := { s.ru with taken := b.data, attention := false, timer := none } } t)
          ∧ (s.cu.standing.attentionMode = .take → b.data ≠ s.ru.produced →
              (s.ru.produced - b.data).toNat ≤ (s.ru.produced - s.ru.taken).toNat →
            State.Settles { s with upstream := some { a with handed := rest }, ru := { s.ru with taken := b.data } } t)
          ∧ (s.cu.standing.attentionMode = .take →
              (s.ru.produced - s.ru.taken).toNat < (s.ru.produced - b.data).toNat →
            State.Settles
              { s with
                upstream := some { a with handed := rest }
                ru := { s.ru with
                  taken := b.data
                  attention := s.ru.attention
                    || decide (s.cu.standing.coalesceCount ≤ (s.ru.produced - b.data).toNat)
                  timer := if s.ru.produced = s.ru.taken then
                      (if s.cu.standing.coalesceTime = 0 then none else some 0)
                    else s.ru.timer } } t))

/-- What accepted taken counts and memory reads do to the attention line in TAKE mode (R177): an accepted taken count equal to
the produced count releases ATTN_N and stops the timer; one that leaves the backlog above 0 neither releases the line nor stops
or restarts a timer that runs with the backlog above 0; and no read of memory, the ring's slots included, changes anything at RU
(that PLAIN_READ serves bulletin reads is log 7, DEDUCED). -/
def Obligations.TakeModeAttention : Prop :=
  ∀ s : State, s.cu.standing.attentionMode = .take →
    (∀ (a : Access) (rest : List HandOver) (b : Beat), s.upstream = some a → a.handed = .reportUnit :: rest →
        b = requestBeat a.req (a.served - 1) → b.enables = 0xF#4 →
        (s.ru.produced - b.data).toNat ≤ s.cu.standing.slotCount →
        ∃ t, exec .takenCountWrite s = .next t ∧ t.ru.taken = b.data
          ∧ (b.data = s.ru.produced → t.ru.attention = false ∧ t.ru.timer = none)
          ∧ (b.data ≠ s.ru.produced → (s.ru.attention = true → t.ru.attention = true)
              ∧ (s.ru.produced ≠ s.ru.taken → t.ru.timer = s.ru.timer)))
      ∧ ∀ (a : Access) (w : WordItem), s.upstream = some a → s.wordInService = some w →
        (w.zone = .plain ∨ w.zone = .bulletin) → w.isWrite = false → ∃ t, exec .plainRead s = .next t ∧ t.ru = s.ru

/-- A write of the watched word handed to LW (R160, R161). A partial write and a write of 0 are ignored. In LOADING and FILLING
the value replaces the copy of next. In STALLED a usable value becomes the current descriptor, still to be loaded; an unusable one
leaves the writer STALLED and stages LIST_STALL. That the copies, filled count and serials stay as they stand until that load is
DEDUCED (log 33). Where the word lies in the command record or at the post word, CU acts after LW on
the same write (R5; that it does so within this command is DEDUCED, log 6): its enabled bytes enter the shadow (R20), a full post
word posts its kind, and any other write at the post word is counted in BULLETIN_REJECT (R21). -/
def Obligations.WatchedWordWrite : Prop :=
  ∀ (s u : State) (a : Access) (rest : List HandOver) (b : Beat), s.upstream = some a →
    a.handed = .listWriter :: rest → b = requestBeat a.req (a.served - 1) → s.LinkWritten b u →
    ∃ t, exec .watchedWordWrite s = .next t
      ∧ (rest.head? ≠ some .commandUnit → State.Settles { u with upstream := some { a with handed := rest } } t)
      ∧ ∀ (later : List HandOver) (offset : Nat), rest = .commandUnit :: later → 4096 ≤ s.mc.size →
          wordAddress a.req (a.served - 1) + 4096 = s.mc.size + offset →
          (offset < 0x100 →
            State.Settles { u with upstream := some { a with handed := later },
                                   cu := { u.cu with shadow := t.cu.shadow } } t
              ∧ s.cu.shadow.HoldsBeat t.cu.shadow offset b)
          ∧ (offset = 0x100 → b.enables = 0xF#4 → b.data.toNat < 256 →
            State.Settles { u with upstream := some { a with handed := later },
                                   cu := { u.cu with posted := some (BitVec.ofNat 8 b.data.toNat) } } t)
          ∧ (offset = 0x100 → (b.enables ≠ 0xF#4 ∨ 256 ≤ b.data.toNat) →
            State.Settles (State.count bulletinReject { u with upstream := some { a with handed := later } }) t)
          ∧ (0x100 < offset → State.Settles { u with upstream := some { a with handed := later } } t)

/-! ## Faults, unbacked, intake and view words -/

/-- A fault raised while the record is unlocked fills and locks it and stages the FAULT report, which joins the staging
queue where there is room; the record locks all the same without (R15). One raised while it is locked leaves the record,
stages no FAULT report, and counts FAULT_MISSED unless its mask bit stops it (R16). -/
def Obligations.FaultRaised : Prop :=
  ∀ (s : State) (f : FaultRecord),
    (s.fault.locked = false → (s.raiseFault f).fault = { f with locked := true })
      ∧ (s.fault.locked = false → s.ru.staging.length < 8 → s.ru.ringFull s.cu.standing.slotCount = false →
          s.raiseFault f = { s with fault := { f with locked := true },
                                    ru := { s.ru with staging := s.ru.staging ++ [.fault { f with locked := true }] } })
      ∧ (s.fault.locked = true → (s.raiseFault f).fault = s.fault
          ∧ ∀ r, Report.fault r ∈ (s.raiseFault f).ru.staging → Report.fault r ∈ s.ru.staging)
      ∧ (s.fault.locked = true → s.cu.standing.countMask.getLsbD 10 = true → s.raiseFault f = s)
      ∧ (s.fault.locked = true → s.cu.standing.countMask.getLsbD 10 = false → s.ru.counters.get 10 ≠ 49151 →
          s.raiseFault f =
            { s with ru := { s.ru with counters := s.ru.counters.set 10 (s.ru.counters.get 10 + 1) } })

/-- A word from S to 0x1FFF_FFFF (R10): a write is dropped and a read returns zero; the first such word of an access that
has raised no fault yet raises UNBACKED with its address, direction and burst position. Memory does not change. -/
def Obligations.UnbackedWord : Prop :=
  ∀ (s : State) (a : Access) (w : WordItem), s.upstream = some a → s.wordInService = some w →
    s.mc.size ≤ w.address → w.address ≤ 0x1FFFFFFF →
    ∃ t, exec .unbackedAccess s = .next t ∧ t.mem = s.mem
      ∧ (a.faulted = true →
          State.Settles { s with upstream := some (if w.isWrite then a.wroteWord [] else a.readWord 0) } t)
      ∧ (a.faulted = false →
          State.Settles
            { State.raiseFault
                ⟨false, .unbacked, BitVec.ofNat 32 w.address, if w.isWrite then .write else .read, w.position,
                  a.view.pass, none⟩ s with
              upstream := some (if w.isWrite then Access.wroteWord { a with faulted := true } []
                else Access.readWord { a with faulted := true } 0) } t)

/-- An INTAKE write that PD drops (R12): outside SURVEYING and CAPTURING it raises INTAKE_IDLE, once for an access; at or
above the declared rows it counts ROW_OVERRUN, once for an access; else at or above the declared width it is padding and
has no effect at all. That the count is made at the first such word of the access is the model's choice (DESIGN CHOICE, log
14). -/
def Obligations.IntakeWriteDropped : Prop :=
  ∀ (s : State) (a : Access) (w : WordItem) (o : Nat), s.upstream = some a → s.wordInService = some w →
    w.isWrite = true → w.address = 0x20000000 + o → o < 0x10000000 →
    ∃ t, exec .intakeWrite s = .next t
      ∧ (a.view.pass ≠ .surveying → a.view.pass ≠ .capturing →
          (a.faulted = true → State.Settles { s with upstream := some (a.wroteWord []) } t)
          ∧ (a.faulted = false →
              State.Settles
                { State.raiseFault
                    ⟨false, .intakeIdle, BitVec.ofNat 32 w.address, .write, w.position, a.view.pass, none⟩ s with
                  upstream := some (Access.wroteWord { a with faulted := true } []) } t))
      ∧ ∀ pitch width rows,
          ((∃ r, a.view.pass = .surveying ∧ a.view.strip = some r ∧ pitch = r.surveyPitch ∧ width = r.surveyWidth
                ∧ rows = r.surveyRows)
            ∨ ∃ r, a.view.pass = .capturing ∧ a.view.strip = some r ∧ pitch = r.capturePitch ∧ width = r.captureWidth
                ∧ rows = r.captureRows) →
          (rows ≤ o / pitch → a.overCounted = true → State.Settles { s with upstream := some (a.wroteWord []) } t)
          ∧ (rows ≤ o / pitch → a.overCounted = false →
              State.Settles
                { State.count rowOverrun s with upstream := some (Access.wroteWord { a with overCounted := true } []) } t)
          ∧ (o / pitch < rows → width ≤ o % pitch / 8 → State.Settles { s with upstream := some (a.wroteWord []) } t)

/-- A survey word within the declared rows and width is stored at survey_base plus its offset, after the byte swap of
sample order BIG (R43, R49), late or not; every other byte of memory stays. -/
def Obligations.SurveyWordStored : Prop :=
  ∀ (s : State) (a : Access) (w : WordItem) (r : StripRecord) (o : Nat), s.upstream = some a →
    s.wordInService = some w → w.isWrite = true → w.address = 0x20000000 + o → o < 0x10000000 →
    a.view.pass = .surveying → a.view.strip = some r → 0 < r.surveyPitch → r.surveyPitch % 8 = 0 →
    o / r.surveyPitch < r.surveyRows → o % r.surveyPitch / 8 < r.surveyWidth →
    ∃ t, exec .intakeWrite s = .next t ∧ t.cu = s.cu ∧ t.lw = { s.lw with queue := t.lw.queue }
      ∧ s.mem.HoldsBeat t.mem (r.surveyBase + o)
          (match r.sampleOrder with | .little => w.beat | .big => w.beat.swapSamples)

/-- A survey word, by its place. Word 0 in an open row with nothing pending becomes the pending word (R44). A pixel settles with its
word 1, torn unless both words are full and a pair: the row's settled count rises by one, TORN_PIXEL is counted if torn, and an
untorn pixel in the film window adds its G and I samples to the sums (R45, R50). The pixel that fills the row completes it: its
profile entry is the two means, limited to 65535 (R48, R50), and after the last declared row the pass state becomes LOCATING and
the locate operation begins over the profile (R48, R66). A pending word 0 that the arriving word, 0 or 1, does not pair with settles
torn first, with no effect outside the open row; the arriving word then has the effect it has with nothing pending, so that a word 1
settles its own pixel torn too (R44; that this holds with the effects of R45 also where the arriving word is late is DEDUCED from
R47, log 13; that an arriving word 0 is pending also after that settling ends the pass is the model's choice, log 34). A late word settles nothing, and LATE_WRITE is counted once for the access (R47; at the first such word, log 14).
A word of a higher row, 0 or 1, completes the open row, makes an entry (0, 0) for each row skipped, counts ROW_SKIP if any was, and
makes its own row current; a word 1 then has the effect it has in its open row (R46, R50). -/
def Obligations.SurveyPixelSettles : Prop :=
  ∀ (s : State) (a : Access) (r : StripRecord) (row col k : Nat) (b : Beat), s.SurveyWord a r row col k b →
    s.iu.pass = .surveying → s.iu.strip = some r →
    ∃ t, exec .intakeWrite s = .next t
      -- word 0 of the open row
      ∧ (k = 0 → s.iu.pairing = none → s.iu.tracker.current = some row → s.iu.tracker.complete = false →
          State.Settles { s with mem := t.mem, upstream := some (a.wroteWord []),
                                 iu := { s.iu with pairing := some ⟨row, col, b.isFull, b.data⟩ } } t)
      -- the settling of a pixel by its word 1
      ∧ (∀ (torn : Bool) (g i : Nat) (e : ProfileEntry) (after : RowTracker), k = 1 →
          s.iu.tracker.current = some row → s.iu.tracker.complete = false →
          (∀ p, s.iu.pairing = some p → p.row = row ∧ p.col = col) →
          (torn = false ↔ b.isFull = true ∧ ∃ q, s.iu.pairing = some ⟨row, col, true, q⟩) →
          (∀ q, s.iu.pairing = some ⟨row, col, true, q⟩ →
            g = if torn = false ∧ r.filmHas col = true then q.toNat / 65536 else 0) →
          (torn = true → g = 0) → i = (if torn = false ∧ r.filmHas col = true then b.data.toNat / 65536 else 0) →
          e = ⟨r.surveyMean (s.iu.tracker.gSum + g), r.surveyMean (s.iu.tracker.iSum + i)⟩ →
          after = ⟨some row, s.iu.tracker.settled + 1, decide (s.iu.tracker.settled + 1 = r.surveyWidth), s.iu.tracker.begun,
            s.iu.tracker.gSum + g, s.iu.tracker.iSum + i⟩ →
          t.ru = (if torn then s.count tornPixel else s).ru
          ∧ (s.iu.tracker.settled + 1 ≠ r.surveyWidth →
              State.Settles { s with mem := t.mem, ru := t.ru, upstream := some (a.wroteWord []),
                                     iu := { s.iu with pairing := none, tracker := after } } t)
          ∧ (s.iu.tracker.settled + 1 = r.surveyWidth → row + 1 ≠ r.surveyRows →
              State.Settles { s with mem := t.mem, ru := t.ru, upstream := some (a.wroteWord []),
                                     iu := { s.iu with pairing := none, tracker := after },
                                     fl := { s.fl with profile := s.fl.profile ++ [e] } } t)
          ∧ (∀ p, s.iu.tracker.settled + 1 = r.surveyWidth → row + 1 = r.surveyRows → s.fl.params = some p →
              State.Settles
                { s with
                  mem := t.mem
                  ru := t.ru
                  upstream := some (a.wroteWord [])
                  iu := { s.iu with pass := .locating, pairing := none, tracker := after }
                  fl := { s.fl with
                    profile := s.fl.profile ++ [e]
                    locating := some ⟨s.fl.profile ++ [e], p, r, s.cu.effIrFloor⟩ } } t))
      -- a pending word 0 of the open row whose pixel another word 0 settles torn
      ∧ (∀ p, k = 0 → s.iu.tracker.current = some row → s.iu.tracker.complete = false → s.iu.pairing = some p →
          p.row = row → s.iu.tracker.settled + 1 ≠ r.surveyWidth →
          State.Settles
            { s with mem := t.mem, ru := (s.count tornPixel).ru, upstream := some (a.wroteWord []),
                     iu := { s.iu with pairing := some ⟨row, col, b.isFull, b.data⟩,
                                       tracker := { s.iu.tracker with settled := s.iu.tracker.settled + 1 } } } t)
      -- a pending word 0 that the arriving word does not pair with settles torn first
      ∧ (∀ (q : PendingWord) (u v : State) (e : ProfileEntry), s.iu.pairing = some q →
          ¬(k = 1 ∧ q.row = row ∧ q.col = col) → s.SettledTorn q u →
          e = ⟨r.surveyMean s.iu.tracker.gSum, r.surveyMean s.iu.tracker.iSum⟩ →
          v = { u with iu := { u.iu with tracker := { u.iu.tracker with complete := true } },
                       fl := { s.fl with profile := s.fl.profile ++ [e] } } →
          (¬(s.iu.tracker.current = some q.row ∧ s.iu.tracker.complete = false)
              ∨ s.iu.tracker.settled + 1 ≠ r.surveyWidth → exec .intakeWrite s = exec .intakeWrite u)
          ∧ (s.iu.tracker.current = some q.row → s.iu.tracker.complete = false →
              s.iu.tracker.settled + 1 = r.surveyWidth → q.row + 1 ≠ r.surveyRows →
              exec .intakeWrite s = exec .intakeWrite v)
          ∧ ∀ p w, s.iu.tracker.current = some q.row → s.iu.tracker.complete = false →
              s.iu.tracker.settled + 1 = r.surveyWidth → q.row + 1 = r.surveyRows → s.fl.params = some p →
              w = { v with iu := { v.iu with pass := .locating },
                           fl := { v.fl with locating := some ⟨v.fl.profile, p, r, s.cu.effIrFloor⟩ } } →
              exec .intakeWrite s = exec .intakeWrite w)
      -- a move of the row tracker
      ∧ (∀ (made : List ProfileEntry) (skipped : Nat), k = 0 → s.iu.pairing = none →
          (s.iu.tracker.current = none → made = [] ∧ skipped = row) →
          (∀ c, s.iu.tracker.current = some c → c < row ∧ skipped = row - c - 1
            ∧ made = if s.iu.tracker.complete then []
                else [⟨r.surveyMean s.iu.tracker.gSum, r.surveyMean s.iu.tracker.iSum⟩]) →
          State.Settles
            { s with
              mem := t.mem
              ru := (if skipped = 0 then s else s.count rowSkip).ru
              upstream := some (a.wroteWord [])
              iu := { s.iu with pairing := some ⟨row, col, b.isFull, b.data⟩, tracker := ⟨some row, 0, false, false, 0, 0⟩,
                                halfA := t.iu.halfA, halfB := t.iu.halfB }
              fl := { s.fl with profile := s.fl.profile ++ made ++ List.replicate skipped ⟨0, 0⟩ }
              bt := { s.bt with classifying := t.bt.classifying } } t
          ∧ ((∀ v, (s.fl.slots.get v).state ≠ .active) →
              t.bt = s.bt ∧ t.iu.halfA = s.iu.halfA ∧ t.iu.halfB = s.iu.halfB))
      -- a move of the row tracker by a word 1
      ∧ (∀ (made : List ProfileEntry) (skipped : Nat), k = 1 → s.LeavesNone row col k →
          (s.iu.tracker.current = none → made = [] ∧ skipped = row) →
          (∀ c, s.iu.tracker.current = some c → c < row ∧ skipped = row - c - 1
            ∧ made = if s.iu.tracker.complete then []
                else [⟨r.surveyMean s.iu.tracker.gSum, r.surveyMean s.iu.tracker.iSum⟩]) →
          ∃ m : State,
            m = { s with
                  ru := (if skipped = 0 then s else s.count rowSkip).ru
                  iu := { s.iu with tracker := ⟨some row, 0, false, false, 0, 0⟩, halfA := m.iu.halfA,
                                    halfB := m.iu.halfB }
                  fl := { s.fl with profile := s.fl.profile ++ made ++ List.replicate skipped ⟨0, 0⟩ }
                  bt := { s.bt with classifying := m.bt.classifying } }
            ∧ ((∀ v, (s.fl.slots.get v).state ≠ .active) →
                m.bt = s.bt ∧ m.iu.halfA = s.iu.halfA ∧ m.iu.halfB = s.iu.halfB)
            ∧ exec .intakeWrite s = exec .intakeWrite m)
      -- a late word
      ∧ (∀ c, s.LeavesNone row col k → s.iu.tracker.current = some c →
          (row < c ∨ row = c ∧ s.iu.tracker.complete = true) →
          State.Settles
            { s with
              mem := t.mem
              ru := (if a.lateCounted then s else s.count lateWrite).ru
              upstream := some (Access.wroteWord { a with lateCounted := true } [])
              iu := { s.iu with pairing := if k = 0 then some ⟨row, col, b.isFull, b.data⟩ else none } } t)

/-- A word of a capture pixel, by its place. Word 0 in an open row with nothing pending becomes pending (R44). A margin word is
dropped. A routed word that is not late is stored at its band address, whether or not it moves the row, starts its slot or fills its
row; it raises Ymax when its frame row is new, which retires the spans of the rows that lose their band lines (R51, R52, R108,
R127). The first routed word of a row takes an EMPTY half if there is one (R55; which of two is log 9). The first routed word of a
PLANNED slot starts it: OPAQUE below the IR floor, and ACTIVE, or behind the start queue while a slot is ACTIVE (R52). A pixel
settles with its word 1, torn unless both words are full and a pair: it raises the settled count, counts TORN_PIXEL if torn and
sets the half's entry (R44, R45). The last pixel completes the row (R48): a ready row of the ACTIVE slot is classified if nothing
hinders (R92), and after the last declared row the pass drains: the frame end of an ACTIVE slot with none ready begins, or with
nothing left the pass state is PLANNED (R54; that it does so while a RESTART or CLOSE_STRIP waits for the port, and counts several
UNLISTED_BLEMISH as raises by one, is the model's choice, logs 31 and 32). A pending word 0 that the arriving
word does not pair with settles torn first, which may complete its row; the word then has the effect it has with nothing pending
(R44; with the effects of R45 also where the arriving word is late: DEDUCED from R47, log 13; a word 0 also after that ends the
pass: the model's choice, log 34). A late word is stored only where its row is resident, and
LATE_WRITE is counted once for the access (R47; at the first such word, log 14). A word of a higher row completes the current row
and makes its own row current, ROW_SKIP is counted when rows are skipped, and a row that became ready is classified (R46, R92); the
word then has the effect it has in its open row. -/
def Obligations.CaptureWordStored : Prop :=
  ∀ (s : State) (a : Access) (r : StripRecord) (row col k : Nat) (b : Beat), s.CaptureWord a r row col k b →
    ∃ t, exec .intakeWrite s = .next t
      -- word 0 in the margin of the open row
      ∧ (k = 0 → s.iu.pairing = none → s.iu.tracker.current = some row → s.iu.tracker.complete = false →
          routeOf s.fl.slots row col = none →
          State.Settles
            { s with upstream := some (a.wroteWord []),
                     iu := { s.iu with pairing := some ⟨row, col, b.isFull, b.data⟩ } } t)
      -- word 0 in an open row that has its first routed word
      ∧ (k = 0 → s.iu.pairing = none → s.iu.tracker.isOpen row true →
          ∀ v x, routeOf s.fl.slots row col = some v → s.fl.slots.get v = x → (x.state = .active ∨ v ∈ s.iu.startQueue) →
            s.mem.HoldsBeat t.mem
              (x.bandBase + (row - x.top) % x.bandLines * x.bandPitch + (col - x.left) * 8) b
            ∧ (∀ n, x.newest = some n → row - x.top ≤ n →
                State.Settles
                  { s with mem := t.mem, upstream := some (a.wroteWord []),
                           iu := { s.iu with pairing := some ⟨row, col, b.isFull, b.data⟩ } } t)
            ∧ ((∀ n, x.newest = some n → n < row - x.top) →
                State.Settles
                  { s with
                    mem := t.mem
                    upstream := some (Access.wroteWord { a with view := a.view.raiseNewest v (row - x.top) } [])
                    iu := { s.iu with pairing := some ⟨row, col, b.isFull, b.data⟩ }
                    fl := { s.fl with slots := s.fl.slots.set v.val { x with newest := some (row - x.top) } }
                    bt := { s.bt with
                      spans := s.bt.spans.filter fun sp =>
                        decide (sp.slot ≠ v) || decide (row - x.top < sp.row + x.bandLines) } } t))
      -- the first routed word of its row
      ∧ (k = 0 → s.iu.pairing = none → s.iu.tracker.isOpen row false →
          ∀ v x half, routeOf s.fl.slots row col = some v → s.fl.slots.get v = x → (x.state = .active ∨ v ∈ s.iu.startQueue) →
            half = IrHalf.mk .filling row v (List.replicate (x.right - x.left + 1) x.clearLevel) 0 →
            s.mem.HoldsBeat t.mem
              (x.bandBase + (row - x.top) % x.bandLines * x.bandPitch + (col - x.left) * 8) b
            ∧ t.fl = { s.fl with slots := s.fl.slots.set v.val { x with newest := newestAfter x.newest (row - x.top) } }
            ∧ t.iu =
                { s.iu with
                  pairing := some ⟨row, col, b.isFull, b.data⟩
                  tracker := { s.iu.tracker with begun := true }
                  halfA := if s.iu.halfA.state = .empty then half else s.iu.halfA
                  halfB := if s.iu.halfA.state ≠ .empty ∧ s.iu.halfB.state = .empty then half else s.iu.halfB })
      ∧ (k = 1 → s.iu.pairing = none → s.Captures r → s.iu.tracker.isOpen row false →
          s.iu.tracker.settled + 1 ≠ r.captureWidth →
          ∀ v x, routeOf s.fl.slots row col = some v → s.fl.slots.get v = x → (x.state = .active ∨ v ∈ s.iu.startQueue) →
            t.ru = (s.count tornPixel).ru
            ∧ t.iu = { s.iu with halfA := t.iu.halfA, halfB := t.iu.halfB,
                                 tracker := { s.iu.tracker with begun := true, settled := s.iu.tracker.settled + 1 } }
            ∧ ∃ w, s.iu.RowBegun w s.fl.slots row col
                ∧ w.HalfChanged t.iu row fun h => h.afterPixel (col - x.left) x.clearLevel 0 true)
      -- a routed word of the open row, the one that starts its slot among them
      ∧ ((k = 0 ∨ s.iu.tracker.settled + 1 ≠ r.captureWidth) → s.iu.pairing = none → s.Captures r →
          s.iu.tracker.current = some row → s.iu.tracker.complete = false →
          ∀ v x, routeOf s.fl.slots row col = some v → s.fl.slots.get v = x →
            s.StoredInto t v x row col k b
            ∧ (k = 0 → s.iu.tracker.begun = false → s.iu.TakesHalf t.iu (IrHalf.freshFor row v x)))
      -- the settling of a pixel by its word 1
      ∧ (∀ torn begun : Bool, k = 1 → s.Captures r → s.iu.tracker.isOpen row begun →
          (begun = false → routeOf s.fl.slots row col = none) →
          (∀ p, s.iu.pairing = some p → p.row = row ∧ p.col = col) →
          (torn = false ↔ b.isFull = true ∧ ∃ q, s.iu.pairing = some ⟨row, col, true, q⟩) →
          (∀ v, routeOf s.fl.slots row col = some v → (s.fl.slots.get v).state = .active ∨ v ∈ s.iu.startQueue) →
          (s.iu.tracker.settled + 1 ≠ r.captureWidth →
            t.ru = (if torn then s.count tornPixel else s).ru
            ∧ t.iu = { s.iu with pairing := none, halfA := t.iu.halfA, halfB := t.iu.halfB,
                                 tracker := { s.iu.tracker with settled := s.iu.tracker.settled + 1 } }
            ∧ (routeOf s.fl.slots row col = none → t.iu.halfA = s.iu.halfA ∧ t.iu.halfB = s.iu.halfB ∧ t.mem = s.mem)
            ∧ ∀ v x, routeOf s.fl.slots row col = some v → s.fl.slots.get v = x →
              s.mem.HoldsBeat t.mem
                (x.bandBase + (row - x.top) % x.bandLines * x.bandPitch + (col - x.left) * 8 + 4) b
              ∧ s.iu.HalfChanged t.iu row fun h => h.afterPixel (col - x.left) x.clearLevel (b.data.toNat / 65536) torn))
      -- the pixel that fills its row
      ∧ (∀ torn : Bool, k = 1 → s.Captures r → s.iu.tracker.current = some row → s.iu.tracker.complete = false →
          s.LeavesNone row col k → s.SettlesTorn row col b torn → s.iu.tracker.settled + 1 = r.captureWidth →
          ∃ m n, s.PixelStored a row col b torn m ∧ m.RowCompleted n row r.captureRows ∧ State.Settles n t)
      -- a pending word 0 of the open row whose pixel another word 0 settles torn
      ∧ (∀ p, k = 0 → s.Captures r → s.iu.tracker.isOpen row true → s.iu.pairing = some p → p.row = row →
          s.iu.tracker.settled + 1 ≠ r.captureWidth → routeOf s.fl.slots row col = none →
          t.ru = (s.count tornPixel).ru ∧ t.mem = s.mem
          ∧ t.iu = { s.iu with pairing := some ⟨row, col, b.isFull, b.data⟩, halfA := t.iu.halfA, halfB := t.iu.halfB,
                               tracker := { s.iu.tracker with settled := s.iu.tracker.settled + 1 } }
          ∧ (routeOf s.fl.slots row p.col = none → t.iu.halfA = s.iu.halfA ∧ t.iu.halfB = s.iu.halfB)
          ∧ ∀ v x, routeOf s.fl.slots row p.col = some v → s.fl.slots.get v = x →
              s.iu.HalfChanged t.iu row fun h => h.afterPixel (p.col - x.left) x.clearLevel 0 true)
      -- a pending word 0 that the arriving word does not pair with settles torn first
      ∧ (∀ (q : PendingWord) (u : State), s.iu.pairing = some q → ¬(k = 1 ∧ q.row = row ∧ q.col = col) → s.Captures r →
          s.SettledTorn q u →
          (¬(s.iu.tracker.current = some q.row ∧ s.iu.tracker.complete = false)
              ∨ s.iu.tracker.settled + 1 ≠ r.captureWidth → exec .intakeWrite s = exec .intakeWrite u)
          ∧ (s.iu.tracker.current = some q.row → s.iu.tracker.complete = false →
              s.iu.tracker.settled + 1 = r.captureWidth →
              ∃ n, u.RowCompleted n q.row r.captureRows ∧ exec .intakeWrite s = exec .intakeWrite n))
      -- a late word
      ∧ (∀ c, s.LeavesNone row col k → s.iu.tracker.current = some c →
          (row < c ∨ row = c ∧ s.iu.tracker.complete = true) →
          State.Settles
            { s with
              mem := t.mem
              ru := (if a.lateCounted then s else s.count lateWrite).ru
              upstream := some (Access.wroteWord { a with lateCounted := true } [])
              iu := { s.iu with pairing := if k = 0 then some ⟨row, col, b.isFull, b.data⟩ else none } } t
          ∧ (routeOf s.fl.slots row col = none → t.mem = s.mem)
          ∧ ∀ v x, routeOf s.fl.slots row col = some v → s.fl.slots.get v = x →
            ((∃ n, x.newest = some n ∧ row - x.top ≤ n ∧ n < row - x.top + x.bandLines) →
              s.mem.HoldsBeat t.mem
                (x.bandBase + (row - x.top) % x.bandLines * x.bandPitch + (col - x.left) * 8 + k * 4) b)
            ∧ ((∀ n, x.newest = some n → n < row - x.top ∨ row - x.top + x.bandLines ≤ n) → t.mem = s.mem))
      -- a move of the row tracker, after which the word has the effect it has in its open row
      ∧ (s.LeavesNone row col k → s.Captures r → (∀ c, s.iu.tracker.current = some c → c < row) →
          ∃ m, s.RowMoved m row ∧ exec .intakeWrite s = exec .intakeWrite m)
      -- a move of the row tracker by a word 0, taken together
      ∧ (k = 0 → s.iu.pairing = none → s.Captures r → (∀ c, s.iu.tracker.current = some c → c < row) →
          t.iu.tracker = ⟨some row, 0, false, (routeOf s.fl.slots row col).isSome, 0, 0⟩
          ∧ t.iu.pairing = some ⟨row, col, b.isFull, b.data⟩
          ∧ ((s.iu.tracker.current = none ∧ 0 < row ∨ ∃ c, s.iu.tracker.current = some c ∧ c + 1 < row) →
              t.ru = (s.count rowSkip).ru)
          ∧ ((s.iu.tracker.current = none ∧ row = 0 ∨ ∃ c, s.iu.tracker.current = some c ∧ c + 1 = row) → t.ru = s.ru)
          ∧ (routeOf s.fl.slots row col = none → t.mem = s.mem ∧ t.fl = s.fl ∧ t.iu.startQueue = s.iu.startQueue)
          ∧ (∀ v x, routeOf s.fl.slots row col = some v → s.fl.slots.get v = x →
              s.StoredInto t v x row col 0 b ∧ s.iu.TakesHalf t.iu (IrHalf.freshFor row v x))
          ∧ ∀ w, s.RowClosed w →
              -- nothing begins to be classified
              ((¬s.TrackerFree ∨ ¬s.NothingPending
                  ∨ ∀ v x, (activeSlot s.fl.slots = some v
                        ∨ activeSlot s.fl.slots = none ∧ routeOf s.fl.slots row col = some v) →
                      s.fl.slots.get v = x → x.bottom - x.top + 1 ≤ x.classified ∨ row ≤ x.top + x.classified) →
                w.RowBegun t.iu s.fl.slots row col ∧ t.bt.classifying = s.bt.classifying
                  ∧ t.bt.frameEnd = s.bt.frameEnd)
              -- the next row of the ACTIVE slot has become ready
              ∧ ∀ v x, s.TrackerFree → s.NothingPending → activeSlot s.fl.slots = some v → s.fl.slots.get v = x →
                  x.classified < x.bottom - x.top + 1 → x.top + x.classified < row →
                  ∃ c w', s.ClassifiesNext w w' v x c ∧ t.bt.classifying = some c
                    ∧ w'.RowBegun t.iu s.fl.slots row col)

/-- An INTAKE read (R13): in SURVEYING the survey word of a place within the declared rows and width, in CAPTURING the band
word of a routed place whose row is resident, and zero everywhere else. Nothing but the access changes. -/
def Obligations.IntakeRead : Prop :=
  ∀ (s : State) (a : Access) (w : WordItem) (o : Nat), s.upstream = some a → s.wordInService = some w →
    w.isWrite = false → w.address = 0x20000000 + o → o < 0x10000000 →
    ∃ t value, exec .intakeRead s = .next t ∧ State.Settles { s with upstream := some (a.readWord value) } t
      ∧ (a.view.pass ≠ .surveying → a.view.pass ≠ .capturing → value = 0)
      ∧ (∀ r, a.view.pass = .surveying → a.view.strip = some r →
          value = if o / r.surveyPitch < r.surveyRows ∧ o % r.surveyPitch / 8 < r.surveyWidth then
              s.mem.readWord (r.surveyBase + o / r.surveyPitch * r.surveyPitch + o % r.surveyPitch / 8 * 8 + o % 8 / 4 * 4)
            else 0)
      ∧ (∀ r, a.view.pass = .capturing → a.view.strip = some r →
          ((r.captureRows ≤ o / r.capturePitch ∨ r.captureWidth ≤ o % r.capturePitch / 8
              ∨ routeOf s.fl.slots (o / r.capturePitch) (o % r.capturePitch / 8) = none) → value = 0)
          ∧ ∀ v x, o / r.capturePitch < r.captureRows → o % r.capturePitch / 8 < r.captureWidth →
              routeOf s.fl.slots (o / r.capturePitch) (o % r.capturePitch / 8) = some v → s.fl.slots.get v = x →
              value = if x.isResident (o / r.capturePitch - x.top) then
                  s.mem.readWord (x.bandBase + (o / r.capturePitch - x.top) % x.bandLines * x.bandPitch
                    + (o % r.capturePitch / 8 - x.left) * 8 + o % 8 / 4 * 4)
                else 0)

/-- A VIEW read at window v (R14): a VACANT slot answers zero and raises VIEW_VACANT once for the access; beyond the band
lines or the width it answers zero; else it answers the word of the pixel's computation, made once for both words within
the access, with the event it counts (R126, R147). Memory does not
change. A VIEW write is dropped whatever the slot's state: nothing but the count of words served changes (R14). -/
def Obligations.ViewWords : Prop :=
  (∀ (s : State) (a : Access) (w : WordItem) (v : SlotId) (o line col : Nat) (x : Slot), s.upstream = some a →
      s.wordInService = some w → w.isWrite = false → w.address = 0x30000000 + v.val * 0x02000000 + o → o < 0x02000000 →
      x = a.view.slots.get v → line = o / x.bandPitch → col = o % x.bandPitch / 8 →
      ∃ t, exec .viewRead s = .next t ∧ t.mem = s.mem
        ∧ (x.state = .vacant → a.faulted = true → State.Settles { s with upstream := some (a.readWord 0) } t)
        ∧ (x.state = .vacant → a.faulted = false →
            State.Settles
              { State.raiseFault
                  ⟨false, .viewVacant, BitVec.ofNat 32 w.address, .read, w.position, a.view.pass, some v⟩ s with
                upstream := some (Access.readWord { a with faulted := true } 0) } t)
        ∧ (x.state ≠ .vacant → (x.bandLines ≤ line ∨ x.width ≤ col) →
            State.Settles { s with upstream := some (a.readWord 0) } t)
        ∧ (x.state ≠ .vacant → line < x.bandLines → col < x.width →
            (∀ k, a.computation = some k → k.slot = v → k.line = line → k.column = col →
              State.Settles { s with upstream := some (a.readWord (k.pixel.word (o % 8 / 4))) } t)
            ∧ ((∀ k, a.computation = some k → ¬(k.slot = v ∧ k.line = line ∧ k.column = col)) →
              State.Settles
                { (match (mend s.mem a.view v line col).event with | some c => s.count c | none => s) with
                  upstream := some (Access.readWord
                    { a with computation := some ⟨v, line, col, (mend s.mem a.view v line col).pixel⟩ }
                    ((mend s.mem a.view v line col).pixel.word (o % 8 / 4))) } t)))
  ∧ ∀ (s : State) (a : Access) (w : WordItem), s.upstream = some a → s.wordInService = some w → w.isWrite = true →
    0x30000000 ≤ w.address →
    ∃ t, exec .viewWrite s = .next t ∧ State.Settles { s with upstream := some (a.wroteWord []) } t

/-! ## The mended view -/

/-- The computation of a pixel (R129). With no resident row in its band line, or a row not yet classified, it is returned
raw and counted in EARLY_READ (R130). In a wide span it is returned raw and counted in UNMENDED_READ (R133). In another span
it takes its result from the anchors next to the span in its band line: interpolated between two, copied from one, raw and
counted without any (R134 to R136). A listed column outside spans is returned raw and counted when its group is longer than 4,
and takes its result from the anchors of the group in the same way when it is not (R137 to R139). Outside spans and listed columns it is returned raw in an OFF or OPAQUE frame (R141);
in the others by its transmission: dense raw and counted, faint corrected in a FULL frame, else raw (R142 to R146). -/
def Obligations.MendedPixel : Prop :=
  ∀ (m : Memory) (w : AccessView) (v : SlotId) (line col : Nat) (x : Slot), x = w.slots.get v →
    ((x.newest = none ∨ (∃ n, x.newest = some n ∧ n < line)
        ∨ ∃ n, x.newest = some n ∧ line ≤ n ∧ x.classified ≤ n - (n - line) % x.bandLines) →
      mend m w v line col = ⟨rawPixel m x line col, some earlyRead⟩)
    ∧ ∀ (n y : Nat), x.newest = some n → line ≤ n → y = n - (n - line) % x.bandLines → y < x.classified →
        (∀ sp, spanAt w.spans v y col = some sp → sp.wide = true →
          mend m w v line col = ⟨rawPixel m x line col, some unmendedRead⟩)
        ∧ (∀ sp, spanAt w.spans v y col = some sp → sp.wide = false →
            RepairsBetween m x line col sp.start sp.stop (mend m w v line col))
        ∧ (spanAt w.spans v y col = none → ∀ lo hi, ColumnGroup x w.columns col lo hi →
            (4 < hi - lo + 1 → mend m w v line col = ⟨rawPixel m x line col, some unmendedRead⟩)
            ∧ (hi - lo + 1 ≤ 4 → RepairsBetween m x line col lo hi (mend m w v line col)))
        ∧ (spanAt w.spans v y col = none → x.left + col ∉ w.columns →
          ((x.cleanup = .off ∨ x.cleanup = .opaqueFilm) → mend m w v line col = ⟨rawPixel m x line col, none⟩)
          ∧ ∀ (ir t : Nat) (raw : Pixel), ir = (rawPixel m x line (min ((col : Int) + x.dx).toNat (x.width - 1))).i →
              t = min 256 (ir * 256 / x.clearLevel) → raw = rawPixel m x line col →
              (x.cleanup = .full ∨ x.cleanup = .denseOnly) →
              (t < w.tDense → mend m w v line col = ⟨raw, some unmendedRead⟩)
              ∧ (w.tDense ≤ t → w.tFaint ≤ t → mend m w v line col = ⟨raw, none⟩)
              ∧ (w.tDense ≤ t → t < w.tFaint → x.cleanup = .denseOnly → mend m w v line col = ⟨raw, none⟩)
              ∧ (w.tDense ≤ t → t < w.tFaint → x.cleanup = .full →
                  mend m w v line col =
                    ⟨⟨min 65535 ((raw.r * x.clearLevel + ir / 2) / ir), min 65535 ((raw.g * x.clearLevel + ir / 2) / ir),
                      min 65535 ((raw.b * x.clearLevel + ir / 2) / ir), x.clearLevel⟩, none⟩))

/-- An interpolated sample never leaves the range of its two anchors (R136), and a faint pixel's corrected sample is never
below the raw one nor above 65535 (R144). -/
def Obligations.RepairStaysInRange : Prop :=
  (∀ n k a b : Nat, 1 ≤ k → k ≤ n → min a b ≤ interpolate n k a b ∧ interpolate n k a b ≤ max a b)
    ∧ ∀ c ir v : Nat, 1 ≤ ir → ir ≤ c → v ≤ 65535 → v ≤ correctSample c ir v ∧ correctSample c ir v ≤ 65535

/-! ## The arbiter -/

/-- The List Writer's request level by writer state, queue count and thresholds (R163). -/
def Obligations.ListWriterLevel : Prop :=
  ∀ s : State,
    ((s.lw.state = .unchained ∨ s.lw.state = .stalled) → s.listLevel = .none)
      ∧ (s.lw.state = .loading →
          s.listLevel = if s.cu.standing.urgent ≤ s.lw.queue.length then .urgent else .normal)
      ∧ (s.lw.state = .filling →
          (s.cu.standing.urgent ≤ s.lw.queue.length → s.listLevel = .urgent)
          ∧ (s.lw.queue.length < s.cu.standing.urgent →
              (s.cu.standing.burst ≤ s.lw.queue.length ∨ ∃ v, QueueEntry.marker v ∈ s.lw.queue) →
              s.listLevel = .normal)
          ∧ (s.lw.queue.length < s.cu.standing.urgent → s.lw.queue.length < s.cu.standing.burst →
              (∀ v, QueueEntry.marker v ∉ s.lw.queue) → s.listLevel = .none))

/-- With the port free the standing request of highest rank is granted (R191, R192), and no two standing requests share a rank.
With none standing the command leaves the state as it is, which is the model's choice (DESIGN CHOICE, log 1). -/
def Obligations.GrantFollowsRank : Prop :=
  ∀ s : State, s.mc.phase = .running → s.mc.port = none →
    (∀ r r' k, s.rankOf r = some k → s.rankOf r' = some k → r = r')
      ∧ ((∀ r, s.rankOf r = none) → exec .grantDecision s = .next s)
      ∧ ∀ r k, s.rankOf r = some k → (∀ r' k', s.rankOf r' = some k' → k ≤ k') →
          ∃ t, exec .grantDecision s = .next t
            ∧ (r = .upstream → t.mc.port = some .upstream)
            ∧ (r = .reportWriter → t.mc.port = some (.report s.fl.pendingEntries s.canWriteReport))
            ∧ (r = .listWriter → ∀ op, s.lw.chooseOp = some op → t.mc.port = some (.list op))
            ∧ (r = .refresh → t.mc.port = some .refresh)

/-- A grant to the upstream access puts it into service under the state as it stands (R4, R127). A writer that stands at the
normal level unpromoted is passed over: its count rises by one, and at 32 it is promoted and WRITER_PROMOTE counted; every
other count stays while its writer's request stands, and is 0 once it does not (R193, State.Settles). A grant to a writer or to refresh fixes its operation: for the report writer the pending plan
entries and whether a report is written (R77, R171; that the entries leave FL at the grant decision, and not each as it is
written, is DEDUCED, log 20); for the List Writer the one operation its
state and queue call for (R156, R157, R164); the writer's pass-over count and promotion end (R193). -/
def Obligations.GrantsMade : Prop :=
  (∀ (s : State) (a : Access) (overR overL newR newL : Bool), s.mc.phase = .running → s.mc.port = none →
      s.upstream = some a → s.winner = some .upstream →
      (overR = true ↔ s.reportLevel = .normal ∧ s.mc.promoReport = false) →
      (overL = true ↔ s.listLevel = .normal ∧ s.mc.promoList = false) →
      (newR = true ↔ overR = true ∧ 32 ≤ s.mc.passedReport + 1) → (newL = true ↔ overL = true ∧ 32 ≤ s.mc.passedList + 1) →
      ∃ t, exec .grantDecision s = .next t
        ∧ ∀ served : State,
            served = { s with
              upstream := some { a with phase := .serving, view := s.viewNow }
              mc := { s.mc with
                port := some .upstream
                passedReport := s.mc.passedReport + bit overR
                promoReport := s.mc.promoReport || newR
                passedList := s.mc.passedList + bit overL
                promoList := s.mc.promoList || newL } } →
            (newR = false → newL = false → State.Settles served t)
            ∧ ((newR = true ∨ newL = true) → State.Settles (served.countBy writerPromote (bit newR + bit newL)) t))
  ∧ ∀ s : State, s.mc.phase = .running → s.mc.port = none →
      (s.winner = some .reportWriter → ∃ t, exec .grantDecision s = .next t
        ∧ State.Settles
            { s with
              mc := { s.mc with port := some (.report s.fl.pendingEntries s.canWriteReport), passedReport := 0,
                                promoReport := false }
              fl := { s.fl with planPending := Vector.replicate 8 none } } t)
      ∧ (∀ op, s.winner = some .listWriter →
          (s.lw.state = .loading ∧ op = (if s.lw.rejectPending then .rejectedClose else .load)
            ∨ (∃ r q d, s.lw.state = .filling ∧ s.lw.queue = .record r :: q ∧ s.lw.copy = some d
                ∧ op = if s.lw.filled + (if r.wide then 64 else 32) ≤ d.capacity then .recordWrite r else .closeFull)
            ∨ ∃ v q, s.lw.state = .filling ∧ s.lw.queue = .marker v :: q ∧ op = .closeFrameEnd v) →
          ∃ t, exec .grantDecision s = .next t
            ∧ State.Settles { s with mc := { s.mc with port := some (.list op), passedList := 0, promoList := false } } t)
      ∧ (s.winner = some .refresh → ∃ t, exec .grantDecision s = .next t
          ∧ State.Settles { s with mc := { s.mc with port := some .refresh } } t)

/-! ## The writers' operations -/

/-- A load takes the copies of next, buffer address and capacity from the current descriptor (R156): with valid buffer
fields the writer goes to FILLING with nothing filled, else its REJECTED close becomes pending, and the filled count and
serials stay as they stand (DEDUCED, log 33). -/
def Obligations.DescriptorLoad : Prop :=
  ∀ (s : State) (a : Nat) (d : DescriptorCopy), s.mc.port = some (.list .load) → s.NothingPending →
    s.lw.current = some a → d = ⟨s.mem.read32 a, s.mem.read32 (a + 4), s.mem.read32 (a + 8)⟩ →
    ∃ t, exec .descriptorLoad s = .next t
      ∧ (d.buffer % 32 = 0 ∧ d.capacity % 32 = 0 ∧ 64 ≤ d.capacity ∧ d.buffer + d.capacity ≤ s.mc.size →
          State.Settles
            { s with
              mc := { s.mc with port := none }
              lw := { s.lw with state := .filling, copy := some d, filled := 0, firstSerial := none,
                                lastSerial := none } } t)
      ∧ (¬(d.buffer % 32 = 0 ∧ d.capacity % 32 = 0 ∧ 64 ≤ d.capacity ∧ d.buffer + d.capacity ≤ s.mc.size) →
          State.Settles
            { s with
              mc := { s.mc with port := none }
              lw := { s.lw with copy := some d, rejectPending := true } } t)

/-- A record is written at buffer address + filled, 32 or 64 bytes; filled rises by its length, its serial becomes the last
serial, and the first if none was written; the record leaves the queue (R157). -/
def Obligations.RecordWrite : Prop :=
  ∀ (s : State) (r : BlemishRecord) (q : List QueueEntry) (d : DescriptorCopy),
    s.mc.port = some (.list (.recordWrite r)) → s.NothingPending → s.lw.queue = .record r :: q → s.lw.copy = some d →
    ∃ t, exec .recordWrite s = .next t ∧ r.bytes.length = (if r.wide then 64 else 32)
      ∧ s.mem.Holds t.mem (d.buffer + s.lw.filled) r.bytes
      ∧ State.Settles
          { s with
            mem := t.mem
            mc := { s.mc with port := none }
            lw := { s.lw with
              queue := q
              filled := s.lw.filled + (if r.wide then 64 else 32)
              firstSerial := some (s.lw.firstSerial.getD r.serial)
              lastSerial := some r.serial } } t

/-- A FULL or FRAME_END close writes bytes 0x0C to 0x1B of the current descriptor and nothing else (R158, R217); the record
that did not fit stays queued, the marker leaves (R157). The writer then follows next: to LOADING on a usable address,
else to STALLED with LIST_STALL staged (R159). The copies, filled count and serials then stay as they stand (R154; before the
next load that is DEDUCED, log 33). -/
def Obligations.DescriptorClose : Prop :=
  ∀ (s : State) (op : ListOp) (a next : Nat) (d : DescriptorCopy) (status slot : Byte) (q : List QueueEntry),
    s.mc.port = some (.list op) → s.NothingPending → s.lw.current = some a → s.lw.copy = some d → next = d.next →
    (op = .closeFull ∧ status = 1 ∧ slot = 0xFF ∧ q = s.lw.queue
      ∨ ∃ v : SlotId, op = .closeFrameEnd v ∧ status = 2 ∧ slot = BitVec.ofNat 8 v.val ∧ q = s.lw.queue.tail) →
    ∃ t, exec .descriptorClose s = .next t
      ∧ s.mem.Holds t.mem (a + 0x0C) (le32 s.lw.filled ++ [status, slot, 0, 0] ++ le32 (s.lw.firstSerial.getD 0)
          ++ le32 (s.lw.lastSerial.getD 0))
      ∧ (next ≠ 0 → next % 32 = 0 → next < s.mc.size →
          State.Settles { s with mem := t.mem, mc := { s.mc with port := none },
                                 lw := { s.lw with queue := q, state := .loading, current := some next,
                                                   rejectPending := false } } t)
      ∧ ((next = 0 ∨ next % 32 ≠ 0 ∨ s.mc.size ≤ next) →
          State.Settles
            (State.stage (.listStall a next)
              { s with mem := t.mem, mc := { s.mc with port := none },
                       lw := { s.lw with queue := q, state := .stalled, rejectPending := false } }) t)

/-- A REJECTED close writes filled 0, status REJECTED, no slot and both serials 0 (R156, R158). The writer then follows
next, but stalls on a descriptor that links to itself. The copies, filled count and serials then stay as they stand (R154; before
the next load that is DEDUCED, log 33). -/
def Obligations.RejectedClose : Prop :=
  ∀ (s : State) (a next : Nat) (d : DescriptorCopy), s.mc.port = some (.list .rejectedClose) → s.NothingPending →
    s.lw.current = some a → s.lw.copy = some d → next = d.next →
    ∃ t, exec .rejectedClose s = .next t
      ∧ s.mem.Holds t.mem (a + 0x0C) ([0, 0, 0, 0, 4, 0xFF, 0, 0] ++ List.replicate 8 0)
      ∧ (next ≠ 0 → next % 32 = 0 → next < s.mc.size → next ≠ a →
          State.Settles { s with mem := t.mem, mc := { s.mc with port := none },
                                 lw := { s.lw with state := .loading, current := some next, rejectPending := false } } t)
      ∧ ((next = 0 ∨ next % 32 ≠ 0 ∨ s.mc.size ≤ next ∨ next = a) →
          State.Settles
            (State.stage (.listStall a next)
              { s with mem := t.mem, mc := { s.mc with port := none },
                       lw := { s.lw with state := .stalled, rejectPending := false } }) t)

/-- The plan entries of a grant each fill their own 32 bytes of the plan area, and no other byte changes (R77). -/
def Obligations.PlanEntriesWritten : Prop :=
  ∀ (size base : Nat) (entries : List (SlotId × PlanEntry)) (m : Memory), base + 4096 = size →
    (entries.map Prod.fst).Nodup →
    (∀ v e, (v, e) ∈ entries → e.bytes.length = 32 ∧ ∀ k < 32,
        (writePlanEntries size entries m).read (base + 0x200 + 32 * v.val + k) = e.bytes.getD k 0)
      ∧ ∀ x, (∀ v e, (v, e) ∈ entries → x < base + 0x200 + 32 * v.val ∨ base + 0x200 + 32 * v.val + 32 ≤ x) →
          (writePlanEntries size entries m).read x = m.read x

/-- A report writer grant writes its plan entries; then, when it carries a report and the ring has room, the oldest staged
report into slot produced mod slot count with the LOST mark, which it clears; then the status block with the new produced
count (R171 to R173). The write starts the coalescing timer when the backlog was 0, and asserts ATTN_N at N reports or by
kind (R175, R176). Without a report only the plan entries are written. What byte 0x01 holds in a COUNTERS report of cause
PUBLISH is the model's (DEDUCED, log 35). -/
def Obligations.ReportWriterGrant : Prop :=
  ∀ (s : State) (entries : List (SlotId × PlanEntry)) (carries : Bool) (base : Nat),
    s.mc.port = some (.report entries carries) → s.NothingPending → base + 4096 = s.mc.size →
    ∃ t, exec .reportWriterGrant s = .next t
      ∧ (carries = false → s.ru.ringFull s.cu.standing.slotCount = false →
          State.Settles { s with mc := { s.mc with port := none }, mem := writePlanEntries s.mc.size entries s.mem } t)
      ∧ ∀ (x : Report) (rest : List Report) (backlog : Nat), carries = true → s.ru.staging = x :: rest →
          s.cu.standing.slotCount ≠ 0 → s.ru.unread < s.cu.standing.slotCount →
          backlog = (s.ru.produced + 1 - match s.cu.standing.attentionMode with
            | .take => s.ru.taken | .read => s.ru.ackThrough).toNat →
          (∃ m, (writePlanEntries s.mc.size entries s.mem).Holds m
                (s.cu.standing.ringBase + 32 * (s.ru.produced.toNat % s.cu.standing.slotCount)) (x.bytes s.ru.lost)
              ∧ m.Holds t.mem (base + 0x180)
                  (le32 (s.ru.produced + 1).toNat
                    ++ [byteOf s.iu.pass.code, byteOf s.lw.state.code, byteOf (bit s.fault.locked), 0]
                    ++ le16 s.fl.generation.toNat ++ List.replicate 6 0))
          ∧ State.Settles
              (State.drainRing
                { s with
                  mem := t.mem
                  mc := { s.mc with port := none }
                  ru := { s.ru with
                    staging := rest
                    lost := false
                    produced := s.ru.produced + 1
                    newest := some (s.ru.produced.toNat % s.cu.standing.slotCount)
                    attention := s.ru.attention || decide (s.cu.standing.coalesceCount ≤ backlog)
                      || match x with | .listStall .. => true | .fault _ => true | _ => false
                    timer := if s.ru.backlog s.cu.standing.attentionMode = 0 then
                        (if s.cu.standing.coalesceTime = 0 then none else some 0)
                      else s.ru.timer } }) t

/-! ## Staging -/

/-- A report staged joins the tail of a queue that holds fewer than 8 when no full ring drops it; at 8 it is dropped:
REPORT_DROP is counted unless masked and LOST set (R170, R172). A ring that is full drops the oldest staged report at once
(R172). Neither touches the produced and taken counts or the attention line. -/
def Obligations.StagingAndDrops : Prop :=
  ∀ (s : State) (x : Report),
    (s.ru.staging.length < 8 → s.ru.ringFull s.cu.standing.slotCount = false →
        s.stage x = { s with ru := { s.ru with staging := s.ru.staging ++ [x] } })
      ∧ (s.ru.staging.length = 8 → s.ru.ringFull s.cu.standing.slotCount = false →
          s.cu.standing.countMask.getLsbD 9 = true → s.stage x = { s with ru := { s.ru with lost := true } })
      ∧ (s.ru.staging.length = 8 → s.ru.ringFull s.cu.standing.slotCount = false →
          s.cu.standing.countMask.getLsbD 9 = false → s.ru.counters.get 9 ≠ 49151 →
          s.stage x = { s with ru := { s.ru with lost := true,
                                                 counters := s.ru.counters.set 9 (s.ru.counters.get 9 + 1) } })
      ∧ (s.ru.staging = [] → s.ru.ringFull s.cu.standing.slotCount = true →
          s.cu.standing.countMask.getLsbD 9 = false → s.ru.counters.get 9 ≠ 49151 →
          s.stage x = { s with ru := { s.ru with lost := true,
                                                 counters := s.ru.counters.set 9 (s.ru.counters.get 9 + 1) } })
      ∧ (s.stage x).ru.produced = s.ru.produced ∧ (s.stage x).ru.taken = s.ru.taken
      ∧ (s.stage x).ru.attention = s.ru.attention ∧ (s.stage x).ru.timer = s.ru.timer

/-- A count of events raises an unmasked counter modulo 65,536 and nothing else away from the mark; a raise that takes it
from below 49,152 to 49,152 or above also stages a COUNTERS report naming it; a masked counter stays (R180, R181). -/
def Obligations.CountersCount : Prop :=
  ∀ (s : State) (c : CounterId) (n : Nat),
    (s.cu.standing.countMask.getLsbD c.val = true → s.countBy c n = s)
      ∧ (s.cu.standing.countMask.getLsbD c.val = false →
          ((s.ru.counters.get c).toNat + n < 49152 ∨ 49152 ≤ (s.ru.counters.get c).toNat) →
          s.countBy c n =
            { s with ru := { s.ru with
                counters := s.ru.counters.set c.val (s.ru.counters.get c + BitVec.ofNat 16 n) } })
      ∧ (s.cu.standing.countMask.getLsbD c.val = false → (s.ru.counters.get c).toNat < 49152 →
          49152 ≤ (s.ru.counters.get c).toNat + n →
          s.countBy c n =
            State.stage
              (.counters (some c) (s.ru.counters.set c.val (s.ru.counters.get c + BitVec.ofNat 16 n))
                s.cu.standing.countMask)
              { s with ru := { s.ru with
                  counters := s.ru.counters.set c.val (s.ru.counters.get c + BitVec.ofNat 16 n) } })

/-! ## Refresh, the timers and the pins -/

/-- At each expiry of the refresh timer it runs on from zero and a debt below 8 rises by one; at 8 REFRESH_OVERRUN is
counted (R187). A refresh operation retires one unit of debt (R188). The expiry of the coalescing timer stops it and
leaves ATTN_N asserted (R176). -/
def Obligations.TimerExpiries : Prop :=
  ∀ s : State,
    (∀ n, s.mc.refreshTimer = some n → ∃ t, exec .refreshTimerExpiry s = .next t
      ∧ (s.mc.debt < 8 →
          State.Settles { s with mc := { s.mc with refreshTimer := some 0, debt := s.mc.debt + 1 } } t)
      ∧ (8 ≤ s.mc.debt →
          State.Settles (State.count refreshOverrun { s with mc := { s.mc with refreshTimer := some 0 } }) t))
    ∧ (s.mc.port = some .refresh → s.NothingPending → ∃ t, exec .refreshOperation s = .next t
        ∧ State.Settles { s with mc := { s.mc with port := none, debt := s.mc.debt - 1 } } t)
    ∧ ∀ n, s.ru.timer = some n → ∃ t, exec .coalescingTimerExpiry s = .next t
        ∧ State.Settles { s with ru := { s.ru with attention := true, timer := none } } t

/-- The release of RESET_N samples the straps and gives every block its power-on values, the start-up running (R18, R20,
R28, R32, R61, R83, R100, R125, R166, R183 to R185, R198). Its assertion abandons all work: the access, the post, the
locate operation, the classification, the frame end, the pending RESTART and CLOSE_STRIP, and the operation holding the
port (R186). A release without an assertion before it does the same (DESIGN CHOICE, log 5); between the two the registers
keep their values (DEDUCED, log 27) and memory reads as unwritten (DESIGN CHOICE, log 2). -/
def Obligations.ResetPins : Prop :=
  (∀ (s : State) (size1 size0 : Bool), ∃ t, exec (.resetNRelease size1 size0) s = .next t
    ∧ t.fault = ⟨false, .unbacked, 0, .read, 0, .stripClosed, none⟩ ∧ t.upstream = none ∧ t.completion = none
    ∧ t.cu = ⟨[], ⟨0, 0, .take, 1, 0, 0, 128, 230, 32, 1, 4096, 4, 24⟩, ⟨none, none, none, none, none⟩, [], none⟩
    ∧ t.iu = ⟨.stripClosed, none, none, ⟨none, 0, false, false, 0, 0⟩, ⟨.empty, 0, 0, [], 0⟩, ⟨.empty, 0, 0, [], 0⟩, []⟩
    ∧ t.fl = ⟨Vector.replicate 8 Slot.vacantValues, 0, [], none, Vector.replicate 8 none, none⟩
    ∧ t.bt = ⟨[], [], [], 0, some 1, ⟨0, 0, 0, 0, 0, 0, 0, 0⟩, none, none, false, false⟩
    ∧ t.lw = ⟨[], .unchained, none, none, 0, none, none, false⟩
    ∧ t.ru = ⟨[], false, 0, 0, 0, none, false, none, Vector.replicate 14 0⟩
    ∧ t.mc = ⟨t.mc.size, .startup, none, 0, none, 0, 0, false, false⟩
    ∧ t.pending = s.pending)
  ∧ ∀ s : State, exec .resetNAssert s = .next
      { s with
        upstream := none
        cu := { s.cu with posted := none }
        fl := { s.fl with locating := none }
        bt := { s.bt with classifying := none, frameEnd := none, restartPending := false, closePending := false }
        ru := { s.ru with attention := false, timer := none }
        mc := { s.mc with phase := .inReset, refreshTimer := none, port := none }
        mem := [] }

/-- At the end of the start-up the refresh timer starts from zero and the part runs; an access held since the start-up is
decoded and asks for the port, or is served at once when all its words are UNBACKED, since no half of the IR row buffer is
taken then (R6, R185). -/
def Obligations.StartupEnds : Prop :=
  ∀ s : State, s.mc.phase = .startup → s.iu.halfA.state = .empty →
    ∃ t, exec .sdramStartupEnd s = .next t
      ∧ ∀ up : State, up = { s with mc := { s.mc with phase := .running, refreshTimer := some 0 } } →
          (s.upstream = none → State.Settles up t)
          ∧ ∀ a, s.upstream = some a →
              ((∀ i < a.req.wordCount, zoneOf s.mc.size (wordAddress a.req i) = .unbacked) →
                State.Settles { up with upstream := some { a with phase := .serving, view := s.viewNow } } t)
              ∧ ((∃ i < a.req.wordCount, zoneOf s.mc.size (wordAddress a.req i) ≠ .unbacked) →
                State.Settles { up with upstream := some { a with phase := .asking, view := s.viewNow } } t)

/-! ## Locating, classifying and ending a frame -/

/-- The plan of a locate operation. The base level is the greatest mean; gap rows come within Tg of it, and a run of fewer than
Gmin of them away from the ends of the profile becomes image rows; the candidates are the maximal runs of image rows, and NO_IMAGE
says that there are none (R67, R68). A candidate shorter than P div 2 is a sliver; every other yields n frames about its n centres,
moved inside the profile, with PARTIAL_FRAME and SPLIT (R69). The frames are taken in order of survey top and trimmed against the
last kept (R70; which of two may be dropped is DEDUCED, log 19). Each that keeps rows and columns is converted, with the greatest Ir
of its survey window as clear level and OPAQUE below the IR floor; the dropped ones count as slivers (R70 to R72). The survey
windows of a plan share no row, nor do its capture windows, which lie within capture rows 0 to capture_rows − 1 and within the
film window (R64, R70, R71). -/
def Obligations.LocateWindowsDisjoint : Prop :=
  ∀ k : LocateInputs, 1 ≤ k.params.frameLength → 1 ≤ k.strip.ks →
    k.plan.frames.Pairwise (fun a b => a.surveyBottom < b.surveyTop ∧ a.bottom < b.top)
      ∧ (∀ f ∈ k.plan.frames, f.surveyTop ≤ f.surveyBottom ∧ f.surveyBottom < k.profile.length ∧ f.top ≤ f.bottom
          ∧ f.bottom < k.strip.captureRows ∧ k.strip.filmLeft ≤ f.left ∧ f.left ≤ f.right ∧ f.right ≤ k.strip.filmRight)
      ∧ IsGreatest (k.profile.map (·.mean)) k.plan.base
      ∧ (k.plan.noImage = true ↔ ∀ s, ¬k.IsImage k.plan.base s)
      ∧ (∀ (t : Trimming) (f : SurveyFrame), t.Trims f (t.next f))
      ∧ ∀ candidates whole : List RowRun, candidates = candidatesOf k.profile k.params →
          whole = candidates.filter (fun c => decide (k.params.frameLength / 2 ≤ c.last - c.first + 1)) →
          candidates.Pairwise (fun c d => c.last < d.first)
          ∧ (∀ a b, MaximalRun (k.IsImage k.plan.base) k.profile.length a b ↔ ∃ c ∈ candidates, c.first = a ∧ c.last = b)
          ∧ (∀ c ∈ candidates, ∀ len n, len = c.last - c.first + 1 →
              n = max 1 ((2 * (len + k.params.nominalGap) + (k.params.frameLength + k.params.nominalGap))
                / (2 * (k.params.frameLength + k.params.nominalGap))) →
              (c.frames k.params k.profile.length).length = n
              ∧ ∀ i f, (c.frames k.params k.profile.length)[i]? = some f →
                  k.params.FrameOf k.profile.length c.first c.last n i f)
          ∧ ∀ (made sorted kept : List SurveyFrame) (dropped : Nat) (converts : SurveyFrame → Bool),
              made = whole.flatMap (fun c => c.frames k.params k.profile.length) → sorted = sortFrames made →
              sorted.foldl Trimming.next ⟨[], 0⟩ = ⟨kept.reverse, dropped⟩ →
              (∀ f, converts f = true ↔ k.Converts f) →
              sorted.Perm made ∧ sorted.Pairwise (fun a b => a.top ≤ b.top)
              ∧ (∀ top, sorted.filter (fun f => decide (f.top = top)) = made.filter (fun f => decide (f.top = top)))
              ∧ k.plan.frames.length = (kept.filter converts).length
              ∧ (∀ (i : Nat) (f : SurveyFrame) (g : LocatedFrame), (kept.filter converts)[i]? = some f → k.plan.frames[i]? = some g → k.ConvertedTo f g)
              ∧ k.plan.slivers = (candidates.length - whole.length) + dropped + (kept.length - k.plan.frames.length)

/-- The end of a locate operation (R73, R74). The free slots, those not HELD, take the plan's frames in ascending order:
each that gets one is PLANNED with it, its pending plan entry set; each that gets none is VACANT, its entry NONE; no span of
a free slot stays. HELD slots, with their spans and entries, stay. The PLAN report is staged, with a full queue or ring as any
report (R76), and the pass state is PLANNED. Nothing else changes. -/
def Obligations.LocateEnd : Prop :=
  ∀ (s : State) (k : LocateInputs) (r : StripRecord) (free : List SlotId), s.fl.locating = some k →
    s.iu.strip = some r → free = allSlots.filter (fun u => decide ((s.fl.slots.get u).state ≠ .held)) →
    ∃ t, exec .locateEnd s = .next t
      ∧ State.Settles
          { s with
            fl := { s.fl with slots := t.fl.slots, planPending := t.fl.planPending, locating := none }
            iu := { s.iu with pass := .planned }
            bt := { s.bt with spans := s.bt.spans.filter fun sp => decide ((s.fl.slots.get sp.slot).state = .held) }
            ru := t.ru } t
      ∧ t.ru = (State.stage (.plan ⟨decide (8 < k.plan.frames.length), k.plan.noImage, s.fl.generation, k.profile.length,
          k.plan.base, min free.length k.plan.frames.length, free.take k.plan.frames.length, k.plan.slivers,
          k.plan.frames.length - free.length⟩) s).ru
      ∧ (s.ru.staging.length < 8 → s.ru.ringFull s.cu.standing.slotCount = false →
          t.ru = { s.ru with staging := s.ru.staging ++
            [.plan ⟨decide (8 < k.plan.frames.length), k.plan.noImage, s.fl.generation, k.profile.length, k.plan.base,
              min free.length k.plan.frames.length, free.take k.plan.frames.length, k.plan.slivers,
              k.plan.frames.length - free.length⟩] })
      ∧ ∀ v : SlotId,
          ((s.fl.slots.get v).state = .held →
            t.fl.slots.get v = s.fl.slots.get v ∧ t.fl.planPending.get v = s.fl.planPending.get v)
          ∧ ((s.fl.slots.get v).state ≠ .held →
            (∀ f, k.plan.frames[(free.filter fun u => decide (u < v)).length]? = some f →
              t.fl.slots.get v =
                { state := .planned, generation := s.fl.generation, top := f.top, bottom := f.bottom, left := f.left,
                  right := f.right, bandBase := k.strip.bandAreaBase + v.val * k.strip.bandStride,
                  bandLines := k.strip.bandLines, bandPitch := k.strip.bandPitch, clearLevel := f.clearLevel,
                  cleanup := f.cleanup, dx := r.dx, newest := none, classified := 0, partialFrame := f.partialFrame,
                  splitFrame := f.splitFrame, cut := false }
              ∧ t.fl.planPending.get v = some (.planned
                  ⟨.locate, s.fl.generation, f.top, f.bottom, f.left, f.right,
                    k.strip.bandAreaBase + v.val * k.strip.bandStride, k.strip.bandLines, k.strip.bandPitch, f.clearLevel,
                    f.cleanup, f.partialFrame, f.splitFrame, some (f.surveyTop, f.surveyBottom)⟩))
            ∧ (k.plan.frames.length ≤ (free.filter fun u => decide (u < v)).length →
              t.fl.slots.get v = Slot.vacantValues ∧ t.fl.planPending.get v = some .none))

/-- A row's pixels and runs. In OFF and OPAQUE every pixel is clean (R84, R90). Else a listed column is a bridge, and any other pixel
is dense, faint or clean as its transmission t = min(256, (I × 256) div C) stands to T_dense and T_faint; I is the row's value at the
registered column, and C where the row holds no half (R87 to R91); for C and T of at least 1, t is below T exactly when I × 256 is
below T × C (R89). The runs are the maximal sequences of dense pixels and bridges that hold a dense pixel, in column order with at
least one other pixel between two (R103): every pixel of a run is one of the two, its area is the number of its dense pixels and
at least 1, its neighbours are neither, and every dense pixel of the row lies in a run. -/
def Obligations.RunsAreMaximal : Prop :=
  (∀ i c t : Nat, 1 ≤ c → 1 ≤ t → t ≤ 256 → (transmission i c < t ↔ i * 256 < t * c))
  ∧ ∀ k : Classification,
    (k.cleanup ∈ [.off, .opaqueFilm] → ∀ x, k.classAt x = .clean)
    ∧ (k.cleanup ∈ [.full, .denseOnly] → ∀ x j i t, x < k.width → k.Registers x j →
        i = (k.values[j]?).getD k.clearLevel → t = min 256 (i * 256 / k.clearLevel) →
        (k.left + x ∈ k.columns → k.classAt x = .bridge)
        ∧ (k.left + x ∉ k.columns → t = transmission i k.clearLevel
          ∧ (t < k.tDense → k.classAt x = .dense)
          ∧ (k.tDense ≤ t → t < k.tFaint → k.classAt x = .faint)
          ∧ (k.tDense ≤ t → k.tFaint ≤ t → k.classAt x = .clean)))
    ∧ k.runs.Pairwise (fun a b => a.stop + 2 ≤ b.start)
    ∧ (∀ r ∈ k.runs, r.start ≤ r.stop ∧ r.stop < k.width ∧ 1 ≤ r.area
      ∧ r.area = ((List.range (r.stop - r.start + 1)).filter fun i => decide (k.classAt (r.start + i) = .dense)).length
      ∧ (∀ x, r.start ≤ x → x ≤ r.stop → k.classAt x = .dense ∨ k.classAt x = .bridge)
      ∧ (0 < r.start → k.classAt (r.start - 1) = .faint ∨ k.classAt (r.start - 1) = .clean)
      ∧ (r.stop + 1 < k.width → k.classAt (r.stop + 1) = .faint ∨ k.classAt (r.stop + 1) = .clean))
    ∧ ∀ x, x < k.width → k.classAt x = .dense → ∃ r ∈ k.runs, r.start ≤ x ∧ x ≤ r.stop

/-- The end of a classification (R94). Ycls becomes the row's number plus 1, and the tally gains the row and its torn count (R99).
A row no longer resident records no span; else its runs enter the span table in column order while it holds fewer than 4096
spans, wide when longer than W_max, and each later one is a SPAN_OVERFLOW (R104 to R106). The runs are followed in column order
(R111 to R115), a run refused for a full table marking its blemish PARTIAL; the blemishes without a run in this row then close in
order (R116 to R118). The half that held the row becomes EMPTY, which ends a row hold. After the bottom row the slot's frame end
begins, and in DRAINING it begins with CUT when the next row is not ready; else a ready next row is classified. With a RESTART or
CLOSE_STRIP pending, that takes effect instead once no operation holds the port (log 16). Memory does not change. That the counts
of one row's end are raises by one, SPAN_OVERFLOW before UNTRACKED_RUN before UNLISTED_BLEMISH, is the model's choice (DESIGN
CHOICE, log 32). -/
def Obligations.RowClassificationEnd : Prop :=
  (∀ (t : Tracking) (position : Nat) (r : Run) (c : RunContext), t.Follows position r c (t.take position r c))
  ∧ (∀ a b : List WideRun, a.Pairwise WideRun.NotAfter →
      ∃ l : List WideRun, l.Perm (a ++ b) ∧ l.Pairwise WideRun.NotAfter ∧ mergeWide a b = l.take 4)
  ∧ (∀ (minArea : Nat) (v : SlotId) (generation : Half16) (cut : Bool) (l : Listing) (b : OpenBlemish),
      l.Closes minArea v generation cut b (l.close minArea v generation cut b))
  ∧ (∀ (s : State) (k : Classification) (x : Slot), s.bt.classifying = some k → s.NothingPending →
    s.fl.slots.get k.slot = x → x.state = .active →
    ∃ t, exec .rowClassificationEnd s = .next t ∧ t.mem = s.mem ∧ t.cu = s.cu ∧ t.fault = s.fault
      ∧ t.fl = { s.fl with slots := s.fl.slots.set k.slot.val { x with classified := k.row + 1 } }
      ∧ t.bt.tally.rows = s.bt.tally.rows + 1 ∧ t.bt.tally.torn = s.bt.tally.torn + k.torn
      -- spans
      ∧ ((∃ n, x.newest = some n ∧ k.row + x.bandLines ≤ n) →
          t.bt.spans = s.bt.spans ∧ t.bt.tally.spans = s.bt.tally.spans ∧ t.bt.tally.overflows = s.bt.tally.overflows)
      ∧ ((∀ n, x.newest = some n → n < k.row + x.bandLines) →
          (∀ sp, sp ∈ t.bt.spans ↔ sp ∈ s.bt.spans
            ∨ ∃ r ∈ k.runs.take (4096 - s.bt.spans.length),
                sp = ⟨k.slot, k.row, r.start, r.stop, decide (k.wMax < r.stop - r.start + 1)⟩)
          ∧ t.bt.tally.spans = s.bt.tally.spans + min k.runs.length (4096 - s.bt.spans.length)
          ∧ t.bt.tally.overflows = s.bt.tally.overflows + (k.runs.length - (4096 - s.bt.spans.length)))
      -- the half that held the row, and the row hold
      ∧ (s.iu.halfA.HoldsRow (x.top + k.row) → t.iu.halfA = ⟨.empty, 0, 0, [], 0⟩)
      ∧ (¬s.iu.halfA.HoldsRow (x.top + k.row) → s.iu.halfB.HoldsRow (x.top + k.row) →
          t.iu.halfB = ⟨.empty, 0, 0, [], 0⟩)
      ∧ (∀ a, s.upstream = some a → a.phase = .rowHeld →
          (s.iu.halfA.HoldsRow (x.top + k.row) ∨ s.iu.halfB.HoldsRow (x.top + k.row)) →
          t.upstream = some { a with phase := .asking })
      -- blemishes
      ∧ (∀ (refused : List Bool) (f : Tracking) (stays : OpenBlemish → Bool) (l : Listing) (ends ready : Prop),
          activeSlot s.fl.slots = some k.slot → s.bt.frameEnd = none →
          refused = (List.range k.runs.length).map
            (fun i => decide (x.hasLost k.row = false ∧ 4096 ≤ s.bt.spans.length + i)) →
          f = Tracking.takeAll ⟨k.row, k.width, x.height, k.wMax, false⟩ 1 k.runs refused
            ⟨s.bt.openTable, s.bt.previous, [], s.bt.nextKey, 0⟩ →
          (∀ b, stays b = true ↔ ∃ p ∈ f.current, p.key = b.key) →
          l = Listing.closeAll k.minArea k.slot x.generation false (f.openTable.filter fun b => !stays b)
            ⟨s.lw.queue, s.bt.nextSerial, 0, 0, 0⟩ →
          (ready ↔ k.row + 1 < x.height ∧ s.iu.tracker.hasCompleted (x.top + (k.row + 1)) = true) →
          (ends ↔ k.row + 1 = x.height ∨ s.iu.pass = .draining ∧ ¬ready) →
          t.bt.tally.untracked = s.bt.tally.untracked + f.untracked ∧ t.bt.nextKey = f.nextKey
          ∧ t.ru = (State.countTimes unlistedBlemish (t.bt.tally.unlisted - s.bt.tally.unlisted)
              (State.countTimes untrackedRun f.untracked
                (State.countTimes spanOverflow (t.bt.tally.overflows - s.bt.tally.overflows) s))).ru
          ∧ (¬ends →
              t.bt.openTable = f.openTable.filter stays ∧ t.bt.previous = f.current ∧ t.bt.frameEnd = none
              ∧ t.bt.nextSerial = l.nextSerial ∧ t.lw = { s.lw with queue := l.queue }
              ∧ t.bt.tally.closed = s.bt.tally.closed + l.closed ∧ t.bt.tally.listed = s.bt.tally.listed + l.listed
              ∧ t.bt.tally.unlisted = s.bt.tally.unlisted + l.unlisted
              ∧ (¬ready → t.bt.classifying = none)
              ∧ (ready → ∃ (values : List Nat) (torn : Nat),
                  t.bt.classifying = some
                    { slot := k.slot, row := k.row + 1, values := values, torn := torn, clearLevel := x.clearLevel,
                      dx := x.dx, width := x.right - x.left + 1, left := x.left, cleanup := x.cleanup,
                      tDense := s.cu.effDense, tFaint := s.cu.effFaint, wMax := s.cu.effWMax,
                      minArea := s.cu.effMinArea, columns := s.cu.columns }
                  ∧ (s.iu.halfA.HoldsRow (x.top + k.row) → s.iu.halfB.HoldsRow (x.top + (k.row + 1)) →
                      values = s.iu.halfB.entries ∧ torn = s.iu.halfB.torn
                        ∧ t.iu.halfB = { s.iu.halfB with state := .classifying })
                  ∧ (s.iu.halfB.HoldsRow (x.top + k.row) → s.iu.halfA.HoldsRow (x.top + (k.row + 1)) →
                      values = s.iu.halfA.entries ∧ torn = s.iu.halfA.torn
                        ∧ t.iu.halfA = { s.iu.halfA with state := .classifying })
                  ∧ (¬s.iu.halfA.HoldsRow (x.top + (k.row + 1)) → ¬s.iu.halfB.HoldsRow (x.top + (k.row + 1)) →
                      values = [] ∧ torn = 0)))
          ∧ (ends → ∀ (cut : Bool) (e : Listing), cut = decide (k.row + 1 < x.height) →
              e = Listing.closeAll s.cu.effMinArea k.slot x.generation cut (f.openTable.filter stays) l →
              t.bt.frameEnd = some ⟨k.slot, cut⟩ ∧ t.bt.classifying = none ∧ t.bt.openTable = [] ∧ t.bt.previous = []
              ∧ t.bt.nextSerial = e.nextSerial ∧ t.lw = { s.lw with queue := e.queue }
              ∧ t.bt.tally.closed = s.bt.tally.closed + e.closed ∧ t.bt.tally.listed = s.bt.tally.listed + e.listed
              ∧ t.bt.tally.unlisted = s.bt.tally.unlisted + e.unlisted))
      -- with no run, no open blemish, no row ready next and rows still to come, nothing else changes
      ∧ (k.runs = [] → s.bt.openTable = [] → s.bt.frameEnd = none → s.iu.pass = .capturing → s.upstream = none →
          activeSlot s.fl.slots = some k.slot → k.row + 1 < x.height →
          s.iu.tracker.hasCompleted (x.top + (k.row + 1)) = false → s.iu.halfA.state = .classifying →
          s.iu.halfA.row = x.top + k.row →
          State.Settles
            { s with
              fl := t.fl
              iu := { s.iu with halfA := ⟨.empty, 0, 0, [], 0⟩ }
              bt := { s.bt with
                classifying := none
                previous := []
                tally := { s.bt.tally with rows := s.bt.tally.rows + 1, torn := s.bt.tally.torn + k.torn } } } t))
  -- a RESTART or CLOSE_STRIP that waited for the classification
  ∧ ∀ (s : State) (k : Classification) (x : Slot), s.bt.classifying = some k → s.fl.slots.get k.slot = x →
    x.state = .active → activeSlot s.fl.slots = some k.slot → s.bt.frameEnd = none →
    (s.bt.restartPending = true ∨ s.bt.closePending = true) →
    ∃ t, exec .rowClassificationEnd s = .next t ∧ t.mem = s.mem ∧ t.bt.classifying = none
      ∧ (s.bt.restartPending = true → s.mc.port = none →
          t.fault.locked = false ∧ t.cu = { s.cu with shadow := [], overrides := ⟨none, none, none, none, none⟩ }
          ∧ t.iu = ⟨.stripClosed, none, none, ⟨none, 0, false, false, 0, 0⟩, ⟨.empty, 0, 0, [], 0⟩,
              ⟨.empty, 0, 0, [], 0⟩, []⟩
          ∧ t.fl = ⟨Vector.replicate 8 Slot.vacantValues, 0, [], none, Vector.replicate 8 none, none⟩
          ∧ t.bt = ⟨[], [], [], 0, some 1, ⟨0, 0, 0, 0, 0, 0, 0, 0⟩, none, none, false, false⟩
          ∧ t.lw = ⟨[], .unchained, none, none, 0, none, none, false⟩
          ∧ (s.ru.ringFull s.cu.standing.slotCount = false →
              t.ru.staging = [.ack 0x0E .done .stripClosed false 0]))
      ∧ (s.bt.restartPending = false → s.bt.closePending = true → s.mc.port = none →
          t.cu = { s.cu with overrides := ⟨none, none, none, none, none⟩ }
          ∧ t.iu = ⟨.stripClosed, none, none, ⟨none, 0, false, false, 0, 0⟩, ⟨.empty, 0, 0, [], 0⟩,
              ⟨.empty, 0, 0, [], 0⟩, []⟩
          ∧ t.fl.profile = [] ∧ t.fl.params = none ∧ t.fl.locating = none ∧ t.fl.generation = s.fl.generation
          ∧ (∀ v : SlotId, t.fl.slots.get v =
              if v = k.slot then { x with classified := k.row + 1 }
              else if (s.fl.slots.get v).state = .planned then Slot.vacantValues else s.fl.slots.get v)
          ∧ t.bt.frameEnd = some ⟨k.slot, decide (k.row + 1 < x.height)⟩ ∧ t.bt.openTable = [] ∧ t.bt.previous = []
          ∧ t.bt.closePending = false)
      ∧ (s.mc.port ≠ none →
          t.bt.restartPending = s.bt.restartPending ∧ t.bt.closePending = s.bt.closePending ∧ t.iu.pass = s.iu.pass)

/-- A frame end whose marker finds the holding queue full waits (R120). Else its marker joins the queue, FRAME_SUMMARY is
staged with the frame's tally (R123) and the slot becomes CAPTURED, with CUT when the operation runs with it. With an empty
start queue and no other slot ACTIVE, DRAINING then ends in PLANNED (R54). Else the oldest slot of the start queue becomes ACTIVE
with a tally of zero (R53): its next row, if ready, is classified, unless a RESTART or CLOSE_STRIP is pending (R92); in DRAINING
its frame end begins when that row is not ready (R54). That a frame end completes, and a slot becomes ACTIVE, while such a command
is pending is the model's choice (DESIGN CHOICE, log 31). -/
def Obligations.FrameEndComplete : Prop :=
  ∀ (s : State) (e : FrameEnd) (x : Slot) (f : FrameSummary), s.bt.frameEnd = some e → s.bt.classifying = none →
    s.fl.slots.get e.slot = x → (∀ v, v ≠ e.slot → (s.fl.slots.get v).state ≠ .active) →
    f = ⟨e.slot, x.cleanup, x.cut || e.cut, x.generation, x.clearLevel, s.bt.tally⟩ →
    (32 ≤ s.lw.queue.length → exec .frameEndComplete s = .next s)
    ∧ (s.lw.queue.length < 32 → ∃ t, exec .frameEndComplete s = .next t
      ∧ t.ru = (State.stage (.frameSummary f) s).ru
      ∧ (s.ru.staging.length < 8 → s.ru.ringFull s.cu.standing.slotCount = false →
          t.ru = { s.ru with staging := s.ru.staging ++ [.frameSummary f] })
      ∧ (s.iu.startQueue = [] →
          State.Settles
            { s with
              lw := { s.lw with queue := s.lw.queue ++ [.marker e.slot] }
              ru := t.ru
              fl := { s.fl with
                slots := s.fl.slots.set e.slot.val { x with state := .captured, cut := x.cut || e.cut } }
              iu := { s.iu with pass := if s.iu.pass = .draining then .planned else s.iu.pass }
              bt := { s.bt with frameEnd := none } } t)
      ∧ ∀ (v : SlotId) (rest : List SlotId) (y : Slot) (ended : State) (ready : Prop), s.iu.startQueue = v :: rest →
          v ≠ e.slot → s.fl.slots.get v = y →
          (ready ↔ y.classified < y.height ∧ s.iu.tracker.hasCompleted (y.top + y.classified) = true) →
          ended =
            { s with
              lw := { s.lw with queue := s.lw.queue ++ [.marker e.slot] }
              ru := t.ru
              fl := { s.fl with
                slots := (s.fl.slots.set e.slot.val { x with state := .captured, cut := x.cut || e.cut }).set v.val
                  { y with state := .active } }
              iu := { s.iu with startQueue := rest }
              bt := { s.bt with frameEnd := none, tally := ⟨0, 0, 0, 0, 0, 0, 0, 0⟩, openTable := [], previous := [] } } →
          (¬ready → s.iu.pass ≠ .draining → State.Settles ended t)
          ∧ (¬ready → s.iu.pass = .draining →
              State.Settles
                { ended with bt := { ended.bt with frameEnd := some ⟨v, decide (y.classified < y.height)⟩ } } t)
          ∧ (ready → ¬s.NothingPending → State.Settles ended t)
          ∧ (ready → s.NothingPending → ∃ k : Classification,
              k = { slot := v, row := y.classified, values := k.values, torn := k.torn, clearLevel := y.clearLevel, dx := y.dx,
                    width := y.right - y.left + 1, left := y.left, cleanup := y.cleanup, tDense := s.cu.effDense,
                    tFaint := s.cu.effFaint, wMax := s.cu.effWMax, minArea := s.cu.effMinArea, columns := s.cu.columns }
              ∧ State.Settles
                  { ended with iu := { ended.iu with halfA := t.iu.halfA, halfB := t.iu.halfB },
                               bt := { ended.bt with classifying := some k } } t
              ∧ s.iu.HalfChanged t.iu (y.top + y.classified) (fun h => { h with state := .classifying })
              ∧ (s.iu.halfA.HoldsRow (y.top + y.classified) → k.values = s.iu.halfA.entries ∧ k.torn = s.iu.halfA.torn)
              ∧ (¬s.iu.halfA.HoldsRow (y.top + y.classified) → s.iu.halfB.HoldsRow (y.top + y.classified) →
                  k.values = s.iu.halfB.entries ∧ k.torn = s.iu.halfB.torn)
              ∧ (¬s.iu.halfA.HoldsRow (y.top + y.classified) → ¬s.iu.halfB.HoldsRow (y.top + y.classified) →
                  k.values = [] ∧ k.torn = 0)))

/-! ## Posts -/

/-- The refusals of a post before its fields are read, in the order of R22. An unknown kind is malformed with detail 0x100.
Under a pending RESTART every known kind is REFUSED_BUSY with RESTART_PENDING (R33). A command subject to busy refusal is
REFUSED_BUSY with the first cause of R25 that holds; one not taken in the present state is REFUSED_STATE with its reason
(R26). A refused post changes nothing but the staging of its ACK. -/
def Obligations.PostRefused : Prop :=
  ∀ (s u : State), u = { s with cu := { s.cu with posted := none } } →
    (∀ k, s.cu.posted = some k → (k = 0 ∨ 0x0E < k.toNat) →
      ∃ t, exec .unknownCommand s = .next t ∧ State.Settles (u.stageAck k .refusedMalformed 0x100) t)
    ∧ ∀ (c : Instr) (k : Byte), s.Posts c → postKind c = some k →
      (s.bt.restartPending = true → ∃ t, exec c s = .next t ∧ State.Settles (u.stageAck k .refusedBusy 4) t)
      ∧ (s.bt.restartPending = false → BusySubject c →
          (s.iu.pass = .locating → ∃ t, exec c s = .next t ∧ State.Settles (u.stageAck k .refusedBusy 1) t)
          ∧ (s.iu.pass ≠ .locating → s.bt.classifying ≠ none →
              ∃ t, exec c s = .next t ∧ State.Settles (u.stageAck k .refusedBusy 2) t)
          ∧ (s.iu.pass ≠ .locating → s.bt.classifying = none → s.bt.frameEnd ≠ none →
              ∃ t, exec c s = .next t ∧ State.Settles (u.stageAck k .refusedBusy 3) t))
      ∧ (s.TakesPost c →
          (c = .openStrip ∧ s.iu.pass ∉ [.stripClosed, .stripOpen, .planned]
            ∨ c ∈ [.beginSurvey, .beginCapture, .setFramePlan] ∧ s.iu.pass ∉ [.stripOpen, .planned]
            ∨ c = .setFrameRelease ∧ s.iu.pass ∉ [.stripOpen, .planned, .stripClosed]
            ∨ c = .relocate ∧ s.iu.pass ≠ .planned ∨ c = .endPass ∧ s.iu.pass ∉ [.surveying, .capturing]
            ∨ c = .closeStrip ∧ s.iu.pass = .stripClosed ∨ c = .setColumns ∧ s.iu.pass ∈ [.capturing, .draining]) →
          ∃ t, exec c s = .next t ∧ State.Settles (u.stageAck k .refusedState 1) t)
      ∧ (s.TakesPost c → c = .beginCapture → s.iu.pass ∈ [.stripOpen, .planned] →
          (∀ v, (s.fl.slots.get v).state ≠ .planned) →
          ∃ t, exec c s = .next t ∧ State.Settles (u.stageAck k .refusedState 2) t)
      ∧ (s.TakesPost c → c = .setPlanRing → s.ru.produced ≠ s.ru.taken →
          ∃ t, exec c s = .next t ∧ State.Settles (u.stageAck k .refusedState 4) t)
      ∧ (s.TakesPost c → (c = .chain ∧ s.lw.state ≠ .unchained ∨ c = .chainDetach ∧ s.lw.state = .unchained) →
          ∃ t, exec c s = .next t ∧ State.Settles (u.stageAck k .refusedState 5) t)

/-- The field checks name the first bad field (R24). Every field of a SET_PLAN record is good exactly when it lies in the
ranges of R28 and R168 and the effective T_dense and T_faint stay apart (R30, R31); its ring fields are read only with the
ring flag. Every field of an OPEN_STRIP record is good exactly when it lies in the ranges of R37, and every field of a SET_FRAME
record that plans a slot when it lies in those of R80. For each of the three the field named is the one of least offset that is
not good, at the offsets of R206 to R208 (SetPlanFieldGood, OpenStripFieldGood, SetFrameFieldGood). -/
def Obligations.FieldsChecked : Prop :=
  (∀ (fields : List (Nat × Bool)) (o : Nat), firstBad fields = some o ↔
      ∃ before rest, fields = before ++ (o, false) :: rest ∧ ∀ f ∈ before, f.2 = true)
  ∧ (∀ (size : Nat) (c : CommandUnit) (m : Memory), m = c.shadow →
      (firstBad (setPlanChecks size c) = none ↔
        (m.read 1).toNat ≤ 1 ∧ 1 ≤ (m.read 2).toNat
        ∧ ((m.read 0).getLsbD 0 = true →
            m.read16 0x008 ∈ [0, 16, 32, 64, 128, 256, 512, 1024]
            ∧ (m.read16 0x008 ≠ 0 →
                m.read32 0x00C % 32 = 0 ∧ m.read32 0x00C + m.read16 0x008 * 32 + 4096 ≤ size))
        ∧ 1 ≤ m.read16 0x010 ∧ m.read16 0x010 < m.read16 0x012 ∧ m.read16 0x010 ≤ 255 ∧ m.read16 0x012 ≤ 256
        ∧ c.overrides.tDense.getD (m.read16 0x010) < c.overrides.tFaint.getD (m.read16 0x012)
        ∧ 1 ≤ (m.read 0x014).toNat ∧ (m.read 0x014).toNat ≤ 64 ∧ 1 ≤ (m.read 0x015).toNat
        ∧ (m.read 0x015).toNat ≤ 31 ∧ (m.read 0x015).toNat < (m.read 0x016).toNat ∧ (m.read 0x016).toNat ≤ 32
        ∧ 1 ≤ m.read16 0x018 ∧ 1 ≤ m.read16 0x01A))
  ∧ (∀ (size : Nat) (c : CommandUnit) (m : Memory) (r : StripRecord) (o : Overrides), m = c.shadow →
      r = openStripRecord m → o = openStripOverrides m →
      (firstBad (openStripChecks size c) = none ↔
        (m.read 0).toNat ≤ 1 ∧ 1 ≤ r.surveyWidth ∧ r.surveyWidth ≤ 8192
        ∧ r.surveyPitch % 8 = 0 ∧ r.surveyWidth * 8 ≤ r.surveyPitch
        ∧ 1 ≤ r.surveyRows ∧ r.surveyRows ≤ 4096 ∧ r.surveyRows * r.surveyPitch ≤ 0x10000000
        ∧ r.surveyBase % 32 = 0 ∧ r.surveyBase + r.surveyRows * r.surveyPitch + 4096 ≤ size
        ∧ 1 ≤ r.captureWidth ∧ r.capturePitch % 8 = 0 ∧ r.captureWidth * 8 ≤ r.capturePitch
        ∧ 1 ≤ r.captureRows ∧ r.captureRows * r.capturePitch ≤ 0x10000000
        ∧ 1 ≤ r.kc ∧ r.kc ≤ 16 ∧ 1 ≤ r.ks ∧ r.ks ≤ 16
        ∧ r.filmLeft ≤ r.filmRight ∧ r.filmRight < r.captureWidth ∧ r.filmRight - r.filmLeft + 1 ≤ 8192
        ∧ r.filmRight * r.ks / r.kc < r.surveyWidth ∧ -3 ≤ r.dx ∧ r.dx ≤ 3 ∧ (m.read 0x025).toNat ≤ 2
        ∧ r.bandAreaBase % 32 = 0 ∧ r.bandStride % 32 = 0 ∧ 8 ≤ r.bandLines ∧ r.bandLines ≤ 4096
        ∧ r.bandPitch % 32 = 0 ∧ (r.filmRight - r.filmLeft + 1) * 8 ≤ r.bandPitch
        ∧ r.bandLines * r.bandPitch ≤ 0x02000000
        ∧ r.bandAreaBase + 7 * r.bandStride + r.bandLines * r.bandPitch + 4096 ≤ size
        ∧ 1 ≤ r.params.minGap ∧ r.params.minGap ≤ 64 ∧ 8 ≤ r.params.frameLength ∧ r.params.frameLength ≤ 2048
        ∧ r.params.nominalGap ≤ 256
        ∧ (∀ x, o.tDense = some x → 1 ≤ x ∧ x ≤ 255) ∧ (∀ x, o.tFaint = some x → 2 ≤ x ∧ x ≤ 256)
        ∧ (∀ x, o.wMax = some x → 1 ≤ x ∧ x ≤ 64) ∧ (∀ x, o.minArea = some x → 1 ≤ x)
        ∧ (∀ x, o.irFloor = some x → 1 ≤ x)
        ∧ ((o.tDense ≠ none ∨ o.tFaint ≠ none) → o.tDense.getD c.standing.tDense < o.tFaint.getD c.standing.tFaint)))
  ∧ (∀ (size : Nat) (c : CommandUnit) (o : Nat), firstBad (setPlanChecks size c) = some o ↔
      ¬SetPlanFieldGood size c o ∧ ∀ o' < o, SetPlanFieldGood size c o')
  ∧ (∀ (size : Nat) (c : CommandUnit) (o : Nat), firstBad (openStripChecks size c) = some o ↔
      ¬OpenStripFieldGood size c (openStripRecord c.shadow) (openStripOverrides c.shadow) o
        ∧ ∀ o' < o, OpenStripFieldGood size c (openStripRecord c.shadow) (openStripOverrides c.shadow) o')
  ∧ ∀ (size : Nat) (r : StripRecord) (slots : Vector Slot 8) (m : Memory),
      (firstBad (setFramePlanChecks size (some r) slots m) = none ↔ ∀ o, SetFrameFieldGood size r slots m o)
      ∧ ∀ o, firstBad (setFramePlanChecks size (some r) slots m) = some o ↔
          ¬SetFrameFieldGood size r slots m o ∧ ∀ o' < o, SetFrameFieldGood size r slots m o'

/-- SET_PLAN carried out (R31). Without the ring flag the ring setting is kept, every other standing setting is the record's,
and the attention line follows a change of its settings (R179). With it, taken only while produced equals taken, the ring
is the record's too (with slot count 0 the model stores ring base 0: DEDUCED, log 18), ATTN_N is released and the ACK goes to the head of the staging queue (R169). SET_COLUMNS makes the
column mend list the first n entries in ascending order, each once (R32). A bad field refuses the whole record (R24). A new
T of 0 stops a running timer without an assertion (DESIGN CHOICE, log 17). -/
def Obligations.SettingsReplaced : Prop :=
  ∀ (s u : State) (m : Memory) (st : Settings), u = { s with cu := { s.cu with posted := none } } → m = s.cu.shadow →
    st = ⟨if (m.read 0).getLsbD 0 then (if m.read16 0x008 = 0 then 0 else m.read32 0x00C) else s.cu.standing.ringBase,
          if (m.read 0).getLsbD 0 then m.read16 0x008 else s.cu.standing.slotCount,
          if m.read 1 = 0 then .take else .read, (m.read 2).toNat, m.read16 0x004, BitVec.ofNat 14 (m.read16 0x006),
          m.read16 0x010, m.read16 0x012, (m.read 0x014).toNat, m.read16 0x018, m.read16 0x01A, (m.read 0x015).toNat,
          (m.read 0x016).toNat⟩ →
    (∀ o, firstBad (setPlanChecks s.mc.size s.cu) = some o →
      (s.TakesPost .setPlan →
        ∃ t, exec .setPlan s = .next t ∧ State.Settles (u.stageAck 0x01 .refusedMalformed (BitVec.ofNat 32 o)) t)
      ∧ (s.TakesPost .setPlanRing → s.ru.produced = s.ru.taken →
        ∃ t, exec .setPlanRing s = .next t
          ∧ State.Settles (u.stageAck 0x01 .refusedMalformed (BitVec.ofNat 32 o)) t))
    ∧ (s.TakesPost .setPlan → firstBad (setPlanChecks s.mc.size s.cu) = none →
      ∃ t ru, exec .setPlan s = .next t
        ∧ State.Settles (State.stageAck 0x01 .done 0 { u with cu := { u.cu with standing := st }, ru := ru }) t
        ∧ (s.cu.standing.attentionMode = .take → st.attentionMode = .read →
            ru = { s.ru with attention := false, timer := none, ackThrough := s.ru.produced })
        ∧ (s.cu.standing.attentionMode = .read → st.attentionMode = .take →
            ru = { s.ru with
              attention := decide (s.ru.produced ≠ s.ru.taken ∧ st.coalesceCount ≤ s.ru.unread)
              timer := if s.ru.produced = s.ru.taken ∨ st.coalesceTime = 0 then none else some 0 })
        ∧ (s.cu.standing.attentionMode = st.attentionMode → s.cu.standing.coalesceCount = st.coalesceCount →
            s.cu.standing.coalesceTime = st.coalesceTime → ru = s.ru)
        ∧ (s.cu.standing.attentionMode = st.attentionMode →
            (s.cu.standing.coalesceCount ≠ st.coalesceCount ∨ s.cu.standing.coalesceTime ≠ st.coalesceTime) →
            ru = { s.ru with
              attention := s.ru.attention || decide (st.coalesceCount ≤ s.ru.backlog st.attentionMode)
                || decide (∃ e ∈ s.ru.timer, st.coalesceTime ≠ 0 ∧ st.coalesceTime * 10 ≤ e)
              timer := s.ru.timer.filter fun e => decide (st.coalesceTime ≠ 0 ∧ e < st.coalesceTime * 10) }))
    ∧ (s.TakesPost .setPlanRing → s.ru.produced = s.ru.taken → firstBad (setPlanChecks s.mc.size s.cu) = none →
      ∃ t, exec .setPlanRing s = .next t
        ∧ ∀ (ack : Report) (ru : ReportUnit), ack = .ack 0x01 .done s.iu.pass s.fault.locked 0 →
          ru = { s.ru with attention := false, timer := none, ackThrough := s.ru.produced, newest := none } →
          (s.ru.staging.length < 8 →
            State.Settles
              { u with cu := { u.cu with standing := st }, ru := { ru with staging := ack :: s.ru.staging } } t)
          ∧ (s.ru.staging.length = 8 → st.countMask.getLsbD 9 = false → s.ru.counters.get 9 ≠ 49151 →
            State.Settles
              { u with
                cu := { u.cu with standing := st }
                ru := { ru with
                  staging := ack :: s.ru.staging.take 7
                  lost := true
                  counters := s.ru.counters.set 9 (s.ru.counters.get 9 + 1) } } t))
    ∧ (s.TakesPost .setColumns → s.iu.pass ≠ .capturing → s.iu.pass ≠ .draining →
      ∃ t, exec .setColumns s = .next t
        ∧ ((m.read 0).toNat ≤ 16 → ∃ columns,
            State.Settles (State.stageAck 0x09 .done 0 { u with cu := { u.cu with columns := columns } }) t
              ∧ columns.Pairwise (· < ·) ∧ ∀ c, c ∈ columns ↔ ∃ i < (m.read 0).toNat, c = m.read16 (4 + 2 * i))
        ∧ (16 < (m.read 0).toNat → State.Settles (u.stageAck 0x09 .refusedMalformed 0) t))

/-- OPEN_STRIP carried out (R38): the generation rises modulo 65,536; CAPTURED slots become HELD and PLANNED slots VACANT
with their spans retired; the record, its overrides and its locate parameters replace the old ones; the profile is empty,
the next serial is 1, IU's pairing, tracker, halves and start queue are empty, and the pass state is STRIP_OPEN, which the
ACK, DONE, shows. A bad field changes nothing (R24). -/
def Obligations.OpenStrip : Prop :=
  ∀ (s u : State) (m : Memory) (r : StripRecord), u = { s with cu := { s.cu with posted := none } } → m = s.cu.shadow →
    s.TakesPost .openStrip → s.iu.pass ∈ [.stripClosed, .stripOpen, .planned] →
    r = { sampleOrder := if m.read 0 = 0 then .little else .big
          surveyWidth := m.read16 0x002, surveyPitch := m.read32 0x004, surveyRows := m.read16 0x008
          surveyBase := m.read32 0x00C, captureWidth := m.read16 0x010, capturePitch := m.read32 0x014
          captureRows := m.read32 0x018, kc := (m.read 0x01C).toNat, ks := (m.read 0x01D).toNat
          filmLeft := m.read16 0x020, filmRight := m.read16 0x022, dx := (m.read 0x024).toInt
          defaultCleanup := if m.read 0x025 = 0 then .full else if m.read 0x025 = 1 then .denseOnly
            else if m.read 0x025 = 2 then .off else .opaqueFilm
          bandAreaBase := m.read32 0x028, bandStride := m.read32 0x02C, bandLines := m.read16 0x030
          bandPitch := m.read32 0x034
          params := ⟨m.read16 0x038, (m.read 0x03A).toNat, m.read16 0x03C, m.read16 0x03E, (m.read 0x040).toNat⟩ } →
    (∀ o, firstBad (openStripChecks s.mc.size s.cu) = some o →
      ∃ t, exec .openStrip s = .next t
        ∧ State.Settles (u.stageAck 0x02 .refusedMalformed (BitVec.ofNat 32 o)) t)
    ∧ (firstBad (openStripChecks s.mc.size s.cu) = none →
      ∃ t slots, exec .openStrip s = .next t
        ∧ State.Settles
            (State.stageAck 0x02 .done 0
              { u with
                cu := { u.cu with overrides :=
                  ⟨if (m.read 0x041).getLsbD 0 then some (m.read16 0x042) else none,
                   if (m.read 0x041).getLsbD 1 then some (m.read16 0x044) else none,
                   if (m.read 0x041).getLsbD 2 then some (m.read 0x046).toNat else none,
                   if (m.read 0x041).getLsbD 3 then some (m.read16 0x048) else none,
                   if (m.read 0x041).getLsbD 4 then some (m.read16 0x04A) else none⟩ }
                fl := { s.fl with slots := slots, generation := s.fl.generation + 1, profile := [], params := some r.params }
                bt := { s.bt with
                  spans := s.bt.spans.filter fun sp => decide ((s.fl.slots.get sp.slot).state ≠ .planned)
                  nextSerial := some 1 }
                iu := ⟨.stripOpen, some r, none, ⟨none, 0, false, false, 0, 0⟩, ⟨.empty, 0, 0, [], 0⟩,
                  ⟨.empty, 0, 0, [], 0⟩, []⟩ }) t
        ∧ ∀ v : SlotId,
            ((s.fl.slots.get v).state = .captured → slots.get v = { s.fl.slots.get v with state := .held })
            ∧ ((s.fl.slots.get v).state = .planned → slots.get v = Slot.vacantValues)
            ∧ ((s.fl.slots.get v).state ∉ [.captured, .planned] → slots.get v = s.fl.slots.get v))

/-- BEGIN_SURVEY empties the profile and IU's pairing, tracker and halves and enters SURVEYING (R41). BEGIN_CAPTURE, with a
slot PLANNED, empties the start queue too and enters CAPTURING (R42). RELOCATE takes its parameters when they lie in their
ranges and begins a locate operation over the stored profile (R66, R79). END_PASS first settles a pending word 0 of the open row
torn, and drops any other (R44, R45, R58). An open row then completes: in SURVEYING its profile entry is made and the locate
operation begins (R48, R58, R66); in CAPTURING its half goes to WAITING and the pass state becomes DRAINING (R48, R54). With a ready
row of the ACTIVE slot that row's classification begins (R92). With none ready the slot's frame end begins, with CUT while rows are
unclassified: its open blemishes close in their order, each record listed or counted in UNLISTED_BLEMISH (R54, R116 to R118, R120;
that several such counts are raises by one is the model's choice, log 32). With no slot ACTIVE and the start queue empty the pass
state is PLANNED at once (R54). -/
def Obligations.PassCommands : Prop :=
  ∀ (s u : State) (m : Memory), u = { s with cu := { s.cu with posted := none } } → m = s.cu.shadow →
    (s.TakesPost .beginSurvey → s.iu.pass ∈ [.stripOpen, .planned] →
      ∃ t, exec .beginSurvey s = .next t
        ∧ State.Settles
            (State.stageAck 0x03 .done 0
              { u with
                fl := { s.fl with profile := [] }
                iu := { s.iu with pass := .surveying, pairing := none, tracker := ⟨none, 0, false, false, 0, 0⟩,
                                  halfA := ⟨.empty, 0, 0, [], 0⟩, halfB := ⟨.empty, 0, 0, [], 0⟩ } }) t)
    ∧ (s.TakesPost .beginCapture → s.iu.pass ∈ [.stripOpen, .planned] →
      (∃ v, (s.fl.slots.get v).state = .planned) →
      ∃ t, exec .beginCapture s = .next t
        ∧ State.Settles
            (State.stageAck 0x06 .done 0
              { u with
                iu := { s.iu with pass := .capturing, pairing := none, tracker := ⟨none, 0, false, false, 0, 0⟩,
                                  halfA := ⟨.empty, 0, 0, [], 0⟩, halfB := ⟨.empty, 0, 0, [], 0⟩,
                                  startQueue := [] } }) t)
    ∧ (s.TakesPost .relocate → s.iu.pass = .planned → ∀ (r : StripRecord) (p : LocateParams), s.iu.strip = some r →
      p = ⟨m.read16 0x000, (m.read 0x002).toNat, m.read16 0x004, m.read16 0x006, (m.read 0x008).toNat⟩ →
      ∃ t, exec .relocate s = .next t
        ∧ ((p.minGap = 0 ∨ 64 < p.minGap) → State.Settles (u.stageAck 0x04 .refusedMalformed 2) t)
        ∧ (1 ≤ p.minGap → p.minGap ≤ 64 → (p.frameLength < 8 ∨ 2048 < p.frameLength) →
            State.Settles (u.stageAck 0x04 .refusedMalformed 4) t)
        ∧ (1 ≤ p.minGap → p.minGap ≤ 64 → 8 ≤ p.frameLength → p.frameLength ≤ 2048 → 256 < p.nominalGap →
            State.Settles (u.stageAck 0x04 .refusedMalformed 6) t)
        ∧ (1 ≤ p.minGap → p.minGap ≤ 64 → 8 ≤ p.frameLength → p.frameLength ≤ 2048 → p.nominalGap ≤ 256 →
            State.Settles
              (State.stageAck 0x04 .accepted 0
                { u with
                  iu := { s.iu with pass := .locating }
                  fl := { s.fl with params := some p, locating := some ⟨s.fl.profile, p, r, s.cu.effIrFloor⟩ } }) t))
    ∧ (s.TakesPost .endPass → s.iu.pass ∈ [.surveying, .capturing] → ∀ (q : PendingWord) (v : State),
      s.iu.pairing = some q → s.SettledTorn q v → exec .endPass s = exec .endPass v)
    ∧ (s.TakesPost .endPass → s.NothingPending → s.iu.pairing = none → ∃ t, exec .endPass s = .next t
      ∧ (∀ (r : StripRecord) (p : LocateParams), s.iu.pass = .surveying → s.iu.strip = some r → s.fl.params = some p →
          (s.iu.tracker.current = none ∨ s.iu.tracker.complete = true →
            State.Settles
              (State.stageAck 0x07 .accepted 0
                { u with
                  iu := { s.iu with pass := .locating }
                  fl := { s.fl with locating := some ⟨s.fl.profile, p, r, s.cu.effIrFloor⟩ } }) t)
          ∧ ∀ (row : Nat) (e : ProfileEntry), s.iu.tracker.current = some row → s.iu.tracker.complete = false →
              e = ⟨min 65535 (s.iu.tracker.gSum / (r.filmRight * r.ks / r.kc - r.filmLeft * r.ks / r.kc + 1)),
                   min 65535 (s.iu.tracker.iSum / (r.filmRight * r.ks / r.kc - r.filmLeft * r.ks / r.kc + 1))⟩ →
              State.Settles
                (State.stageAck 0x07 .accepted 0
                  { u with
                    iu := { s.iu with pass := .locating, tracker := { s.iu.tracker with complete := true } }
                    fl := { s.fl with
                      profile := s.fl.profile ++ [e]
                      locating := some ⟨s.fl.profile ++ [e], p, r, s.cu.effIrFloor⟩ } }) t)
      ∧ ∀ w unit : IntakeUnit, s.iu.pass = .capturing →
          (∀ c, s.iu.tracker.current = some c → s.iu.tracker.complete = false → s.iu.strip ≠ none) → s.RowClosed w →
          unit = { s.iu with
            halfA := w.halfA
            halfB := w.halfB
            tracker := { s.iu.tracker with complete := s.iu.tracker.complete || s.iu.tracker.current.isSome } } →
          ((∀ v, (s.fl.slots.get v).state ≠ .active) →
            State.Settles
              (State.stageAck 0x07 .accepted 0
                { u with iu := { unit with pass := if s.iu.startQueue = [] then .planned else .draining } }) t)
          ∧ (∀ v x cut l, activeSlot s.fl.slots = some v → s.fl.slots.get v = x →
              (x.bottom - x.top + 1 ≤ x.classified ∨ unit.tracker.hasCompleted (x.top + x.classified) = false) →
              cut = decide (x.classified < x.bottom - x.top + 1) →
              l = Listing.closeAll s.cu.effMinArea v x.generation cut s.bt.openTable
                ⟨s.lw.queue, s.bt.nextSerial, 0, 0, 0⟩ →
              State.Settles
                (State.stageAck 0x07 .accepted 0
                  { u with
                    iu := { unit with pass := .draining }
                    lw := { s.lw with queue := l.queue }
                    ru := (State.countTimes unlistedBlemish l.unlisted u).ru
                    bt := { s.bt with
                      openTable := []
                      previous := []
                      nextSerial := l.nextSerial
                      frameEnd := some ⟨v, cut⟩
                      tally := { s.bt.tally with
                        closed := s.bt.tally.closed + l.closed
                        listed := s.bt.tally.listed + l.listed
                        unlisted := s.bt.tally.unlisted + l.unlisted } } }) t)
          ∧ ∀ v x, activeSlot s.fl.slots = some v → s.fl.slots.get v = x →
              x.classified < x.bottom - x.top + 1 → unit.tracker.hasCompleted (x.top + x.classified) = true →
              ∃ c w', s.ClassifiesNext w w' v x c
                ∧ State.Settles
                    (State.stageAck 0x07 .accepted 0
                      { u with iu := { unit with pass := .draining, halfA := w'.halfA, halfB := w'.halfB },
                               bt := { s.bt with classifying := some c } }) t)

/-- SET_FRAME (R80 to R82). A PLAN whose fields are good makes the slot PLANNED with the record's window, band and cleanup
state, its spans retired and its plan entry pending (R64); its clear level is the record's, or, when that is 0, the greatest
Ir of the window's survey rows that the profile holds, 0 when it holds none. A RELEASE of slot 0 to 7 makes the slot VACANT
with its entry NONE (R63). A bad field changes nothing. -/
def Obligations.SetFrame : Prop :=
  ∀ (s u : State) (m : Memory), u = { s with cu := { s.cu with posted := none } } → m = s.cu.shadow →
    (s.TakesPost .setFramePlan → s.iu.pass ∈ [.stripOpen, .planned] → ∃ t, exec .setFramePlan s = .next t
      ∧ (∀ o, firstBad (setFramePlanChecks s.mc.size s.iu.strip s.fl.slots m) = some o →
          State.Settles (u.stageAck 0x05 .refusedMalformed (BitVec.ofNat 32 o)) t)
      ∧ ∀ (v : SlotId) (r : StripRecord) (cleanup : CleanupState), v.val = (m.read 0).toNat → s.iu.strip = some r →
          cleanup = (if m.read 0x01E = 0 then .full else if m.read 0x01E = 1 then .denseOnly
            else if m.read 0x01E = 2 then .off else .opaqueFilm) →
          firstBad (setFramePlanChecks s.mc.size s.iu.strip s.fl.slots m) = none →
          ∃ clear,
            State.Settles
              (State.stageAck 0x05 .done 0
                { u with
                  bt := { s.bt with spans := s.bt.spans.filter fun sp => decide (sp.slot ≠ v) }
                  fl := { s.fl with
                    slots := s.fl.slots.set v.val
                      { state := .planned, generation := s.fl.generation, top := m.read32 0x004, bottom := m.read32 0x008,
                        left := m.read16 0x00C, right := m.read16 0x00E, bandBase := m.read32 0x010,
                        bandLines := m.read16 0x014, bandPitch := m.read32 0x018, clearLevel := clear,
                        cleanup := cleanup, dx := r.dx, newest := none, classified := 0, partialFrame := false,
                        splitFrame := false, cut := false }
                    planPending := s.fl.planPending.set v.val
                      (some (.planned ⟨.setFrame, s.fl.generation, m.read32 0x004, m.read32 0x008, m.read16 0x00C,
                        m.read16 0x00E, m.read32 0x010, m.read16 0x014, m.read32 0x018, clear, cleanup, false, false,
                        none⟩)) } }) t
            ∧ (m.read16 0x01C ≠ 0 → clear = m.read16 0x01C)
            ∧ (m.read16 0x01C = 0 → s.fl.profile.length ≤ m.read32 0x004 * r.ks / r.kc → clear = 0)
            ∧ (m.read16 0x01C = 0 → m.read32 0x004 * r.ks / r.kc < s.fl.profile.length →
                (∃ i e, m.read32 0x004 * r.ks / r.kc ≤ i ∧ i ≤ m.read32 0x008 * r.ks / r.kc ∧ s.fl.profile[i]? = some e
                    ∧ e.ir = clear)
                ∧ ∀ i e, m.read32 0x004 * r.ks / r.kc ≤ i → i ≤ m.read32 0x008 * r.ks / r.kc →
                    s.fl.profile[i]? = some e → e.ir ≤ clear))
    ∧ (s.TakesPost .setFrameRelease → s.iu.pass ∈ [.stripOpen, .planned, .stripClosed] →
      ∃ t, exec .setFrameRelease s = .next t
        ∧ (7 < (m.read 0).toNat → State.Settles (u.stageAck 0x05 .refusedMalformed 0) t)
        ∧ ∀ v : SlotId, v.val = (m.read 0).toNat →
            State.Settles
              (State.stageAck 0x05 .done 0
                { u with
                  bt := { s.bt with spans := s.bt.spans.filter fun sp => decide (sp.slot ≠ v) }
                  fl := { s.fl with slots := s.fl.slots.set v.val Slot.vacantValues,
                                    planPending := s.fl.planPending.set v.val (some .none) } }) t)

/-- CLOSE_STRIP during a classification, or with one pending already, is ACCEPTED and pending (R35, R59). Else it takes
effect at once, DONE (R60): PLANNED slots become VACANT with their spans, and the strip, IU's state, the overrides, the profile
and the locate parameters are gone. An ACTIVE slot with no frame end in flight begins its frame end before that, with CUT unless
every row is classified: its open blemishes close in their order, each record listed or counted in UNLISTED_BLEMISH (R116 to
R118, R120), and the slot stays ACTIVE. That several such counts are raises by one is the model's choice (log 32). -/
def Obligations.CloseStrip : Prop :=
  ∀ (s u : State), u = { s with cu := { s.cu with posted := none } } → s.TakesPost .closeStrip →
    s.iu.pass ≠ .stripClosed → (∀ a, s.upstream = some a → a.phase = .serving) →
    ∃ t, exec .closeStrip s = .next t
      ∧ ((s.bt.classifying ≠ none ∨ s.bt.closePending = true) →
          State.Settles (State.stageAck 0x08 .accepted 0 { u with bt := { s.bt with closePending := true } }) t)
      ∧ (s.bt.classifying = none → s.bt.closePending = false →
          ((s.bt.frameEnd ≠ none ∨ ∀ v, (s.fl.slots.get v).state ≠ .active) → ∃ slots,
            State.Settles
              (State.stageAck 0x08 .done 0
                { u with
                  iu := ⟨.stripClosed, none, none, ⟨none, 0, false, false, 0, 0⟩, ⟨.empty, 0, 0, [], 0⟩,
                    ⟨.empty, 0, 0, [], 0⟩, []⟩
                  cu := { u.cu with overrides := ⟨none, none, none, none, none⟩ }
                  fl := { s.fl with slots := slots, profile := [], params := none, locating := none }
                  bt := { s.bt with
                    spans := s.bt.spans.filter fun sp => decide ((s.fl.slots.get sp.slot).state ≠ .planned) } }) t
            ∧ ∀ v : SlotId, slots.get v =
                if (s.fl.slots.get v).state = .planned then Slot.vacantValues else s.fl.slots.get v)
          ∧ ∀ v x cut l, s.bt.frameEnd = none → activeSlot s.fl.slots = some v → s.fl.slots.get v = x →
              cut = decide (x.classified < x.height) →
              l = Listing.closeAll s.cu.effMinArea v x.generation cut s.bt.openTable
                ⟨s.lw.queue, s.bt.nextSerial, 0, 0, 0⟩ →
              ∃ slots,
                State.Settles
                  (State.stageAck 0x08 .done 0
                    { u with
                      iu := ⟨.stripClosed, none, none, ⟨none, 0, false, false, 0, 0⟩, ⟨.empty, 0, 0, [], 0⟩,
                        ⟨.empty, 0, 0, [], 0⟩, []⟩
                      cu := { u.cu with overrides := ⟨none, none, none, none, none⟩ }
                      fl := { s.fl with slots := slots, profile := [], params := none, locating := none }
                      lw := { s.lw with queue := l.queue }
                      ru := (State.countTimes unlistedBlemish l.unlisted u).ru
                      bt := { s.bt with
                        spans := s.bt.spans.filter fun sp => decide ((s.fl.slots.get sp.slot).state ≠ .planned)
                        openTable := []
                        previous := []
                        nextSerial := l.nextSerial
                        frameEnd := some ⟨v, cut⟩
                        tally := { s.bt.tally with
                          closed := s.bt.tally.closed + l.closed
                          listed := s.bt.tally.listed + l.listed
                          unlisted := s.bt.tally.unlisted + l.unlisted } } }) t
                ∧ ∀ y : SlotId, slots.get y =
                    if (s.fl.slots.get y).state = .planned then Slot.vacantValues else s.fl.slots.get y)

/-- RESTART during a classification is pending and takes a pending CLOSE_STRIP's place (R33). Else it takes effect at once
(R34): every block takes the values of the table, the ring counts, the settings, the column mend list and memory are kept,
and its ACK, DONE with STRIP_CLOSED and an unlocked record, is the first report staged. -/
def Obligations.Restart : Prop :=
  ∀ (s u : State), u = { s with cu := { s.cu with posted := none } } → s.TakesPost .restart →
    (∀ a, s.upstream = some a → a.phase = .serving) →
    ∃ t, exec .restart s = .next t
      ∧ (s.bt.classifying ≠ none →
          State.Settles { u with bt := { s.bt with restartPending := true, closePending := false } } t)
      ∧ (s.bt.classifying = none → ∀ ru,
          ru = { s.ru with
            staging := []
            lost := false
            attention := false
            timer := if s.cu.standing.attentionMode = .take ∧ s.ru.produced ≠ s.ru.taken
                ∧ s.cu.standing.coalesceTime ≠ 0 then some 0 else none
            ackThrough := if s.cu.standing.attentionMode = .read then s.ru.produced else s.ru.ackThrough
            counters := Vector.replicate 14 0 } →
          State.Settles
            (State.stage (.ack 0x0E .done .stripClosed false 0)
              { u with
                fault := ⟨false, .unbacked, 0, .read, 0, .stripClosed, none⟩
                cu := { u.cu with shadow := [], overrides := ⟨none, none, none, none, none⟩ }
                iu := ⟨.stripClosed, none, none, ⟨none, 0, false, false, 0, 0⟩, ⟨.empty, 0, 0, [], 0⟩,
                  ⟨.empty, 0, 0, [], 0⟩, []⟩
                fl := ⟨Vector.replicate 8 Slot.vacantValues, 0, [], none, Vector.replicate 8 none, none⟩
                bt := ⟨[], [], [], 0, some 1, ⟨0, 0, 0, 0, 0, 0, 0, 0⟩, none, none, false, false⟩
                lw := ⟨[], .unchained, none, none, 0, none, none, false⟩
                ru := ru
                mc := { s.mc with passedReport := 0, passedList := 0, promoReport := false, promoList := false } }) t)

/-- CHAIN with a usable head makes it the current descriptor, still to be loaded; an unusable head raises DESCRIPTOR_REJECTED
and leaves the writer UNCHAINED; both are DONE (R35, R155). That the copies, filled count and serials stay as they stand until
the load is DEDUCED (log 33). CHAIN with head 0 detaches: a FILLING descriptor is closed
DETACHED with its filled count and serials, nothing else is written, and the queue stays (R162). -/
def Obligations.ChainCommands : Prop :=
  ∀ (s u : State) (head : Nat), u = { s with cu := { s.cu with posted := none } } → head = s.cu.shadow.read32 0 →
    (s.TakesPost .chain → s.lw.state = .unchained → ∃ t, exec .chain s = .next t
      ∧ (head % 32 = 0 → head < s.mc.size →
          State.Settles
            (State.stageAck 0x0A .done 0
              { u with lw := { s.lw with state := .loading, current := some head, rejectPending := false } }) t)
      ∧ ((head % 32 ≠ 0 ∨ s.mc.size ≤ head) →
          State.Settles
            (State.stageAck 0x0A .done 0
              (u.raiseFault ⟨false, .descriptorRejected, BitVec.ofNat 32 head, .command, 0, s.iu.pass, none⟩)) t))
    ∧ (s.TakesPost .chainDetach → s.lw.state ≠ .unchained → ∀ a, s.lw.current = some a →
      ∃ t, exec .chainDetach s = .next t
        ∧ State.Settles
            (State.stageAck 0x0A .done 0
              { u with mem := t.mem, lw := ⟨s.lw.queue, .unchained, none, none, 0, none, none, false⟩ }) t
        ∧ (s.lw.state ≠ .filling → t.mem = s.mem)
        ∧ (s.lw.state = .filling →
            s.mem.Holds t.mem (a + 0x0C) (le32 s.lw.filled ++ [3, 0xFF, 0, 0] ++ le32 (s.lw.firstSerial.getD 0)
              ++ le32 (s.lw.lastSerial.getD 0))))

/-- PROBE_SPAN answers with the one span of its slot and row that holds its column, or 0; a slot above 7 is malformed
(R124). PUBLISH_COUNTERS stages the counters and the mask, and clears the counters when the report joins the queue (R182).
CLEAR_FAULT unlocks the record, whose fields stay, before its ACK (R17). -/
def Obligations.LookupsAndClears : Prop :=
  ∀ (s u : State) (m : Memory), u = { s with cu := { s.cu with posted := none } } → m = s.cu.shadow →
    (s.TakesPost .probeSpan → ∃ t, exec .probeSpan s = .next t
      ∧ (7 < (m.read 0).toNat → State.Settles (u.stageAck 0x0B .refusedMalformed 0) t)
      ∧ ∀ (v : SlotId) (holds : Span → Prop), v.val = (m.read 0).toNat →
          (∀ sp, holds sp ↔ sp ∈ s.bt.spans ∧ sp.slot = v ∧ sp.row = m.read32 4 ∧ sp.start ≤ m.read16 8
            ∧ m.read16 8 ≤ sp.stop) →
          ((∀ sp, ¬holds sp) → State.Settles (u.stageAck 0x0B .done 0) t)
          ∧ ∀ sp, holds sp → (∀ sp', holds sp' → sp' = sp) → sp.start < 8192 → sp.stop < 8192 →
              State.Settles
                (u.stageAck 0x0B .done
                  (BitVec.ofNat 32 (sp.start + 65536 * sp.stop + (if sp.wide then 0x40000000 else 0) + 0x80000000))) t)
    ∧ (s.TakesPost .publishCounters → s.ru.ringFull s.cu.standing.slotCount = false →
      ∃ t, exec .publishCounters s = .next t
        ∧ (s.ru.staging.length < 8 →
            State.Settles
              (State.stageAck 0x0C .done 0
                { u with ru := { s.ru with
                    staging := s.ru.staging ++ [.counters none s.ru.counters s.cu.standing.countMask]
                    counters := Vector.replicate 14 0 } }) t)
        ∧ (s.ru.staging.length = 8 → s.cu.standing.countMask.getLsbD 9 = false → s.ru.counters.get 9 ≠ 49151 →
            State.Settles
              (State.stageAck 0x0C .done 0
                { u with ru := { s.ru with
                    lost := true
                    counters := s.ru.counters.set 9 (s.ru.counters.get 9 + 1) } }) t))
    ∧ (s.TakesPost .clearFault → ∃ t, exec .clearFault s = .next t
      ∧ State.Settles (State.stageAck 0x0D .done 0 { u with fault := { s.fault with locked := false } }) t)
end

