-- ==== Sys2Proof/Laws/State.lean ====
section
/-! SUPPORT. The frames of the named updates: one lemma for each field an update leaves as it was. -/

namespace Sys2Proof.Machine

@[simp] theorem State.setSlot_fault (v : SlotId) (x : Slot) (s : State) : (State.setSlot v x s).fault = s.fault := rfl
@[simp] theorem State.setSlot_upstream (v : SlotId) (x : Slot) (s : State) : (State.setSlot v x s).upstream = s.upstream :=
  rfl
@[simp] theorem State.setSlot_completion (v : SlotId) (x : Slot) (s : State) : (State.setSlot v x s).completion = s.completion :=
  rfl
@[simp] theorem State.setSlot_cu (v : SlotId) (x : Slot) (s : State) : (State.setSlot v x s).cu = s.cu := rfl
@[simp] theorem State.setSlot_iu (v : SlotId) (x : Slot) (s : State) : (State.setSlot v x s).iu = s.iu := rfl
@[simp] theorem State.setSlot_bt (v : SlotId) (x : Slot) (s : State) : (State.setSlot v x s).bt = s.bt := rfl
@[simp] theorem State.setSlot_lw (v : SlotId) (x : Slot) (s : State) : (State.setSlot v x s).lw = s.lw := rfl
@[simp] theorem State.setSlot_ru (v : SlotId) (x : Slot) (s : State) : (State.setSlot v x s).ru = s.ru := rfl
@[simp] theorem State.setSlot_mc (v : SlotId) (x : Slot) (s : State) : (State.setSlot v x s).mc = s.mc := rfl
@[simp] theorem State.setSlot_mem (v : SlotId) (x : Slot) (s : State) : (State.setSlot v x s).mem = s.mem := rfl
@[simp] theorem State.setSlot_pending (v : SlotId) (x : Slot) (s : State) : (State.setSlot v x s).pending = s.pending :=
  rfl
@[simp] theorem State.retireSlot_fault (v : SlotId) (s : State) : (State.retireSlot v s).fault = s.fault := rfl
@[simp] theorem State.retireSlot_upstream (v : SlotId) (s : State) : (State.retireSlot v s).upstream = s.upstream :=
  rfl
@[simp] theorem State.retireSlot_completion (v : SlotId) (s : State) : (State.retireSlot v s).completion = s.completion :=
  rfl
@[simp] theorem State.retireSlot_cu (v : SlotId) (s : State) : (State.retireSlot v s).cu = s.cu := rfl
@[simp] theorem State.retireSlot_iu (v : SlotId) (s : State) : (State.retireSlot v s).iu = s.iu := rfl
@[simp] theorem State.retireSlot_fl (v : SlotId) (s : State) : (State.retireSlot v s).fl = s.fl := rfl
@[simp] theorem State.retireSlot_lw (v : SlotId) (s : State) : (State.retireSlot v s).lw = s.lw := rfl
@[simp] theorem State.retireSlot_ru (v : SlotId) (s : State) : (State.retireSlot v s).ru = s.ru := rfl
@[simp] theorem State.retireSlot_mc (v : SlotId) (s : State) : (State.retireSlot v s).mc = s.mc := rfl
@[simp] theorem State.retireSlot_mem (v : SlotId) (s : State) : (State.retireSlot v s).mem = s.mem := rfl
@[simp] theorem State.retireSlot_pending (v : SlotId) (s : State) : (State.retireSlot v s).pending = s.pending := rfl
@[simp] theorem State.setPlanPending_fault (v : SlotId) (e : PlanEntry) (s : State) : (State.setPlanPending v e s).fault = s.fault :=
  rfl
@[simp] theorem State.setPlanPending_upstream (v : SlotId) (e : PlanEntry) (s : State) : (State.setPlanPending v e s).upstream = s.upstream :=
  rfl
@[simp] theorem State.setPlanPending_completion (v : SlotId) (e : PlanEntry) (s : State) : (State.setPlanPending v e s).completion = s.completion :=
  rfl
@[simp] theorem State.setPlanPending_cu (v : SlotId) (e : PlanEntry) (s : State) : (State.setPlanPending v e s).cu = s.cu :=
  rfl
@[simp] theorem State.setPlanPending_iu (v : SlotId) (e : PlanEntry) (s : State) : (State.setPlanPending v e s).iu = s.iu :=
  rfl
@[simp] theorem State.setPlanPending_bt (v : SlotId) (e : PlanEntry) (s : State) : (State.setPlanPending v e s).bt = s.bt :=
  rfl
@[simp] theorem State.setPlanPending_lw (v : SlotId) (e : PlanEntry) (s : State) : (State.setPlanPending v e s).lw = s.lw :=
  rfl
@[simp] theorem State.setPlanPending_ru (v : SlotId) (e : PlanEntry) (s : State) : (State.setPlanPending v e s).ru = s.ru :=
  rfl
@[simp] theorem State.setPlanPending_mc (v : SlotId) (e : PlanEntry) (s : State) : (State.setPlanPending v e s).mc = s.mc :=
  rfl
@[simp] theorem State.setPlanPending_mem (v : SlotId) (e : PlanEntry) (s : State) : (State.setPlanPending v e s).mem = s.mem :=
  rfl
@[simp] theorem State.setPlanPending_pending (v : SlotId) (e : PlanEntry) (s : State) : (State.setPlanPending v e s).pending = s.pending :=
  rfl
@[simp] theorem State.vacateSlot_fault (v : SlotId) (s : State) : (State.vacateSlot v s).fault = s.fault := rfl
@[simp] theorem State.vacateSlot_upstream (v : SlotId) (s : State) : (State.vacateSlot v s).upstream = s.upstream :=
  rfl
@[simp] theorem State.vacateSlot_completion (v : SlotId) (s : State) : (State.vacateSlot v s).completion = s.completion :=
  rfl
@[simp] theorem State.vacateSlot_cu (v : SlotId) (s : State) : (State.vacateSlot v s).cu = s.cu := rfl
@[simp] theorem State.vacateSlot_iu (v : SlotId) (s : State) : (State.vacateSlot v s).iu = s.iu := rfl
@[simp] theorem State.vacateSlot_lw (v : SlotId) (s : State) : (State.vacateSlot v s).lw = s.lw := rfl
@[simp] theorem State.vacateSlot_ru (v : SlotId) (s : State) : (State.vacateSlot v s).ru = s.ru := rfl
@[simp] theorem State.vacateSlot_mc (v : SlotId) (s : State) : (State.vacateSlot v s).mc = s.mc := rfl
@[simp] theorem State.vacateSlot_mem (v : SlotId) (s : State) : (State.vacateSlot v s).mem = s.mem := rfl
@[simp] theorem State.vacateSlot_pending (v : SlotId) (s : State) : (State.vacateSlot v s).pending = s.pending := rfl
@[simp] theorem State.releaseSlot_fault (v : SlotId) (s : State) : (State.releaseSlot v s).fault = s.fault := rfl
@[simp] theorem State.releaseSlot_upstream (v : SlotId) (s : State) : (State.releaseSlot v s).upstream = s.upstream :=
  rfl
@[simp] theorem State.releaseSlot_completion (v : SlotId) (s : State) : (State.releaseSlot v s).completion = s.completion :=
  rfl
@[simp] theorem State.releaseSlot_cu (v : SlotId) (s : State) : (State.releaseSlot v s).cu = s.cu := rfl
@[simp] theorem State.releaseSlot_iu (v : SlotId) (s : State) : (State.releaseSlot v s).iu = s.iu := rfl
@[simp] theorem State.releaseSlot_lw (v : SlotId) (s : State) : (State.releaseSlot v s).lw = s.lw := rfl
@[simp] theorem State.releaseSlot_ru (v : SlotId) (s : State) : (State.releaseSlot v s).ru = s.ru := rfl
@[simp] theorem State.releaseSlot_mc (v : SlotId) (s : State) : (State.releaseSlot v s).mc = s.mc := rfl
@[simp] theorem State.releaseSlot_mem (v : SlotId) (s : State) : (State.releaseSlot v s).mem = s.mem := rfl
@[simp] theorem State.releaseSlot_pending (v : SlotId) (s : State) : (State.releaseSlot v s).pending = s.pending :=
  rfl
@[simp] theorem State.planSlot_fault (v : SlotId) (p : SlotPlan) (s : State) : (State.planSlot v p s).fault = s.fault :=
  rfl
@[simp] theorem State.planSlot_upstream (v : SlotId) (p : SlotPlan) (s : State) : (State.planSlot v p s).upstream = s.upstream :=
  rfl
@[simp] theorem State.planSlot_completion (v : SlotId) (p : SlotPlan) (s : State) : (State.planSlot v p s).completion = s.completion :=
  rfl
@[simp] theorem State.planSlot_cu (v : SlotId) (p : SlotPlan) (s : State) : (State.planSlot v p s).cu = s.cu := rfl
@[simp] theorem State.planSlot_iu (v : SlotId) (p : SlotPlan) (s : State) : (State.planSlot v p s).iu = s.iu := rfl
@[simp] theorem State.planSlot_lw (v : SlotId) (p : SlotPlan) (s : State) : (State.planSlot v p s).lw = s.lw := rfl
@[simp] theorem State.planSlot_ru (v : SlotId) (p : SlotPlan) (s : State) : (State.planSlot v p s).ru = s.ru := rfl
@[simp] theorem State.planSlot_mc (v : SlotId) (p : SlotPlan) (s : State) : (State.planSlot v p s).mc = s.mc := rfl
@[simp] theorem State.planSlot_mem (v : SlotId) (p : SlotPlan) (s : State) : (State.planSlot v p s).mem = s.mem := rfl
@[simp] theorem State.planSlot_pending (v : SlotId) (p : SlotPlan) (s : State) : (State.planSlot v p s).pending = s.pending :=
  rfl
@[simp] theorem State.drainRing_fault (s : State) : (State.drainRing s).fault = s.fault := rfl
@[simp] theorem State.drainRing_upstream (s : State) : (State.drainRing s).upstream = s.upstream := rfl
@[simp] theorem State.drainRing_completion (s : State) : (State.drainRing s).completion = s.completion := rfl
@[simp] theorem State.drainRing_cu (s : State) : (State.drainRing s).cu = s.cu := rfl
@[simp] theorem State.drainRing_iu (s : State) : (State.drainRing s).iu = s.iu := rfl
@[simp] theorem State.drainRing_fl (s : State) : (State.drainRing s).fl = s.fl := rfl
@[simp] theorem State.drainRing_bt (s : State) : (State.drainRing s).bt = s.bt := rfl
@[simp] theorem State.drainRing_lw (s : State) : (State.drainRing s).lw = s.lw := rfl
@[simp] theorem State.drainRing_mc (s : State) : (State.drainRing s).mc = s.mc := rfl
@[simp] theorem State.drainRing_mem (s : State) : (State.drainRing s).mem = s.mem := rfl
@[simp] theorem State.drainRing_pending (s : State) : (State.drainRing s).pending = s.pending := rfl
@[simp] theorem State.stage_fault (x : Report) (s : State) : (State.stage x s).fault = s.fault := rfl
@[simp] theorem State.stage_upstream (x : Report) (s : State) : (State.stage x s).upstream = s.upstream := rfl
@[simp] theorem State.stage_completion (x : Report) (s : State) : (State.stage x s).completion = s.completion := rfl
@[simp] theorem State.stage_cu (x : Report) (s : State) : (State.stage x s).cu = s.cu := rfl
@[simp] theorem State.stage_iu (x : Report) (s : State) : (State.stage x s).iu = s.iu := rfl
@[simp] theorem State.stage_fl (x : Report) (s : State) : (State.stage x s).fl = s.fl := rfl
@[simp] theorem State.stage_bt (x : Report) (s : State) : (State.stage x s).bt = s.bt := rfl
@[simp] theorem State.stage_lw (x : Report) (s : State) : (State.stage x s).lw = s.lw := rfl
@[simp] theorem State.stage_mc (x : Report) (s : State) : (State.stage x s).mc = s.mc := rfl
@[simp] theorem State.stage_mem (x : Report) (s : State) : (State.stage x s).mem = s.mem := rfl
@[simp] theorem State.stage_pending (x : Report) (s : State) : (State.stage x s).pending = s.pending := rfl
@[simp] theorem State.stageAck_fault (k : Byte) (o : AckOutcome) (d : Word) (s : State) : (State.stageAck k o d s).fault = s.fault :=
  rfl
@[simp] theorem State.stageAck_upstream (k : Byte) (o : AckOutcome) (d : Word) (s : State) : (State.stageAck k o d s).upstream = s.upstream :=
  rfl
@[simp] theorem State.stageAck_completion (k : Byte) (o : AckOutcome) (d : Word) (s : State) : (State.stageAck k o d s).completion = s.completion :=
  rfl
@[simp] theorem State.stageAck_cu (k : Byte) (o : AckOutcome) (d : Word) (s : State) : (State.stageAck k o d s).cu = s.cu :=
  rfl
@[simp] theorem State.stageAck_iu (k : Byte) (o : AckOutcome) (d : Word) (s : State) : (State.stageAck k o d s).iu = s.iu :=
  rfl
@[simp] theorem State.stageAck_fl (k : Byte) (o : AckOutcome) (d : Word) (s : State) : (State.stageAck k o d s).fl = s.fl :=
  rfl
@[simp] theorem State.stageAck_bt (k : Byte) (o : AckOutcome) (d : Word) (s : State) : (State.stageAck k o d s).bt = s.bt :=
  rfl
@[simp] theorem State.stageAck_lw (k : Byte) (o : AckOutcome) (d : Word) (s : State) : (State.stageAck k o d s).lw = s.lw :=
  rfl
@[simp] theorem State.stageAck_mc (k : Byte) (o : AckOutcome) (d : Word) (s : State) : (State.stageAck k o d s).mc = s.mc :=
  rfl
@[simp] theorem State.stageAck_mem (k : Byte) (o : AckOutcome) (d : Word) (s : State) : (State.stageAck k o d s).mem = s.mem :=
  rfl
@[simp] theorem State.stageAck_pending (k : Byte) (o : AckOutcome) (d : Word) (s : State) : (State.stageAck k o d s).pending = s.pending :=
  rfl
@[simp] theorem State.activate_fault (v : SlotId) (s : State) : (State.activate v s).fault = s.fault := rfl
@[simp] theorem State.activate_upstream (v : SlotId) (s : State) : (State.activate v s).upstream = s.upstream := rfl
@[simp] theorem State.activate_completion (v : SlotId) (s : State) : (State.activate v s).completion = s.completion :=
  rfl
@[simp] theorem State.activate_cu (v : SlotId) (s : State) : (State.activate v s).cu = s.cu := rfl
@[simp] theorem State.activate_iu (v : SlotId) (s : State) : (State.activate v s).iu = s.iu := rfl
@[simp] theorem State.activate_lw (v : SlotId) (s : State) : (State.activate v s).lw = s.lw := rfl
@[simp] theorem State.activate_ru (v : SlotId) (s : State) : (State.activate v s).ru = s.ru := rfl
@[simp] theorem State.activate_mc (v : SlotId) (s : State) : (State.activate v s).mc = s.mc := rfl
@[simp] theorem State.activate_mem (v : SlotId) (s : State) : (State.activate v s).mem = s.mem := rfl
@[simp] theorem State.activate_pending (v : SlotId) (s : State) : (State.activate v s).pending = s.pending := rfl
@[simp] theorem State.beginClassification_fault (v : SlotId) (y : Nat) (s : State) : (State.beginClassification v y s).fault = s.fault :=
  rfl
@[simp] theorem State.beginClassification_upstream (v : SlotId) (y : Nat) (s : State) : (State.beginClassification v y s).upstream = s.upstream :=
  rfl
@[simp] theorem State.beginClassification_completion (v : SlotId) (y : Nat) (s : State) : (State.beginClassification v y s).completion = s.completion :=
  rfl
@[simp] theorem State.beginClassification_cu (v : SlotId) (y : Nat) (s : State) : (State.beginClassification v y s).cu = s.cu :=
  rfl
@[simp] theorem State.beginClassification_fl (v : SlotId) (y : Nat) (s : State) : (State.beginClassification v y s).fl = s.fl :=
  rfl
@[simp] theorem State.beginClassification_lw (v : SlotId) (y : Nat) (s : State) : (State.beginClassification v y s).lw = s.lw :=
  rfl
@[simp] theorem State.beginClassification_ru (v : SlotId) (y : Nat) (s : State) : (State.beginClassification v y s).ru = s.ru :=
  rfl
@[simp] theorem State.beginClassification_mc (v : SlotId) (y : Nat) (s : State) : (State.beginClassification v y s).mc = s.mc :=
  rfl
@[simp] theorem State.beginClassification_mem (v : SlotId) (y : Nat) (s : State) : (State.beginClassification v y s).mem = s.mem :=
  rfl
@[simp] theorem State.beginClassification_pending (v : SlotId) (y : Nat) (s : State) : (State.beginClassification v y s).pending = s.pending :=
  rfl
@[simp] theorem State.emptyHalf_fault (k : Classification) (s : State) : (State.emptyHalf k s).fault = s.fault := rfl
@[simp] theorem State.emptyHalf_upstream (k : Classification) (s : State) : (State.emptyHalf k s).upstream = s.upstream :=
  rfl
@[simp] theorem State.emptyHalf_completion (k : Classification) (s : State) : (State.emptyHalf k s).completion = s.completion :=
  rfl
@[simp] theorem State.emptyHalf_cu (k : Classification) (s : State) : (State.emptyHalf k s).cu = s.cu := rfl
@[simp] theorem State.emptyHalf_fl (k : Classification) (s : State) : (State.emptyHalf k s).fl = s.fl := rfl
@[simp] theorem State.emptyHalf_lw (k : Classification) (s : State) : (State.emptyHalf k s).lw = s.lw := rfl
@[simp] theorem State.emptyHalf_ru (k : Classification) (s : State) : (State.emptyHalf k s).ru = s.ru := rfl
@[simp] theorem State.emptyHalf_mc (k : Classification) (s : State) : (State.emptyHalf k s).mc = s.mc := rfl
@[simp] theorem State.emptyHalf_mem (k : Classification) (s : State) : (State.emptyHalf k s).mem = s.mem := rfl
@[simp] theorem State.emptyHalf_pending (k : Classification) (s : State) : (State.emptyHalf k s).pending = s.pending :=
  rfl
@[simp] theorem State.storeSurvey_fault (r : StripRecord) (p : IntakePlace) (b : Beat) (s : State) : (State.storeSurvey r p b s).fault = s.fault :=
  rfl
@[simp] theorem State.storeSurvey_upstream (r : StripRecord) (p : IntakePlace) (b : Beat) (s : State) : (State.storeSurvey r p b s).upstream = s.upstream :=
  rfl
@[simp] theorem State.storeSurvey_completion (r : StripRecord) (p : IntakePlace) (b : Beat) (s : State) : (State.storeSurvey r p b s).completion = s.completion :=
  rfl
@[simp] theorem State.storeSurvey_cu (r : StripRecord) (p : IntakePlace) (b : Beat) (s : State) : (State.storeSurvey r p b s).cu = s.cu :=
  rfl
@[simp] theorem State.storeSurvey_iu (r : StripRecord) (p : IntakePlace) (b : Beat) (s : State) : (State.storeSurvey r p b s).iu = s.iu :=
  rfl
@[simp] theorem State.storeSurvey_fl (r : StripRecord) (p : IntakePlace) (b : Beat) (s : State) : (State.storeSurvey r p b s).fl = s.fl :=
  rfl
@[simp] theorem State.storeSurvey_bt (r : StripRecord) (p : IntakePlace) (b : Beat) (s : State) : (State.storeSurvey r p b s).bt = s.bt :=
  rfl
@[simp] theorem State.storeSurvey_lw (r : StripRecord) (p : IntakePlace) (b : Beat) (s : State) : (State.storeSurvey r p b s).lw = s.lw :=
  rfl
@[simp] theorem State.storeSurvey_ru (r : StripRecord) (p : IntakePlace) (b : Beat) (s : State) : (State.storeSurvey r p b s).ru = s.ru :=
  rfl
@[simp] theorem State.storeSurvey_mc (r : StripRecord) (p : IntakePlace) (b : Beat) (s : State) : (State.storeSurvey r p b s).mc = s.mc :=
  rfl
@[simp] theorem State.storeSurvey_pending (r : StripRecord) (p : IntakePlace) (b : Beat) (s : State) : (State.storeSurvey r p b s).pending = s.pending :=
  rfl
@[simp] theorem ListWriter.goTo_queue (a : Nat) (w : ListWriter) : (ListWriter.goTo a w).queue = w.queue := rfl
@[simp] theorem ListWriter.goTo_state (a : Nat) (w : ListWriter) : (ListWriter.goTo a w).state = .loading := rfl
@[simp] theorem ListWriter.goTo_current (a : Nat) (w : ListWriter) : (ListWriter.goTo a w).current = some a := rfl
@[simp] theorem ListWriter.goTo_copy (a : Nat) (w : ListWriter) : (ListWriter.goTo a w).copy = w.copy := rfl
@[simp] theorem ListWriter.goTo_filled (a : Nat) (w : ListWriter) : (ListWriter.goTo a w).filled = w.filled := rfl
@[simp] theorem ListWriter.goTo_firstSerial (a : Nat) (w : ListWriter) : (ListWriter.goTo a w).firstSerial = w.firstSerial := rfl
@[simp] theorem ListWriter.goTo_lastSerial (a : Nat) (w : ListWriter) : (ListWriter.goTo a w).lastSerial = w.lastSerial := rfl
@[simp] theorem ListWriter.goTo_rejectPending (a : Nat) (w : ListWriter) : (ListWriter.goTo a w).rejectPending = false := rfl
@[simp] theorem ListWriter.stall_queue (w : ListWriter) : (ListWriter.stall w).queue = w.queue := rfl
@[simp] theorem ListWriter.stall_state (w : ListWriter) : (ListWriter.stall w).state = .stalled := rfl
@[simp] theorem ListWriter.stall_current (w : ListWriter) : (ListWriter.stall w).current = w.current := rfl
@[simp] theorem ListWriter.stall_copy (w : ListWriter) : (ListWriter.stall w).copy = w.copy := rfl
@[simp] theorem ListWriter.stall_filled (w : ListWriter) : (ListWriter.stall w).filled = w.filled := rfl
@[simp] theorem ListWriter.stall_firstSerial (w : ListWriter) : (ListWriter.stall w).firstSerial = w.firstSerial := rfl
@[simp] theorem ListWriter.stall_lastSerial (w : ListWriter) : (ListWriter.stall w).lastSerial = w.lastSerial := rfl
@[simp] theorem ListWriter.stall_rejectPending (w : ListWriter) : (ListWriter.stall w).rejectPending = false := rfl

@[simp] theorem State.writeCloseBytes_fault (bs : List Byte) (s : State) : (State.writeCloseBytes bs s).fault = s.fault := rfl
@[simp] theorem State.writeCloseBytes_upstream (bs : List Byte) (s : State) : (State.writeCloseBytes bs s).upstream = s.upstream := rfl
@[simp] theorem State.writeCloseBytes_completion (bs : List Byte) (s : State) : (State.writeCloseBytes bs s).completion = s.completion := rfl
@[simp] theorem State.writeCloseBytes_cu (bs : List Byte) (s : State) : (State.writeCloseBytes bs s).cu = s.cu := rfl
@[simp] theorem State.writeCloseBytes_iu (bs : List Byte) (s : State) : (State.writeCloseBytes bs s).iu = s.iu := rfl
@[simp] theorem State.writeCloseBytes_fl (bs : List Byte) (s : State) : (State.writeCloseBytes bs s).fl = s.fl := rfl
@[simp] theorem State.writeCloseBytes_bt (bs : List Byte) (s : State) : (State.writeCloseBytes bs s).bt = s.bt := rfl
@[simp] theorem State.writeCloseBytes_lw (bs : List Byte) (s : State) : (State.writeCloseBytes bs s).lw = s.lw := rfl
@[simp] theorem State.writeCloseBytes_ru (bs : List Byte) (s : State) : (State.writeCloseBytes bs s).ru = s.ru := rfl
@[simp] theorem State.writeCloseBytes_mc (bs : List Byte) (s : State) : (State.writeCloseBytes bs s).mc = s.mc := rfl
@[simp] theorem State.writeCloseBytes_pending (bs : List Byte) (s : State) : (State.writeCloseBytes bs s).pending = s.pending := rfl
@[simp] theorem State.writeClose_fault (c : CloseStatus) (v : Option SlotId) (s : State) : (State.writeClose c v s).fault = s.fault :=
  rfl
@[simp] theorem State.writeClose_upstream (c : CloseStatus) (v : Option SlotId) (s : State) : (State.writeClose c v s).upstream = s.upstream :=
  rfl
@[simp] theorem State.writeClose_completion (c : CloseStatus) (v : Option SlotId) (s : State) : (State.writeClose c v s).completion = s.completion :=
  rfl
@[simp] theorem State.writeClose_cu (c : CloseStatus) (v : Option SlotId) (s : State) : (State.writeClose c v s).cu = s.cu :=
  rfl
@[simp] theorem State.writeClose_iu (c : CloseStatus) (v : Option SlotId) (s : State) : (State.writeClose c v s).iu = s.iu :=
  rfl
@[simp] theorem State.writeClose_fl (c : CloseStatus) (v : Option SlotId) (s : State) : (State.writeClose c v s).fl = s.fl :=
  rfl
@[simp] theorem State.writeClose_bt (c : CloseStatus) (v : Option SlotId) (s : State) : (State.writeClose c v s).bt = s.bt :=
  rfl
@[simp] theorem State.writeClose_lw (c : CloseStatus) (v : Option SlotId) (s : State) : (State.writeClose c v s).lw = s.lw :=
  rfl
@[simp] theorem State.writeClose_ru (c : CloseStatus) (v : Option SlotId) (s : State) : (State.writeClose c v s).ru = s.ru :=
  rfl
@[simp] theorem State.writeClose_mc (c : CloseStatus) (v : Option SlotId) (s : State) : (State.writeClose c v s).mc = s.mc :=
  rfl
@[simp] theorem State.writeClose_pending (c : CloseStatus) (v : Option SlotId) (s : State) : (State.writeClose c v s).pending = s.pending :=
  rfl
@[simp] theorem State.writeRecord_fault (r : BlemishRecord) (s : State) : (State.writeRecord r s).fault = s.fault :=
  rfl
@[simp] theorem State.writeRecord_upstream (r : BlemishRecord) (s : State) : (State.writeRecord r s).upstream = s.upstream :=
  rfl
@[simp] theorem State.writeRecord_completion (r : BlemishRecord) (s : State) : (State.writeRecord r s).completion = s.completion :=
  rfl
@[simp] theorem State.writeRecord_cu (r : BlemishRecord) (s : State) : (State.writeRecord r s).cu = s.cu := rfl
@[simp] theorem State.writeRecord_iu (r : BlemishRecord) (s : State) : (State.writeRecord r s).iu = s.iu := rfl
@[simp] theorem State.writeRecord_fl (r : BlemishRecord) (s : State) : (State.writeRecord r s).fl = s.fl := rfl
@[simp] theorem State.writeRecord_bt (r : BlemishRecord) (s : State) : (State.writeRecord r s).bt = s.bt := rfl
@[simp] theorem State.writeRecord_ru (r : BlemishRecord) (s : State) : (State.writeRecord r s).ru = s.ru := rfl
@[simp] theorem State.writeRecord_mc (r : BlemishRecord) (s : State) : (State.writeRecord r s).mc = s.mc := rfl
@[simp] theorem State.writeRecord_pending (r : BlemishRecord) (s : State) : (State.writeRecord r s).pending = s.pending :=
  rfl
@[simp] theorem State.stallOn_fault (a v : Nat) (s : State) : (State.stallOn a v s).fault = s.fault := rfl
@[simp] theorem State.stallOn_upstream (a v : Nat) (s : State) : (State.stallOn a v s).upstream = s.upstream := rfl
@[simp] theorem State.stallOn_completion (a v : Nat) (s : State) : (State.stallOn a v s).completion = s.completion :=
  rfl
@[simp] theorem State.stallOn_cu (a v : Nat) (s : State) : (State.stallOn a v s).cu = s.cu := rfl
@[simp] theorem State.stallOn_iu (a v : Nat) (s : State) : (State.stallOn a v s).iu = s.iu := rfl
@[simp] theorem State.stallOn_fl (a v : Nat) (s : State) : (State.stallOn a v s).fl = s.fl := rfl
@[simp] theorem State.stallOn_bt (a v : Nat) (s : State) : (State.stallOn a v s).bt = s.bt := rfl
@[simp] theorem State.stallOn_mc (a v : Nat) (s : State) : (State.stallOn a v s).mc = s.mc := rfl
@[simp] theorem State.stallOn_mem (a v : Nat) (s : State) : (State.stallOn a v s).mem = s.mem := rfl
@[simp] theorem State.stallOn_pending (a v : Nat) (s : State) : (State.stallOn a v s).pending = s.pending := rfl
@[simp] theorem State.detachChain_fault (s : State) : (State.detachChain s).fault = s.fault := by
  unfold State.detachChain
  cases s.lw.state <;> rfl
@[simp] theorem State.detachChain_upstream (s : State) : (State.detachChain s).upstream = s.upstream := by
  unfold State.detachChain
  cases s.lw.state <;> rfl
@[simp] theorem State.detachChain_completion (s : State) : (State.detachChain s).completion = s.completion := by
  unfold State.detachChain
  cases s.lw.state <;> rfl
@[simp] theorem State.detachChain_cu (s : State) : (State.detachChain s).cu = s.cu := by
  unfold State.detachChain
  cases s.lw.state <;> rfl
@[simp] theorem State.detachChain_iu (s : State) : (State.detachChain s).iu = s.iu := by
  unfold State.detachChain
  cases s.lw.state <;> rfl
@[simp] theorem State.detachChain_fl (s : State) : (State.detachChain s).fl = s.fl := by
  unfold State.detachChain
  cases s.lw.state <;> rfl
@[simp] theorem State.detachChain_bt (s : State) : (State.detachChain s).bt = s.bt := by
  unfold State.detachChain
  cases s.lw.state <;> rfl
@[simp] theorem State.detachChain_ru (s : State) : (State.detachChain s).ru = s.ru := by
  unfold State.detachChain
  cases s.lw.state <;> rfl
@[simp] theorem State.detachChain_mc (s : State) : (State.detachChain s).mc = s.mc := by
  unfold State.detachChain
  cases s.lw.state <;> rfl
@[simp] theorem State.detachChain_pending (s : State) : (State.detachChain s).pending = s.pending := by
  unfold State.detachChain
  cases s.lw.state <;> rfl
@[simp] theorem State.beginService_fault (s : State) : (State.beginService s).fault = s.fault := rfl
@[simp] theorem State.beginService_completion (s : State) : (State.beginService s).completion = s.completion := rfl
@[simp] theorem State.beginService_cu (s : State) : (State.beginService s).cu = s.cu := rfl
@[simp] theorem State.beginService_iu (s : State) : (State.beginService s).iu = s.iu := rfl
@[simp] theorem State.beginService_fl (s : State) : (State.beginService s).fl = s.fl := rfl
@[simp] theorem State.beginService_bt (s : State) : (State.beginService s).bt = s.bt := rfl
@[simp] theorem State.beginService_lw (s : State) : (State.beginService s).lw = s.lw := rfl
@[simp] theorem State.beginService_ru (s : State) : (State.beginService s).ru = s.ru := rfl
@[simp] theorem State.beginService_mc (s : State) : (State.beginService s).mc = s.mc := rfl
@[simp] theorem State.beginService_mem (s : State) : (State.beginService s).mem = s.mem := rfl
@[simp] theorem State.beginService_pending (s : State) : (State.beginService s).pending = s.pending := rfl
@[simp] theorem State.grantReport_fault (s : State) : (State.grantReport s).fault = s.fault := rfl
@[simp] theorem State.grantReport_upstream (s : State) : (State.grantReport s).upstream = s.upstream := rfl
@[simp] theorem State.grantReport_completion (s : State) : (State.grantReport s).completion = s.completion := rfl
@[simp] theorem State.grantReport_cu (s : State) : (State.grantReport s).cu = s.cu := rfl
@[simp] theorem State.grantReport_iu (s : State) : (State.grantReport s).iu = s.iu := rfl
@[simp] theorem State.grantReport_bt (s : State) : (State.grantReport s).bt = s.bt := rfl
@[simp] theorem State.grantReport_lw (s : State) : (State.grantReport s).lw = s.lw := rfl
@[simp] theorem State.grantReport_ru (s : State) : (State.grantReport s).ru = s.ru := rfl
@[simp] theorem State.grantReport_mem (s : State) : (State.grantReport s).mem = s.mem := rfl
@[simp] theorem State.grantReport_pending (s : State) : (State.grantReport s).pending = s.pending := rfl
@[simp] theorem State.grantRefresh_fault (s : State) : (State.grantRefresh s).fault = s.fault := rfl
@[simp] theorem State.grantRefresh_upstream (s : State) : (State.grantRefresh s).upstream = s.upstream := rfl
@[simp] theorem State.grantRefresh_completion (s : State) : (State.grantRefresh s).completion = s.completion := rfl
@[simp] theorem State.grantRefresh_cu (s : State) : (State.grantRefresh s).cu = s.cu := rfl
@[simp] theorem State.grantRefresh_iu (s : State) : (State.grantRefresh s).iu = s.iu := rfl
@[simp] theorem State.grantRefresh_fl (s : State) : (State.grantRefresh s).fl = s.fl := rfl
@[simp] theorem State.grantRefresh_bt (s : State) : (State.grantRefresh s).bt = s.bt := rfl
@[simp] theorem State.grantRefresh_lw (s : State) : (State.grantRefresh s).lw = s.lw := rfl
@[simp] theorem State.grantRefresh_ru (s : State) : (State.grantRefresh s).ru = s.ru := rfl
@[simp] theorem State.grantRefresh_mem (s : State) : (State.grantRefresh s).mem = s.mem := rfl
@[simp] theorem State.grantRefresh_pending (s : State) : (State.grantRefresh s).pending = s.pending := rfl
@[simp] theorem State.settleRequests_fault (s : State) : (State.settleRequests s).fault = s.fault := rfl
@[simp] theorem State.settleRequests_upstream (s : State) : (State.settleRequests s).upstream = s.upstream := rfl
@[simp] theorem State.settleRequests_completion (s : State) : (State.settleRequests s).completion = s.completion :=
  rfl
@[simp] theorem State.settleRequests_cu (s : State) : (State.settleRequests s).cu = s.cu := rfl
@[simp] theorem State.settleRequests_iu (s : State) : (State.settleRequests s).iu = s.iu := rfl
@[simp] theorem State.settleRequests_fl (s : State) : (State.settleRequests s).fl = s.fl := rfl
@[simp] theorem State.settleRequests_bt (s : State) : (State.settleRequests s).bt = s.bt := rfl
@[simp] theorem State.settleRequests_lw (s : State) : (State.settleRequests s).lw = s.lw := rfl
@[simp] theorem State.settleRequests_ru (s : State) : (State.settleRequests s).ru = s.ru := rfl
@[simp] theorem State.settleRequests_mem (s : State) : (State.settleRequests s).mem = s.mem := rfl
@[simp] theorem State.settleRequests_pending (s : State) : (State.settleRequests s).pending = s.pending := rfl
@[simp] theorem State.offerHeld_fault (s : State) : (State.offerHeld s).fault = s.fault := rfl
@[simp] theorem State.offerHeld_completion (s : State) : (State.offerHeld s).completion = s.completion := rfl
@[simp] theorem State.offerHeld_cu (s : State) : (State.offerHeld s).cu = s.cu := rfl
@[simp] theorem State.offerHeld_iu (s : State) : (State.offerHeld s).iu = s.iu := rfl
@[simp] theorem State.offerHeld_fl (s : State) : (State.offerHeld s).fl = s.fl := rfl
@[simp] theorem State.offerHeld_bt (s : State) : (State.offerHeld s).bt = s.bt := rfl
@[simp] theorem State.offerHeld_lw (s : State) : (State.offerHeld s).lw = s.lw := rfl
@[simp] theorem State.offerHeld_ru (s : State) : (State.offerHeld s).ru = s.ru := rfl
@[simp] theorem State.offerHeld_mc (s : State) : (State.offerHeld s).mc = s.mc := rfl
@[simp] theorem State.offerHeld_mem (s : State) : (State.offerHeld s).mem = s.mem := rfl
@[simp] theorem State.offerHeld_pending (s : State) : (State.offerHeld s).pending = s.pending := rfl
@[simp] theorem State.present_fault (r : UpstreamReq) (s : State) : (State.present r s).fault = s.fault := rfl
@[simp] theorem State.present_cu (r : UpstreamReq) (s : State) : (State.present r s).cu = s.cu := rfl
@[simp] theorem State.present_iu (r : UpstreamReq) (s : State) : (State.present r s).iu = s.iu := rfl
@[simp] theorem State.present_fl (r : UpstreamReq) (s : State) : (State.present r s).fl = s.fl := rfl
@[simp] theorem State.present_bt (r : UpstreamReq) (s : State) : (State.present r s).bt = s.bt := rfl
@[simp] theorem State.present_lw (r : UpstreamReq) (s : State) : (State.present r s).lw = s.lw := rfl
@[simp] theorem State.present_ru (r : UpstreamReq) (s : State) : (State.present r s).ru = s.ru := rfl
@[simp] theorem State.present_mc (r : UpstreamReq) (s : State) : (State.present r s).mc = s.mc := rfl
@[simp] theorem State.present_mem (r : UpstreamReq) (s : State) : (State.present r s).mem = s.mem := rfl
@[simp] theorem State.present_pending (r : UpstreamReq) (s : State) : (State.present r s).pending = s.pending := rfl
@[simp] theorem State.wordWritten_fault (h : List HandOver) (s : State) : (State.wordWritten h s).fault = s.fault :=
  rfl
@[simp] theorem State.wordWritten_completion (h : List HandOver) (s : State) : (State.wordWritten h s).completion = s.completion :=
  rfl
@[simp] theorem State.wordWritten_cu (h : List HandOver) (s : State) : (State.wordWritten h s).cu = s.cu := rfl
@[simp] theorem State.wordWritten_iu (h : List HandOver) (s : State) : (State.wordWritten h s).iu = s.iu := rfl
@[simp] theorem State.wordWritten_fl (h : List HandOver) (s : State) : (State.wordWritten h s).fl = s.fl := rfl
@[simp] theorem State.wordWritten_bt (h : List HandOver) (s : State) : (State.wordWritten h s).bt = s.bt := rfl
@[simp] theorem State.wordWritten_lw (h : List HandOver) (s : State) : (State.wordWritten h s).lw = s.lw := rfl
@[simp] theorem State.wordWritten_ru (h : List HandOver) (s : State) : (State.wordWritten h s).ru = s.ru := rfl
@[simp] theorem State.wordWritten_mc (h : List HandOver) (s : State) : (State.wordWritten h s).mc = s.mc := rfl
@[simp] theorem State.wordWritten_mem (h : List HandOver) (s : State) : (State.wordWritten h s).mem = s.mem := rfl
@[simp] theorem State.wordWritten_pending (h : List HandOver) (s : State) : (State.wordWritten h s).pending = s.pending :=
  rfl
@[simp] theorem State.wordRead_fault (w : Word) (s : State) : (State.wordRead w s).fault = s.fault := rfl
@[simp] theorem State.wordRead_completion (w : Word) (s : State) : (State.wordRead w s).completion = s.completion :=
  rfl
@[simp] theorem State.wordRead_cu (w : Word) (s : State) : (State.wordRead w s).cu = s.cu := rfl
@[simp] theorem State.wordRead_iu (w : Word) (s : State) : (State.wordRead w s).iu = s.iu := rfl
@[simp] theorem State.wordRead_fl (w : Word) (s : State) : (State.wordRead w s).fl = s.fl := rfl
@[simp] theorem State.wordRead_bt (w : Word) (s : State) : (State.wordRead w s).bt = s.bt := rfl
@[simp] theorem State.wordRead_lw (w : Word) (s : State) : (State.wordRead w s).lw = s.lw := rfl
@[simp] theorem State.wordRead_ru (w : Word) (s : State) : (State.wordRead w s).ru = s.ru := rfl
@[simp] theorem State.wordRead_mc (w : Word) (s : State) : (State.wordRead w s).mc = s.mc := rfl
@[simp] theorem State.wordRead_mem (w : Word) (s : State) : (State.wordRead w s).mem = s.mem := rfl
@[simp] theorem State.wordRead_pending (w : Word) (s : State) : (State.wordRead w s).pending = s.pending := rfl
@[simp] theorem State.dropHandOver_fault (s : State) : (State.dropHandOver s).fault = s.fault := rfl
@[simp] theorem State.dropHandOver_completion (s : State) : (State.dropHandOver s).completion = s.completion := rfl
@[simp] theorem State.dropHandOver_cu (s : State) : (State.dropHandOver s).cu = s.cu := rfl
@[simp] theorem State.dropHandOver_iu (s : State) : (State.dropHandOver s).iu = s.iu := rfl
@[simp] theorem State.dropHandOver_fl (s : State) : (State.dropHandOver s).fl = s.fl := rfl
@[simp] theorem State.dropHandOver_bt (s : State) : (State.dropHandOver s).bt = s.bt := rfl
@[simp] theorem State.dropHandOver_lw (s : State) : (State.dropHandOver s).lw = s.lw := rfl
@[simp] theorem State.dropHandOver_ru (s : State) : (State.dropHandOver s).ru = s.ru := rfl
@[simp] theorem State.dropHandOver_mc (s : State) : (State.dropHandOver s).mc = s.mc := rfl
@[simp] theorem State.dropHandOver_mem (s : State) : (State.dropHandOver s).mem = s.mem := rfl
@[simp] theorem State.dropHandOver_pending (s : State) : (State.dropHandOver s).pending = s.pending := rfl
@[simp] theorem State.takePosted_fault (s : State) : (State.takePosted s).fault = s.fault := rfl
@[simp] theorem State.takePosted_upstream (s : State) : (State.takePosted s).upstream = s.upstream := rfl
@[simp] theorem State.takePosted_completion (s : State) : (State.takePosted s).completion = s.completion := rfl
@[simp] theorem State.takePosted_iu (s : State) : (State.takePosted s).iu = s.iu := rfl
@[simp] theorem State.takePosted_fl (s : State) : (State.takePosted s).fl = s.fl := rfl
@[simp] theorem State.takePosted_bt (s : State) : (State.takePosted s).bt = s.bt := rfl
@[simp] theorem State.takePosted_lw (s : State) : (State.takePosted s).lw = s.lw := rfl
@[simp] theorem State.takePosted_ru (s : State) : (State.takePosted s).ru = s.ru := rfl
@[simp] theorem State.takePosted_mc (s : State) : (State.takePosted s).mc = s.mc := rfl
@[simp] theorem State.takePosted_mem (s : State) : (State.takePosted s).mem = s.mem := rfl
@[simp] theorem State.takePosted_pending (s : State) : (State.takePosted s).pending = s.pending := rfl
@[simp] theorem State.applySettings_fault (s : State) : (State.applySettings s).fault = s.fault := rfl
@[simp] theorem State.applySettings_upstream (s : State) : (State.applySettings s).upstream = s.upstream := rfl
@[simp] theorem State.applySettings_completion (s : State) : (State.applySettings s).completion = s.completion := rfl
@[simp] theorem State.applySettings_iu (s : State) : (State.applySettings s).iu = s.iu := rfl
@[simp] theorem State.applySettings_fl (s : State) : (State.applySettings s).fl = s.fl := rfl
@[simp] theorem State.applySettings_bt (s : State) : (State.applySettings s).bt = s.bt := rfl
@[simp] theorem State.applySettings_lw (s : State) : (State.applySettings s).lw = s.lw := rfl
@[simp] theorem State.applySettings_mc (s : State) : (State.applySettings s).mc = s.mc := rfl
@[simp] theorem State.applySettings_mem (s : State) : (State.applySettings s).mem = s.mem := rfl
@[simp] theorem State.applySettings_pending (s : State) : (State.applySettings s).pending = s.pending := rfl
@[simp] theorem State.applyRing_fault (s : State) : (State.applyRing s).fault = s.fault := rfl
@[simp] theorem State.applyRing_upstream (s : State) : (State.applyRing s).upstream = s.upstream := rfl
@[simp] theorem State.applyRing_completion (s : State) : (State.applyRing s).completion = s.completion := rfl
@[simp] theorem State.applyRing_iu (s : State) : (State.applyRing s).iu = s.iu := rfl
@[simp] theorem State.applyRing_fl (s : State) : (State.applyRing s).fl = s.fl := rfl
@[simp] theorem State.applyRing_bt (s : State) : (State.applyRing s).bt = s.bt := rfl
@[simp] theorem State.applyRing_lw (s : State) : (State.applyRing s).lw = s.lw := rfl
@[simp] theorem State.applyRing_mc (s : State) : (State.applyRing s).mc = s.mc := rfl
@[simp] theorem State.applyRing_mem (s : State) : (State.applyRing s).mem = s.mem := rfl
@[simp] theorem State.applyRing_pending (s : State) : (State.applyRing s).pending = s.pending := rfl
@[simp] theorem State.applyColumns_fault (s : State) : (State.applyColumns s).fault = s.fault := rfl
@[simp] theorem State.applyColumns_upstream (s : State) : (State.applyColumns s).upstream = s.upstream := rfl
@[simp] theorem State.applyColumns_completion (s : State) : (State.applyColumns s).completion = s.completion := rfl
@[simp] theorem State.applyColumns_iu (s : State) : (State.applyColumns s).iu = s.iu := rfl
@[simp] theorem State.applyColumns_fl (s : State) : (State.applyColumns s).fl = s.fl := rfl
@[simp] theorem State.applyColumns_bt (s : State) : (State.applyColumns s).bt = s.bt := rfl
@[simp] theorem State.applyColumns_lw (s : State) : (State.applyColumns s).lw = s.lw := rfl
@[simp] theorem State.applyColumns_ru (s : State) : (State.applyColumns s).ru = s.ru := rfl
@[simp] theorem State.applyColumns_mc (s : State) : (State.applyColumns s).mc = s.mc := rfl
@[simp] theorem State.applyColumns_mem (s : State) : (State.applyColumns s).mem = s.mem := rfl
@[simp] theorem State.applyColumns_pending (s : State) : (State.applyColumns s).pending = s.pending := rfl
@[simp] theorem State.holdCaptured_fault (s : State) : (State.holdCaptured s).fault = s.fault := rfl
@[simp] theorem State.holdCaptured_upstream (s : State) : (State.holdCaptured s).upstream = s.upstream := rfl
@[simp] theorem State.holdCaptured_completion (s : State) : (State.holdCaptured s).completion = s.completion := rfl
@[simp] theorem State.holdCaptured_cu (s : State) : (State.holdCaptured s).cu = s.cu := rfl
@[simp] theorem State.holdCaptured_iu (s : State) : (State.holdCaptured s).iu = s.iu := rfl
@[simp] theorem State.holdCaptured_bt (s : State) : (State.holdCaptured s).bt = s.bt := rfl
@[simp] theorem State.holdCaptured_lw (s : State) : (State.holdCaptured s).lw = s.lw := rfl
@[simp] theorem State.holdCaptured_ru (s : State) : (State.holdCaptured s).ru = s.ru := rfl
@[simp] theorem State.holdCaptured_mc (s : State) : (State.holdCaptured s).mc = s.mc := rfl
@[simp] theorem State.holdCaptured_mem (s : State) : (State.holdCaptured s).mem = s.mem := rfl
@[simp] theorem State.holdCaptured_pending (s : State) : (State.holdCaptured s).pending = s.pending := rfl
@[simp] theorem State.beginSurveyEffect_fault (s : State) : (State.beginSurveyEffect s).fault = s.fault := rfl
@[simp] theorem State.beginSurveyEffect_upstream (s : State) : (State.beginSurveyEffect s).upstream = s.upstream :=
  rfl
@[simp] theorem State.beginSurveyEffect_completion (s : State) : (State.beginSurveyEffect s).completion = s.completion :=
  rfl
@[simp] theorem State.beginSurveyEffect_cu (s : State) : (State.beginSurveyEffect s).cu = s.cu := rfl
@[simp] theorem State.beginSurveyEffect_bt (s : State) : (State.beginSurveyEffect s).bt = s.bt := rfl
@[simp] theorem State.beginSurveyEffect_lw (s : State) : (State.beginSurveyEffect s).lw = s.lw := rfl
@[simp] theorem State.beginSurveyEffect_ru (s : State) : (State.beginSurveyEffect s).ru = s.ru := rfl
@[simp] theorem State.beginSurveyEffect_mc (s : State) : (State.beginSurveyEffect s).mc = s.mc := rfl
@[simp] theorem State.beginSurveyEffect_mem (s : State) : (State.beginSurveyEffect s).mem = s.mem := rfl
@[simp] theorem State.beginSurveyEffect_pending (s : State) : (State.beginSurveyEffect s).pending = s.pending := rfl
@[simp] theorem State.beginCaptureEffect_fault (s : State) : (State.beginCaptureEffect s).fault = s.fault := rfl
@[simp] theorem State.beginCaptureEffect_upstream (s : State) : (State.beginCaptureEffect s).upstream = s.upstream :=
  rfl
@[simp] theorem State.beginCaptureEffect_completion (s : State) : (State.beginCaptureEffect s).completion = s.completion :=
  rfl
@[simp] theorem State.beginCaptureEffect_cu (s : State) : (State.beginCaptureEffect s).cu = s.cu := rfl
@[simp] theorem State.beginCaptureEffect_fl (s : State) : (State.beginCaptureEffect s).fl = s.fl := rfl
@[simp] theorem State.beginCaptureEffect_bt (s : State) : (State.beginCaptureEffect s).bt = s.bt := rfl
@[simp] theorem State.beginCaptureEffect_lw (s : State) : (State.beginCaptureEffect s).lw = s.lw := rfl
@[simp] theorem State.beginCaptureEffect_ru (s : State) : (State.beginCaptureEffect s).ru = s.ru := rfl
@[simp] theorem State.beginCaptureEffect_mc (s : State) : (State.beginCaptureEffect s).mc = s.mc := rfl
@[simp] theorem State.beginCaptureEffect_mem (s : State) : (State.beginCaptureEffect s).mem = s.mem := rfl
@[simp] theorem State.beginCaptureEffect_pending (s : State) : (State.beginCaptureEffect s).pending = s.pending := rfl
@[simp] theorem State.setFramePlanEffect_fault (s : State) : (State.setFramePlanEffect s).fault = s.fault := rfl
@[simp] theorem State.setFramePlanEffect_upstream (s : State) : (State.setFramePlanEffect s).upstream = s.upstream :=
  rfl
@[simp] theorem State.setFramePlanEffect_completion (s : State) : (State.setFramePlanEffect s).completion = s.completion :=
  rfl
@[simp] theorem State.setFramePlanEffect_cu (s : State) : (State.setFramePlanEffect s).cu = s.cu := rfl
@[simp] theorem State.setFramePlanEffect_iu (s : State) : (State.setFramePlanEffect s).iu = s.iu := rfl
@[simp] theorem State.setFramePlanEffect_lw (s : State) : (State.setFramePlanEffect s).lw = s.lw := rfl
@[simp] theorem State.setFramePlanEffect_ru (s : State) : (State.setFramePlanEffect s).ru = s.ru := rfl
@[simp] theorem State.setFramePlanEffect_mc (s : State) : (State.setFramePlanEffect s).mc = s.mc := rfl
@[simp] theorem State.setFramePlanEffect_mem (s : State) : (State.setFramePlanEffect s).mem = s.mem := rfl
@[simp] theorem State.setFramePlanEffect_pending (s : State) : (State.setFramePlanEffect s).pending = s.pending := rfl
@[simp] theorem State.setFrameReleaseEffect_fault (s : State) : (State.setFrameReleaseEffect s).fault = s.fault := rfl
@[simp] theorem State.setFrameReleaseEffect_upstream (s : State) : (State.setFrameReleaseEffect s).upstream = s.upstream :=
  rfl
@[simp] theorem State.setFrameReleaseEffect_completion (s : State) : (State.setFrameReleaseEffect s).completion = s.completion :=
  rfl
@[simp] theorem State.setFrameReleaseEffect_cu (s : State) : (State.setFrameReleaseEffect s).cu = s.cu := rfl
@[simp] theorem State.setFrameReleaseEffect_iu (s : State) : (State.setFrameReleaseEffect s).iu = s.iu := rfl
@[simp] theorem State.setFrameReleaseEffect_lw (s : State) : (State.setFrameReleaseEffect s).lw = s.lw := rfl
@[simp] theorem State.setFrameReleaseEffect_ru (s : State) : (State.setFrameReleaseEffect s).ru = s.ru := rfl
@[simp] theorem State.setFrameReleaseEffect_mc (s : State) : (State.setFrameReleaseEffect s).mc = s.mc := rfl
@[simp] theorem State.setFrameReleaseEffect_mem (s : State) : (State.setFrameReleaseEffect s).mem = s.mem := rfl
@[simp] theorem State.setFrameReleaseEffect_pending (s : State) : (State.setFrameReleaseEffect s).pending = s.pending :=
  rfl
@[simp] theorem State.writeReport_fault (x : Report) (s : State) : (State.writeReport x s).fault = s.fault := rfl
@[simp] theorem State.writeReport_upstream (x : Report) (s : State) : (State.writeReport x s).upstream = s.upstream :=
  rfl
@[simp] theorem State.writeReport_completion (x : Report) (s : State) : (State.writeReport x s).completion = s.completion :=
  rfl
@[simp] theorem State.writeReport_cu (x : Report) (s : State) : (State.writeReport x s).cu = s.cu := rfl
@[simp] theorem State.writeReport_iu (x : Report) (s : State) : (State.writeReport x s).iu = s.iu := rfl
@[simp] theorem State.writeReport_fl (x : Report) (s : State) : (State.writeReport x s).fl = s.fl := rfl
@[simp] theorem State.writeReport_bt (x : Report) (s : State) : (State.writeReport x s).bt = s.bt := rfl
@[simp] theorem State.writeReport_lw (x : Report) (s : State) : (State.writeReport x s).lw = s.lw := rfl
@[simp] theorem State.writeReport_mc (x : Report) (s : State) : (State.writeReport x s).mc = s.mc := rfl
@[simp] theorem State.writeReport_pending (x : Report) (s : State) : (State.writeReport x s).pending = s.pending :=
  rfl
@[simp] theorem State.startupEnded_fault (s : State) : (State.startupEnded s).fault = s.fault := rfl
@[simp] theorem State.startupEnded_completion (s : State) : (State.startupEnded s).completion = s.completion := rfl
@[simp] theorem State.startupEnded_cu (s : State) : (State.startupEnded s).cu = s.cu := rfl
@[simp] theorem State.startupEnded_iu (s : State) : (State.startupEnded s).iu = s.iu := rfl
@[simp] theorem State.startupEnded_fl (s : State) : (State.startupEnded s).fl = s.fl := rfl
@[simp] theorem State.startupEnded_bt (s : State) : (State.startupEnded s).bt = s.bt := rfl
@[simp] theorem State.startupEnded_lw (s : State) : (State.startupEnded s).lw = s.lw := rfl
@[simp] theorem State.startupEnded_ru (s : State) : (State.startupEnded s).ru = s.ru := rfl
@[simp] theorem State.startupEnded_mem (s : State) : (State.startupEnded s).mem = s.mem := rfl
@[simp] theorem State.startupEnded_pending (s : State) : (State.startupEnded s).pending = s.pending := rfl
@[simp] theorem State.tick_fault (s : State) : (State.tick s).fault = s.fault := rfl
@[simp] theorem State.tick_upstream (s : State) : (State.tick s).upstream = s.upstream := rfl
@[simp] theorem State.tick_completion (s : State) : (State.tick s).completion = s.completion := rfl
@[simp] theorem State.tick_cu (s : State) : (State.tick s).cu = s.cu := rfl
@[simp] theorem State.tick_iu (s : State) : (State.tick s).iu = s.iu := rfl
@[simp] theorem State.tick_fl (s : State) : (State.tick s).fl = s.fl := rfl
@[simp] theorem State.tick_bt (s : State) : (State.tick s).bt = s.bt := rfl
@[simp] theorem State.tick_lw (s : State) : (State.tick s).lw = s.lw := rfl
@[simp] theorem State.tick_mem (s : State) : (State.tick s).mem = s.mem := rfl

end Sys2Proof.Machine
end

