-- ==== Sys2Proof/Laws/Frames.lean ====
section
/-! SUPPORT. The frames of the shared operations that choose between updates: what each leaves as it was. -/

namespace Sys2Proof.Machine

@[simp] theorem State.countBy_fault (c : CounterId) (n : Nat) (s : State) : (State.countBy c n s).fault = s.fault := by
  unfold State.countBy
  dsimp only; split <;> simp
@[simp] theorem State.countBy_upstream (c : CounterId) (n : Nat) (s : State) : (State.countBy c n s).upstream = s.upstream := by
  unfold State.countBy
  dsimp only; split <;> simp
@[simp] theorem State.countBy_completion (c : CounterId) (n : Nat) (s : State) : (State.countBy c n s).completion = s.completion := by
  unfold State.countBy
  dsimp only; split <;> simp
@[simp] theorem State.countBy_cu (c : CounterId) (n : Nat) (s : State) : (State.countBy c n s).cu = s.cu := by
  unfold State.countBy
  dsimp only; split <;> simp
@[simp] theorem State.countBy_iu (c : CounterId) (n : Nat) (s : State) : (State.countBy c n s).iu = s.iu := by
  unfold State.countBy
  dsimp only; split <;> simp
@[simp] theorem State.countBy_fl (c : CounterId) (n : Nat) (s : State) : (State.countBy c n s).fl = s.fl := by
  unfold State.countBy
  dsimp only; split <;> simp
@[simp] theorem State.countBy_bt (c : CounterId) (n : Nat) (s : State) : (State.countBy c n s).bt = s.bt := by
  unfold State.countBy
  dsimp only; split <;> simp
@[simp] theorem State.countBy_lw (c : CounterId) (n : Nat) (s : State) : (State.countBy c n s).lw = s.lw := by
  unfold State.countBy
  dsimp only; split <;> simp
@[simp] theorem State.countBy_mc (c : CounterId) (n : Nat) (s : State) : (State.countBy c n s).mc = s.mc := by
  unfold State.countBy
  dsimp only; split <;> simp
@[simp] theorem State.countBy_mem (c : CounterId) (n : Nat) (s : State) : (State.countBy c n s).mem = s.mem := by
  unfold State.countBy
  dsimp only; split <;> simp
@[simp] theorem State.countBy_pending (c : CounterId) (n : Nat) (s : State) : (State.countBy c n s).pending = s.pending := by
  unfold State.countBy
  dsimp only; split <;> simp
@[simp] theorem State.count_fault (c : CounterId) (s : State) : (State.count c s).fault = s.fault := by
  simp [State.count]
@[simp] theorem State.count_upstream (c : CounterId) (s : State) : (State.count c s).upstream = s.upstream := by
  simp [State.count]
@[simp] theorem State.count_completion (c : CounterId) (s : State) : (State.count c s).completion = s.completion := by
  simp [State.count]
@[simp] theorem State.count_cu (c : CounterId) (s : State) : (State.count c s).cu = s.cu := by simp [State.count]
@[simp] theorem State.count_iu (c : CounterId) (s : State) : (State.count c s).iu = s.iu := by simp [State.count]
@[simp] theorem State.count_fl (c : CounterId) (s : State) : (State.count c s).fl = s.fl := by simp [State.count]
@[simp] theorem State.count_bt (c : CounterId) (s : State) : (State.count c s).bt = s.bt := by simp [State.count]
@[simp] theorem State.count_lw (c : CounterId) (s : State) : (State.count c s).lw = s.lw := by simp [State.count]
@[simp] theorem State.count_mc (c : CounterId) (s : State) : (State.count c s).mc = s.mc := by simp [State.count]
@[simp] theorem State.count_mem (c : CounterId) (s : State) : (State.count c s).mem = s.mem := by simp [State.count]
@[simp] theorem State.count_pending (c : CounterId) (s : State) : (State.count c s).pending = s.pending := by
  simp [State.count]
@[simp] theorem State.countTimes_fault (c : CounterId) (n : Nat) (s : State) : (State.countTimes c n s).fault = s.fault := by
 induction n generalizing s with
 | zero => rfl
 | succ n ih => simp [State.countTimes, ih]
@[simp] theorem State.countTimes_upstream (c : CounterId) (n : Nat) (s : State) : (State.countTimes c n s).upstream = s.upstream := by
 induction n generalizing s with
 | zero => rfl
 | succ n ih => simp [State.countTimes, ih]
@[simp] theorem State.countTimes_completion (c : CounterId) (n : Nat) (s : State) : (State.countTimes c n s).completion = s.completion := by
 induction n generalizing s with
 | zero => rfl
 | succ n ih => simp [State.countTimes, ih]
@[simp] theorem State.countTimes_cu (c : CounterId) (n : Nat) (s : State) : (State.countTimes c n s).cu = s.cu := by
 induction n generalizing s with
 | zero => rfl
 | succ n ih => simp [State.countTimes, ih]
@[simp] theorem State.countTimes_iu (c : CounterId) (n : Nat) (s : State) : (State.countTimes c n s).iu = s.iu := by
 induction n generalizing s with
 | zero => rfl
 | succ n ih => simp [State.countTimes, ih]
@[simp] theorem State.countTimes_fl (c : CounterId) (n : Nat) (s : State) : (State.countTimes c n s).fl = s.fl := by
 induction n generalizing s with
 | zero => rfl
 | succ n ih => simp [State.countTimes, ih]
@[simp] theorem State.countTimes_bt (c : CounterId) (n : Nat) (s : State) : (State.countTimes c n s).bt = s.bt := by
 induction n generalizing s with
 | zero => rfl
 | succ n ih => simp [State.countTimes, ih]
@[simp] theorem State.countTimes_lw (c : CounterId) (n : Nat) (s : State) : (State.countTimes c n s).lw = s.lw := by
 induction n generalizing s with
 | zero => rfl
 | succ n ih => simp [State.countTimes, ih]
@[simp] theorem State.countTimes_mc (c : CounterId) (n : Nat) (s : State) : (State.countTimes c n s).mc = s.mc := by
 induction n generalizing s with
 | zero => rfl
 | succ n ih => simp [State.countTimes, ih]
@[simp] theorem State.countTimes_mem (c : CounterId) (n : Nat) (s : State) : (State.countTimes c n s).mem = s.mem := by
 induction n generalizing s with
 | zero => rfl
 | succ n ih => simp [State.countTimes, ih]
@[simp] theorem State.countTimes_pending (c : CounterId) (n : Nat) (s : State) : (State.countTimes c n s).pending = s.pending := by
 induction n generalizing s with
 | zero => rfl
 | succ n ih => simp [State.countTimes, ih]
@[simp] theorem State.raiseFault_upstream (f : FaultRecord) (s : State) : (State.raiseFault f s).upstream = s.upstream := by
  unfold State.raiseFault
  split <;> simp
@[simp] theorem State.raiseFault_completion (f : FaultRecord) (s : State) : (State.raiseFault f s).completion = s.completion := by
  unfold State.raiseFault
  split <;> simp
@[simp] theorem State.raiseFault_cu (f : FaultRecord) (s : State) : (State.raiseFault f s).cu = s.cu := by
  unfold State.raiseFault
  split <;> simp
@[simp] theorem State.raiseFault_iu (f : FaultRecord) (s : State) : (State.raiseFault f s).iu = s.iu := by
  unfold State.raiseFault
  split <;> simp
@[simp] theorem State.raiseFault_fl (f : FaultRecord) (s : State) : (State.raiseFault f s).fl = s.fl := by
  unfold State.raiseFault
  split <;> simp
@[simp] theorem State.raiseFault_bt (f : FaultRecord) (s : State) : (State.raiseFault f s).bt = s.bt := by
  unfold State.raiseFault
  split <;> simp
@[simp] theorem State.raiseFault_lw (f : FaultRecord) (s : State) : (State.raiseFault f s).lw = s.lw := by
  unfold State.raiseFault
  split <;> simp
@[simp] theorem State.raiseFault_mc (f : FaultRecord) (s : State) : (State.raiseFault f s).mc = s.mc := by
  unfold State.raiseFault
  split <;> simp
@[simp] theorem State.raiseFault_mem (f : FaultRecord) (s : State) : (State.raiseFault f s).mem = s.mem := by
  unfold State.raiseFault
  split <;> simp
@[simp] theorem State.raiseFault_pending (f : FaultRecord) (s : State) : (State.raiseFault f s).pending = s.pending := by
  unfold State.raiseFault
  split <;> simp
@[simp] theorem State.endRowHold_fault (s : State) : (State.endRowHold s).fault = s.fault := by
  unfold State.endRowHold
  (repeat' split) <;> rfl
@[simp] theorem State.endRowHold_completion (s : State) : (State.endRowHold s).completion = s.completion := by
  unfold State.endRowHold
  (repeat' split) <;> rfl
@[simp] theorem State.endRowHold_cu (s : State) : (State.endRowHold s).cu = s.cu := by
  unfold State.endRowHold
  (repeat' split) <;> rfl
@[simp] theorem State.endRowHold_iu (s : State) : (State.endRowHold s).iu = s.iu := by
  unfold State.endRowHold
  (repeat' split) <;> rfl
@[simp] theorem State.endRowHold_fl (s : State) : (State.endRowHold s).fl = s.fl := by
  unfold State.endRowHold
  (repeat' split) <;> rfl
@[simp] theorem State.endRowHold_bt (s : State) : (State.endRowHold s).bt = s.bt := by
  unfold State.endRowHold
  (repeat' split) <;> rfl
@[simp] theorem State.endRowHold_lw (s : State) : (State.endRowHold s).lw = s.lw := by
  unfold State.endRowHold
  (repeat' split) <;> rfl
@[simp] theorem State.endRowHold_ru (s : State) : (State.endRowHold s).ru = s.ru := by
  unfold State.endRowHold
  (repeat' split) <;> rfl
@[simp] theorem State.endRowHold_mc (s : State) : (State.endRowHold s).mc = s.mc := by
  unfold State.endRowHold
  (repeat' split) <;> rfl
@[simp] theorem State.endRowHold_mem (s : State) : (State.endRowHold s).mem = s.mem := by
  unfold State.endRowHold
  (repeat' split) <;> rfl
@[simp] theorem State.endRowHold_pending (s : State) : (State.endRowHold s).pending = s.pending := by
  unfold State.endRowHold
  (repeat' split) <;> rfl
@[simp] theorem State.closeBlemishes_fault (a : Nat) (v : SlotId) (c : Bool) (bs : List OpenBlemish) (s : State) : (State.closeBlemishes a v c bs s).fault = s.fault := by
  simp [State.closeBlemishes]
@[simp] theorem State.closeBlemishes_upstream (a : Nat) (v : SlotId) (c : Bool) (bs : List OpenBlemish) (s : State) : (State.closeBlemishes a v c bs s).upstream = s.upstream := by
  simp [State.closeBlemishes]
@[simp] theorem State.closeBlemishes_completion (a : Nat) (v : SlotId) (c : Bool) (bs : List OpenBlemish) (s : State) : (State.closeBlemishes a v c bs s).completion = s.completion := by
  simp [State.closeBlemishes]
@[simp] theorem State.closeBlemishes_cu (a : Nat) (v : SlotId) (c : Bool) (bs : List OpenBlemish) (s : State) : (State.closeBlemishes a v c bs s).cu = s.cu := by
  simp [State.closeBlemishes]
@[simp] theorem State.closeBlemishes_iu (a : Nat) (v : SlotId) (c : Bool) (bs : List OpenBlemish) (s : State) : (State.closeBlemishes a v c bs s).iu = s.iu := by
  simp [State.closeBlemishes]
@[simp] theorem State.closeBlemishes_fl (a : Nat) (v : SlotId) (c : Bool) (bs : List OpenBlemish) (s : State) : (State.closeBlemishes a v c bs s).fl = s.fl := by
  simp [State.closeBlemishes]
@[simp] theorem State.closeBlemishes_mc (a : Nat) (v : SlotId) (c : Bool) (bs : List OpenBlemish) (s : State) : (State.closeBlemishes a v c bs s).mc = s.mc := by
  simp [State.closeBlemishes]
@[simp] theorem State.closeBlemishes_mem (a : Nat) (v : SlotId) (c : Bool) (bs : List OpenBlemish) (s : State) : (State.closeBlemishes a v c bs s).mem = s.mem := by
  simp [State.closeBlemishes]
@[simp] theorem State.closeBlemishes_pending (a : Nat) (v : SlotId) (c : Bool) (bs : List OpenBlemish) (s : State) : (State.closeBlemishes a v c bs s).pending = s.pending := by
  simp [State.closeBlemishes]
@[simp] theorem State.beginFrameEnd_fault (v : SlotId) (s : State) : (State.beginFrameEnd v s).fault = s.fault := by
  simp [State.beginFrameEnd]
@[simp] theorem State.beginFrameEnd_upstream (v : SlotId) (s : State) : (State.beginFrameEnd v s).upstream = s.upstream := by
  simp [State.beginFrameEnd]
@[simp] theorem State.beginFrameEnd_completion (v : SlotId) (s : State) : (State.beginFrameEnd v s).completion = s.completion := by
  simp [State.beginFrameEnd]
@[simp] theorem State.beginFrameEnd_cu (v : SlotId) (s : State) : (State.beginFrameEnd v s).cu = s.cu := by
  simp [State.beginFrameEnd]
@[simp] theorem State.beginFrameEnd_iu (v : SlotId) (s : State) : (State.beginFrameEnd v s).iu = s.iu := by
  simp [State.beginFrameEnd]
@[simp] theorem State.beginFrameEnd_fl (v : SlotId) (s : State) : (State.beginFrameEnd v s).fl = s.fl := by
  simp [State.beginFrameEnd]
@[simp] theorem State.beginFrameEnd_mc (v : SlotId) (s : State) : (State.beginFrameEnd v s).mc = s.mc := by
  simp [State.beginFrameEnd]
@[simp] theorem State.beginFrameEnd_mem (v : SlotId) (s : State) : (State.beginFrameEnd v s).mem = s.mem := by
  simp [State.beginFrameEnd]
@[simp] theorem State.beginFrameEnd_pending (v : SlotId) (s : State) : (State.beginFrameEnd v s).pending = s.pending := by
  simp [State.beginFrameEnd]
@[simp] theorem State.advance_fault (s : State) : (State.advance s).fault = s.fault := by
  unfold State.advance
  (repeat' split) <;> simp
@[simp] theorem State.advance_upstream (s : State) : (State.advance s).upstream = s.upstream := by
  unfold State.advance
  (repeat' split) <;> simp
@[simp] theorem State.advance_completion (s : State) : (State.advance s).completion = s.completion := by
  unfold State.advance
  (repeat' split) <;> simp
@[simp] theorem State.advance_cu (s : State) : (State.advance s).cu = s.cu := by
  unfold State.advance
  (repeat' split) <;> simp
@[simp] theorem State.advance_fl (s : State) : (State.advance s).fl = s.fl := by
  unfold State.advance
  (repeat' split) <;> simp
@[simp] theorem State.advance_mc (s : State) : (State.advance s).mc = s.mc := by
  unfold State.advance
  (repeat' split) <;> simp
@[simp] theorem State.advance_mem (s : State) : (State.advance s).mem = s.mem := by
  unfold State.advance
  (repeat' split) <;> simp
@[simp] theorem State.advance_pending (s : State) : (State.advance s).pending = s.pending := by
  unfold State.advance
  (repeat' split) <;> simp
@[simp] theorem State.startNext_fault (s : State) : (State.startNext s).fault = s.fault := by
  unfold State.startNext
  split <;> simp
@[simp] theorem State.startNext_upstream (s : State) : (State.startNext s).upstream = s.upstream := by
  unfold State.startNext
  split <;> simp
@[simp] theorem State.startNext_completion (s : State) : (State.startNext s).completion = s.completion := by
  unfold State.startNext
  split <;> simp
@[simp] theorem State.startNext_cu (s : State) : (State.startNext s).cu = s.cu := by
  unfold State.startNext
  split <;> simp
@[simp] theorem State.startNext_lw (s : State) : (State.startNext s).lw = s.lw := by
  unfold State.startNext
  split <;> simp
@[simp] theorem State.startNext_ru (s : State) : (State.startNext s).ru = s.ru := by
  unfold State.startNext
  split <;> simp
@[simp] theorem State.startNext_mc (s : State) : (State.startNext s).mc = s.mc := by
  unfold State.startNext
  split <;> simp
@[simp] theorem State.startNext_mem (s : State) : (State.startNext s).mem = s.mem := by
  unfold State.startNext
  split <;> simp
@[simp] theorem State.startNext_pending (s : State) : (State.startNext s).pending = s.pending := by
  unfold State.startNext
  split <;> simp
@[simp] theorem State.completeFrameEnd_fault (e : FrameEnd) (s : State) : (State.completeFrameEnd e s).fault = s.fault := by
  simp [State.completeFrameEnd]
@[simp] theorem State.completeFrameEnd_upstream (e : FrameEnd) (s : State) : (State.completeFrameEnd e s).upstream = s.upstream := by
  simp [State.completeFrameEnd]
@[simp] theorem State.completeFrameEnd_completion (e : FrameEnd) (s : State) : (State.completeFrameEnd e s).completion = s.completion := by
  simp [State.completeFrameEnd]
@[simp] theorem State.completeFrameEnd_cu (e : FrameEnd) (s : State) : (State.completeFrameEnd e s).cu = s.cu := by
  simp [State.completeFrameEnd]
@[simp] theorem State.completeFrameEnd_mc (e : FrameEnd) (s : State) : (State.completeFrameEnd e s).mc = s.mc := by
  simp [State.completeFrameEnd]
@[simp] theorem State.completeFrameEnd_mem (e : FrameEnd) (s : State) : (State.completeFrameEnd e s).mem = s.mem := by
  simp [State.completeFrameEnd]
@[simp] theorem State.completeFrameEnd_pending (e : FrameEnd) (s : State) : (State.completeFrameEnd e s).pending = s.pending := by
  simp [State.completeFrameEnd]
@[simp] theorem State.beginLocate_fault (s : State) : (State.beginLocate s).fault = s.fault := by
  unfold State.beginLocate
  split <;> rfl
@[simp] theorem State.beginLocate_upstream (s : State) : (State.beginLocate s).upstream = s.upstream := by
  unfold State.beginLocate
  split <;> rfl
@[simp] theorem State.beginLocate_completion (s : State) : (State.beginLocate s).completion = s.completion := by
  unfold State.beginLocate
  split <;> rfl
@[simp] theorem State.beginLocate_cu (s : State) : (State.beginLocate s).cu = s.cu := by
  unfold State.beginLocate
  split <;> rfl
@[simp] theorem State.beginLocate_bt (s : State) : (State.beginLocate s).bt = s.bt := by
  unfold State.beginLocate
  split <;> rfl
@[simp] theorem State.beginLocate_lw (s : State) : (State.beginLocate s).lw = s.lw := by
  unfold State.beginLocate
  split <;> rfl
@[simp] theorem State.beginLocate_ru (s : State) : (State.beginLocate s).ru = s.ru := by
  unfold State.beginLocate
  split <;> rfl
@[simp] theorem State.beginLocate_mc (s : State) : (State.beginLocate s).mc = s.mc := by
  unfold State.beginLocate
  split <;> rfl
@[simp] theorem State.beginLocate_mem (s : State) : (State.beginLocate s).mem = s.mem := by
  unfold State.beginLocate
  split <;> rfl
@[simp] theorem State.beginLocate_pending (s : State) : (State.beginLocate s).pending = s.pending := by
  unfold State.beginLocate
  split <;> rfl
@[simp] theorem State.placeFrame_fault (r : StripRecord) (l : List (SlotId × LocatedFrame)) (v : SlotId) (s : State) : (State.placeFrame r l v s).fault = s.fault := by
  unfold State.placeFrame
  split <;> simp
@[simp] theorem State.placeFrame_upstream (r : StripRecord) (l : List (SlotId × LocatedFrame)) (v : SlotId) (s : State) : (State.placeFrame r l v s).upstream = s.upstream := by
  unfold State.placeFrame
  split <;> simp
@[simp] theorem State.placeFrame_completion (r : StripRecord) (l : List (SlotId × LocatedFrame)) (v : SlotId) (s : State) : (State.placeFrame r l v s).completion = s.completion := by
  unfold State.placeFrame
  split <;> simp
@[simp] theorem State.placeFrame_cu (r : StripRecord) (l : List (SlotId × LocatedFrame)) (v : SlotId) (s : State) : (State.placeFrame r l v s).cu = s.cu := by
  unfold State.placeFrame
  split <;> simp
@[simp] theorem State.placeFrame_iu (r : StripRecord) (l : List (SlotId × LocatedFrame)) (v : SlotId) (s : State) : (State.placeFrame r l v s).iu = s.iu := by
  unfold State.placeFrame
  split <;> simp
@[simp] theorem State.placeFrame_lw (r : StripRecord) (l : List (SlotId × LocatedFrame)) (v : SlotId) (s : State) : (State.placeFrame r l v s).lw = s.lw := by
  unfold State.placeFrame
  split <;> simp
@[simp] theorem State.placeFrame_ru (r : StripRecord) (l : List (SlotId × LocatedFrame)) (v : SlotId) (s : State) : (State.placeFrame r l v s).ru = s.ru := by
  unfold State.placeFrame
  split <;> simp
@[simp] theorem State.placeFrame_mc (r : StripRecord) (l : List (SlotId × LocatedFrame)) (v : SlotId) (s : State) : (State.placeFrame r l v s).mc = s.mc := by
  unfold State.placeFrame
  split <;> simp
@[simp] theorem State.placeFrame_mem (r : StripRecord) (l : List (SlotId × LocatedFrame)) (v : SlotId) (s : State) : (State.placeFrame r l v s).mem = s.mem := by
  unfold State.placeFrame
  split <;> simp
@[simp] theorem State.placeFrame_pending (r : StripRecord) (l : List (SlotId × LocatedFrame)) (v : SlotId) (s : State) : (State.placeFrame r l v s).pending = s.pending := by
  unfold State.placeFrame
  split <;> simp
theorem State.forSlots_fault (g : SlotId → State → State) (hg : ∀ v s, (g v s).fault = s.fault) (l : List SlotId) (s : State) :
    (State.forSlots g l s).fault = s.fault := by
  induction l generalizing s with
  | nil => rfl
  | cons v rest ih => simp [State.forSlots, ih, hg]
theorem State.forSlots_upstream (g : SlotId → State → State) (hg : ∀ v s, (g v s).upstream = s.upstream) (l : List SlotId) (s : State) :
    (State.forSlots g l s).upstream = s.upstream := by
  induction l generalizing s with
  | nil => rfl
  | cons v rest ih => simp [State.forSlots, ih, hg]
theorem State.forSlots_completion (g : SlotId → State → State) (hg : ∀ v s, (g v s).completion = s.completion) (l : List SlotId) (s : State) :
    (State.forSlots g l s).completion = s.completion := by
  induction l generalizing s with
  | nil => rfl
  | cons v rest ih => simp [State.forSlots, ih, hg]
theorem State.forSlots_cu (g : SlotId → State → State) (hg : ∀ v s, (g v s).cu = s.cu) (l : List SlotId) (s : State) :
    (State.forSlots g l s).cu = s.cu := by
  induction l generalizing s with
  | nil => rfl
  | cons v rest ih => simp [State.forSlots, ih, hg]
theorem State.forSlots_iu (g : SlotId → State → State) (hg : ∀ v s, (g v s).iu = s.iu) (l : List SlotId) (s : State) :
    (State.forSlots g l s).iu = s.iu := by
  induction l generalizing s with
  | nil => rfl
  | cons v rest ih => simp [State.forSlots, ih, hg]
theorem State.forSlots_fl (g : SlotId → State → State) (hg : ∀ v s, (g v s).fl = s.fl) (l : List SlotId) (s : State) :
    (State.forSlots g l s).fl = s.fl := by
  induction l generalizing s with
  | nil => rfl
  | cons v rest ih => simp [State.forSlots, ih, hg]
theorem State.forSlots_bt (g : SlotId → State → State) (hg : ∀ v s, (g v s).bt = s.bt) (l : List SlotId) (s : State) :
    (State.forSlots g l s).bt = s.bt := by
  induction l generalizing s with
  | nil => rfl
  | cons v rest ih => simp [State.forSlots, ih, hg]
theorem State.forSlots_lw (g : SlotId → State → State) (hg : ∀ v s, (g v s).lw = s.lw) (l : List SlotId) (s : State) :
    (State.forSlots g l s).lw = s.lw := by
  induction l generalizing s with
  | nil => rfl
  | cons v rest ih => simp [State.forSlots, ih, hg]
theorem State.forSlots_ru (g : SlotId → State → State) (hg : ∀ v s, (g v s).ru = s.ru) (l : List SlotId) (s : State) :
    (State.forSlots g l s).ru = s.ru := by
  induction l generalizing s with
  | nil => rfl
  | cons v rest ih => simp [State.forSlots, ih, hg]
theorem State.forSlots_mc (g : SlotId → State → State) (hg : ∀ v s, (g v s).mc = s.mc) (l : List SlotId) (s : State) :
    (State.forSlots g l s).mc = s.mc := by
  induction l generalizing s with
  | nil => rfl
  | cons v rest ih => simp [State.forSlots, ih, hg]
theorem State.forSlots_mem (g : SlotId → State → State) (hg : ∀ v s, (g v s).mem = s.mem) (l : List SlotId) (s : State) :
    (State.forSlots g l s).mem = s.mem := by
  induction l generalizing s with
  | nil => rfl
  | cons v rest ih => simp [State.forSlots, ih, hg]
theorem State.forSlots_pending (g : SlotId → State → State) (hg : ∀ v s, (g v s).pending = s.pending) (l : List SlotId) (s : State) :
    (State.forSlots g l s).pending = s.pending := by
  induction l generalizing s with
  | nil => rfl
  | cons v rest ih => simp [State.forSlots, ih, hg]
@[simp] theorem State.vacateWhere_fault (p : Slot → Bool) (s : State) : (State.vacateWhere p s).fault = s.fault :=
  State.forSlots_fault _ (by simp) _ _
@[simp] theorem State.vacateWhere_upstream (p : Slot → Bool) (s : State) : (State.vacateWhere p s).upstream = s.upstream :=
  State.forSlots_upstream _ (by simp) _ _
@[simp] theorem State.vacateWhere_completion (p : Slot → Bool) (s : State) : (State.vacateWhere p s).completion = s.completion :=
  State.forSlots_completion _ (by simp) _ _
@[simp] theorem State.vacateWhere_cu (p : Slot → Bool) (s : State) : (State.vacateWhere p s).cu = s.cu :=
  State.forSlots_cu _ (by simp) _ _
@[simp] theorem State.vacateWhere_iu (p : Slot → Bool) (s : State) : (State.vacateWhere p s).iu = s.iu :=
  State.forSlots_iu _ (by simp) _ _
@[simp] theorem State.vacateWhere_lw (p : Slot → Bool) (s : State) : (State.vacateWhere p s).lw = s.lw :=
  State.forSlots_lw _ (by simp) _ _
@[simp] theorem State.vacateWhere_ru (p : Slot → Bool) (s : State) : (State.vacateWhere p s).ru = s.ru :=
  State.forSlots_ru _ (by simp) _ _
@[simp] theorem State.vacateWhere_mc (p : Slot → Bool) (s : State) : (State.vacateWhere p s).mc = s.mc :=
  State.forSlots_mc _ (by simp) _ _
@[simp] theorem State.vacateWhere_mem (p : Slot → Bool) (s : State) : (State.vacateWhere p s).mem = s.mem :=
  State.forSlots_mem _ (by simp) _ _
@[simp] theorem State.vacateWhere_pending (p : Slot → Bool) (s : State) : (State.vacateWhere p s).pending = s.pending :=
  State.forSlots_pending _ (by simp) _ _
@[simp] theorem State.endLocate_fault (k : LocateInputs) (s : State) : (State.endLocate k s).fault = s.fault := by
  simp [State.endLocate, State.forSlots_fault (State.placeFrame k.strip _)]
@[simp] theorem State.endLocate_upstream (k : LocateInputs) (s : State) : (State.endLocate k s).upstream = s.upstream := by
  simp [State.endLocate, State.forSlots_upstream (State.placeFrame k.strip _)]
@[simp] theorem State.endLocate_completion (k : LocateInputs) (s : State) : (State.endLocate k s).completion = s.completion := by
  simp [State.endLocate, State.forSlots_completion (State.placeFrame k.strip _)]
@[simp] theorem State.endLocate_cu (k : LocateInputs) (s : State) : (State.endLocate k s).cu = s.cu := by
  simp [State.endLocate, State.forSlots_cu (State.placeFrame k.strip _)]
@[simp] theorem State.endLocate_lw (k : LocateInputs) (s : State) : (State.endLocate k s).lw = s.lw := by
  simp [State.endLocate, State.forSlots_lw (State.placeFrame k.strip _)]
@[simp] theorem State.endLocate_mc (k : LocateInputs) (s : State) : (State.endLocate k s).mc = s.mc := by
  simp [State.endLocate, State.forSlots_mc (State.placeFrame k.strip _)]
@[simp] theorem State.endLocate_mem (k : LocateInputs) (s : State) : (State.endLocate k s).mem = s.mem := by
  simp [State.endLocate, State.forSlots_mem (State.placeFrame k.strip _)]
@[simp] theorem State.endLocate_pending (k : LocateInputs) (s : State) : (State.endLocate k s).pending = s.pending := by
  simp [State.endLocate, State.forSlots_pending (State.placeFrame k.strip _)]
@[simp] theorem State.endPassState_fault (s : State) : (State.endPassState s).fault = s.fault := by
  unfold State.endPassState
  (repeat' split) <;> simp
@[simp] theorem State.endPassState_upstream (s : State) : (State.endPassState s).upstream = s.upstream := by
  unfold State.endPassState
  (repeat' split) <;> simp
@[simp] theorem State.endPassState_completion (s : State) : (State.endPassState s).completion = s.completion := by
  unfold State.endPassState
  (repeat' split) <;> simp
@[simp] theorem State.endPassState_cu (s : State) : (State.endPassState s).cu = s.cu := by
  unfold State.endPassState
  (repeat' split) <;> simp
@[simp] theorem State.endPassState_mc (s : State) : (State.endPassState s).mc = s.mc := by
  unfold State.endPassState
  (repeat' split) <;> simp
@[simp] theorem State.endPassState_mem (s : State) : (State.endPassState s).mem = s.mem := by
  unfold State.endPassState
  (repeat' split) <;> simp
@[simp] theorem State.endPassState_pending (s : State) : (State.endPassState s).pending = s.pending := by
  unfold State.endPassState
  (repeat' split) <;> simp
@[simp] theorem State.closeStripEffect_fault (s : State) : (State.closeStripEffect s).fault = s.fault := by
  unfold State.closeStripEffect
  dsimp only; (repeat' split) <;> simp
@[simp] theorem State.closeStripEffect_completion (s : State) : (State.closeStripEffect s).completion = s.completion := by
  unfold State.closeStripEffect
  dsimp only; (repeat' split) <;> simp
@[simp] theorem State.closeStripEffect_mc (s : State) : (State.closeStripEffect s).mc = s.mc := by
  unfold State.closeStripEffect
  dsimp only; (repeat' split) <;> simp
@[simp] theorem State.closeStripEffect_mem (s : State) : (State.closeStripEffect s).mem = s.mem := by
  unfold State.closeStripEffect
  dsimp only; (repeat' split) <;> simp
@[simp] theorem State.closeStripEffect_pending (s : State) : (State.closeStripEffect s).pending = s.pending := by
  unfold State.closeStripEffect
  dsimp only; (repeat' split) <;> simp
@[simp] theorem State.restartEffect_completion (s : State) : (State.restartEffect s).completion = s.completion := by
  simp [State.restartEffect]
@[simp] theorem State.restartEffect_mem (s : State) : (State.restartEffect s).mem = s.mem := by
  simp [State.restartEffect]
@[simp] theorem State.restartEffect_pending (s : State) : (State.restartEffect s).pending = s.pending := by
  simp [State.restartEffect]
@[simp] theorem State.pendingEffects_completion (s : State) : (State.pendingEffects s).completion = s.completion := by
  unfold State.pendingEffects
  (repeat' split) <;> simp
@[simp] theorem State.pendingEffects_mem (s : State) : (State.pendingEffects s).mem = s.mem := by
  unfold State.pendingEffects
  (repeat' split) <;> simp
@[simp] theorem State.pendingEffects_pending (s : State) : (State.pendingEffects s).pending = s.pending := by
  unfold State.pendingEffects
  (repeat' split) <;> simp
@[simp] theorem State.recordRow_fault (k : Classification) (s : State) : (State.recordRow k s).fault = s.fault := by
  simp [State.recordRow]
@[simp] theorem State.recordRow_upstream (k : Classification) (s : State) : (State.recordRow k s).upstream = s.upstream := by
  simp [State.recordRow]
@[simp] theorem State.recordRow_completion (k : Classification) (s : State) : (State.recordRow k s).completion = s.completion := by
  simp [State.recordRow]
@[simp] theorem State.recordRow_cu (k : Classification) (s : State) : (State.recordRow k s).cu = s.cu := by
  simp [State.recordRow]
@[simp] theorem State.recordRow_iu (k : Classification) (s : State) : (State.recordRow k s).iu = s.iu := by
  simp [State.recordRow]
@[simp] theorem State.recordRow_mc (k : Classification) (s : State) : (State.recordRow k s).mc = s.mc := by
  simp [State.recordRow]
@[simp] theorem State.recordRow_mem (k : Classification) (s : State) : (State.recordRow k s).mem = s.mem := by
  simp [State.recordRow]
@[simp] theorem State.recordRow_pending (k : Classification) (s : State) : (State.recordRow k s).pending = s.pending := by
  simp [State.recordRow]
@[simp] theorem State.endFrameIfLast_fault (k : Classification) (s : State) : (State.endFrameIfLast k s).fault = s.fault := by
  unfold State.endFrameIfLast
  (repeat' split) <;> simp
@[simp] theorem State.endFrameIfLast_upstream (k : Classification) (s : State) : (State.endFrameIfLast k s).upstream = s.upstream := by
  unfold State.endFrameIfLast
  (repeat' split) <;> simp
@[simp] theorem State.endFrameIfLast_completion (k : Classification) (s : State) : (State.endFrameIfLast k s).completion = s.completion := by
  unfold State.endFrameIfLast
  (repeat' split) <;> simp
@[simp] theorem State.endFrameIfLast_cu (k : Classification) (s : State) : (State.endFrameIfLast k s).cu = s.cu := by
  unfold State.endFrameIfLast
  (repeat' split) <;> simp
@[simp] theorem State.endFrameIfLast_iu (k : Classification) (s : State) : (State.endFrameIfLast k s).iu = s.iu := by
  unfold State.endFrameIfLast
  (repeat' split) <;> simp
@[simp] theorem State.endFrameIfLast_fl (k : Classification) (s : State) : (State.endFrameIfLast k s).fl = s.fl := by
  unfold State.endFrameIfLast
  (repeat' split) <;> simp
@[simp] theorem State.endFrameIfLast_mc (k : Classification) (s : State) : (State.endFrameIfLast k s).mc = s.mc := by
  unfold State.endFrameIfLast
  (repeat' split) <;> simp
@[simp] theorem State.endFrameIfLast_mem (k : Classification) (s : State) : (State.endFrameIfLast k s).mem = s.mem := by
  unfold State.endFrameIfLast
  (repeat' split) <;> simp
@[simp] theorem State.endFrameIfLast_pending (k : Classification) (s : State) : (State.endFrameIfLast k s).pending = s.pending := by
  unfold State.endFrameIfLast
  (repeat' split) <;> simp
@[simp] theorem State.endClassification_completion (k : Classification) (s : State) : (State.endClassification k s).completion = s.completion := by
  unfold State.endClassification
  dsimp only; split <;> simp
@[simp] theorem State.endClassification_mem (k : Classification) (s : State) : (State.endClassification k s).mem = s.mem := by
  unfold State.endClassification
  dsimp only; split <;> simp
@[simp] theorem State.endClassification_pending (k : Classification) (s : State) : (State.endClassification k s).pending = s.pending := by
  unfold State.endClassification
  dsimp only; split <;> simp
@[simp] theorem State.completeOpenRow_fault (s : State) : (State.completeOpenRow s).fault = s.fault := by
  unfold State.completeOpenRow
  dsimp only; (repeat' split) <;> simp
@[simp] theorem State.completeOpenRow_upstream (s : State) : (State.completeOpenRow s).upstream = s.upstream := by
  unfold State.completeOpenRow
  dsimp only; (repeat' split) <;> simp
@[simp] theorem State.completeOpenRow_completion (s : State) : (State.completeOpenRow s).completion = s.completion := by
  unfold State.completeOpenRow
  dsimp only; (repeat' split) <;> simp
@[simp] theorem State.completeOpenRow_cu (s : State) : (State.completeOpenRow s).cu = s.cu := by
  unfold State.completeOpenRow
  dsimp only; (repeat' split) <;> simp
@[simp] theorem State.completeOpenRow_mc (s : State) : (State.completeOpenRow s).mc = s.mc := by
  unfold State.completeOpenRow
  dsimp only; (repeat' split) <;> simp
@[simp] theorem State.completeOpenRow_mem (s : State) : (State.completeOpenRow s).mem = s.mem := by
  unfold State.completeOpenRow
  dsimp only; (repeat' split) <;> simp
@[simp] theorem State.completeOpenRow_pending (s : State) : (State.completeOpenRow s).pending = s.pending := by
  unfold State.completeOpenRow
  dsimp only; (repeat' split) <;> simp
@[simp] theorem State.completeIfOpen_fault (s : State) : (State.completeIfOpen s).fault = s.fault := by
  unfold State.completeIfOpen
  split <;> simp
@[simp] theorem State.completeIfOpen_upstream (s : State) : (State.completeIfOpen s).upstream = s.upstream := by
  unfold State.completeIfOpen
  split <;> simp
@[simp] theorem State.completeIfOpen_completion (s : State) : (State.completeIfOpen s).completion = s.completion := by
  unfold State.completeIfOpen
  split <;> simp
@[simp] theorem State.completeIfOpen_cu (s : State) : (State.completeIfOpen s).cu = s.cu := by
  unfold State.completeIfOpen
  split <;> simp
@[simp] theorem State.completeIfOpen_mc (s : State) : (State.completeIfOpen s).mc = s.mc := by
  unfold State.completeIfOpen
  split <;> simp
@[simp] theorem State.completeIfOpen_mem (s : State) : (State.completeIfOpen s).mem = s.mem := by
  unfold State.completeIfOpen
  split <;> simp
@[simp] theorem State.completeIfOpen_pending (s : State) : (State.completeIfOpen s).pending = s.pending := by
  unfold State.completeIfOpen
  split <;> simp
@[simp] theorem State.skipRows_fault (n : Nat) (s : State) : (State.skipRows n s).fault = s.fault := by
  unfold State.skipRows
  split <;> rfl
@[simp] theorem State.skipRows_upstream (n : Nat) (s : State) : (State.skipRows n s).upstream = s.upstream := by
  unfold State.skipRows
  split <;> rfl
@[simp] theorem State.skipRows_completion (n : Nat) (s : State) : (State.skipRows n s).completion = s.completion := by
  unfold State.skipRows
  split <;> rfl
@[simp] theorem State.skipRows_cu (n : Nat) (s : State) : (State.skipRows n s).cu = s.cu := by
  unfold State.skipRows
  split <;> rfl
@[simp] theorem State.skipRows_iu (n : Nat) (s : State) : (State.skipRows n s).iu = s.iu := by
  unfold State.skipRows
  split <;> rfl
@[simp] theorem State.skipRows_bt (n : Nat) (s : State) : (State.skipRows n s).bt = s.bt := by
  unfold State.skipRows
  split <;> rfl
@[simp] theorem State.skipRows_lw (n : Nat) (s : State) : (State.skipRows n s).lw = s.lw := by
  unfold State.skipRows
  split <;> rfl
@[simp] theorem State.skipRows_ru (n : Nat) (s : State) : (State.skipRows n s).ru = s.ru := by
  unfold State.skipRows
  split <;> rfl
@[simp] theorem State.skipRows_mc (n : Nat) (s : State) : (State.skipRows n s).mc = s.mc := by
  unfold State.skipRows
  split <;> rfl
@[simp] theorem State.skipRows_mem (n : Nat) (s : State) : (State.skipRows n s).mem = s.mem := by
  unfold State.skipRows
  split <;> rfl
@[simp] theorem State.skipRows_pending (n : Nat) (s : State) : (State.skipRows n s).pending = s.pending := by
  unfold State.skipRows
  split <;> rfl
@[simp] theorem State.openRow_fault (r : Nat) (s : State) : (State.openRow r s).fault = s.fault := by
  simp [State.openRow]
@[simp] theorem State.openRow_upstream (r : Nat) (s : State) : (State.openRow r s).upstream = s.upstream := by
  simp [State.openRow]
@[simp] theorem State.openRow_completion (r : Nat) (s : State) : (State.openRow r s).completion = s.completion := by
  simp [State.openRow]
@[simp] theorem State.openRow_cu (r : Nat) (s : State) : (State.openRow r s).cu = s.cu := by simp [State.openRow]
@[simp] theorem State.openRow_fl (r : Nat) (s : State) : (State.openRow r s).fl = s.fl := by simp [State.openRow]
@[simp] theorem State.openRow_mc (r : Nat) (s : State) : (State.openRow r s).mc = s.mc := by simp [State.openRow]
@[simp] theorem State.openRow_mem (r : Nat) (s : State) : (State.openRow r s).mem = s.mem := by simp [State.openRow]
@[simp] theorem State.openRow_pending (r : Nat) (s : State) : (State.openRow r s).pending = s.pending := by
  simp [State.openRow]
@[simp] theorem State.moveTracker_fault (r : Nat) (s : State) : (State.moveTracker r s).fault = s.fault := by
  unfold State.moveTracker
  dsimp only; (repeat' split) <;> simp
@[simp] theorem State.moveTracker_upstream (r : Nat) (s : State) : (State.moveTracker r s).upstream = s.upstream := by
  unfold State.moveTracker
  dsimp only; (repeat' split) <;> simp
@[simp] theorem State.moveTracker_completion (r : Nat) (s : State) : (State.moveTracker r s).completion = s.completion := by
  unfold State.moveTracker
  dsimp only; (repeat' split) <;> simp
@[simp] theorem State.moveTracker_cu (r : Nat) (s : State) : (State.moveTracker r s).cu = s.cu := by
  unfold State.moveTracker
  dsimp only; (repeat' split) <;> simp
@[simp] theorem State.moveTracker_mc (r : Nat) (s : State) : (State.moveTracker r s).mc = s.mc := by
  unfold State.moveTracker
  dsimp only; (repeat' split) <;> simp
@[simp] theorem State.moveTracker_mem (r : Nat) (s : State) : (State.moveTracker r s).mem = s.mem := by
  unfold State.moveTracker
  dsimp only; (repeat' split) <;> simp
@[simp] theorem State.moveTracker_pending (r : Nat) (s : State) : (State.moveTracker r s).pending = s.pending := by
  unfold State.moveTracker
  dsimp only; (repeat' split) <;> simp
@[simp] theorem State.settleEffect_fault (r c : Nat) (t : Bool) (g i : Nat) (s : State) : (State.settleEffect r c t g i s).fault = s.fault := by
  unfold State.settleEffect
  (repeat' split) <;> rfl
@[simp] theorem State.settleEffect_upstream (r c : Nat) (t : Bool) (g i : Nat) (s : State) : (State.settleEffect r c t g i s).upstream = s.upstream := by
  unfold State.settleEffect
  (repeat' split) <;> rfl
@[simp] theorem State.settleEffect_completion (r c : Nat) (t : Bool) (g i : Nat) (s : State) : (State.settleEffect r c t g i s).completion = s.completion := by
  unfold State.settleEffect
  (repeat' split) <;> rfl
@[simp] theorem State.settleEffect_cu (r c : Nat) (t : Bool) (g i : Nat) (s : State) : (State.settleEffect r c t g i s).cu = s.cu := by
  unfold State.settleEffect
  (repeat' split) <;> rfl
@[simp] theorem State.settleEffect_fl (r c : Nat) (t : Bool) (g i : Nat) (s : State) : (State.settleEffect r c t g i s).fl = s.fl := by
  unfold State.settleEffect
  (repeat' split) <;> rfl
@[simp] theorem State.settleEffect_bt (r c : Nat) (t : Bool) (g i : Nat) (s : State) : (State.settleEffect r c t g i s).bt = s.bt := by
  unfold State.settleEffect
  (repeat' split) <;> rfl
@[simp] theorem State.settleEffect_lw (r c : Nat) (t : Bool) (g i : Nat) (s : State) : (State.settleEffect r c t g i s).lw = s.lw := by
  unfold State.settleEffect
  (repeat' split) <;> rfl
@[simp] theorem State.settleEffect_ru (r c : Nat) (t : Bool) (g i : Nat) (s : State) : (State.settleEffect r c t g i s).ru = s.ru := by
  unfold State.settleEffect
  (repeat' split) <;> rfl
@[simp] theorem State.settleEffect_mc (r c : Nat) (t : Bool) (g i : Nat) (s : State) : (State.settleEffect r c t g i s).mc = s.mc := by
  unfold State.settleEffect
  (repeat' split) <;> rfl
@[simp] theorem State.settleEffect_mem (r c : Nat) (t : Bool) (g i : Nat) (s : State) : (State.settleEffect r c t g i s).mem = s.mem := by
  unfold State.settleEffect
  (repeat' split) <;> rfl
@[simp] theorem State.settleEffect_pending (r c : Nat) (t : Bool) (g i : Nat) (s : State) : (State.settleEffect r c t g i s).pending = s.pending := by
  unfold State.settleEffect
  (repeat' split) <;> rfl
@[simp] theorem State.settlePixel_fault (r c : Nat) (t : Bool) (g i : Nat) (s : State) : (State.settlePixel r c t g i s).fault = s.fault := by
  unfold State.settlePixel
  dsimp only; (repeat' split) <;> simp
@[simp] theorem State.settlePixel_upstream (r c : Nat) (t : Bool) (g i : Nat) (s : State) : (State.settlePixel r c t g i s).upstream = s.upstream := by
  unfold State.settlePixel
  dsimp only; (repeat' split) <;> simp
@[simp] theorem State.settlePixel_completion (r c : Nat) (t : Bool) (g i : Nat) (s : State) : (State.settlePixel r c t g i s).completion = s.completion := by
  unfold State.settlePixel
  dsimp only; (repeat' split) <;> simp
@[simp] theorem State.settlePixel_cu (r c : Nat) (t : Bool) (g i : Nat) (s : State) : (State.settlePixel r c t g i s).cu = s.cu := by
  unfold State.settlePixel
  dsimp only; (repeat' split) <;> simp
@[simp] theorem State.settlePixel_mc (r c : Nat) (t : Bool) (g i : Nat) (s : State) : (State.settlePixel r c t g i s).mc = s.mc := by
  unfold State.settlePixel
  dsimp only; (repeat' split) <;> simp
@[simp] theorem State.settlePixel_mem (r c : Nat) (t : Bool) (g i : Nat) (s : State) : (State.settlePixel r c t g i s).mem = s.mem := by
  unfold State.settlePixel
  dsimp only; (repeat' split) <;> simp
@[simp] theorem State.settlePixel_pending (r c : Nat) (t : Bool) (g i : Nat) (s : State) : (State.settlePixel r c t g i s).pending = s.pending := by
  unfold State.settlePixel
  dsimp only; (repeat' split) <;> simp
@[simp] theorem State.pairWord_fault (p : IntakePlace) (b : Beat) (s : State) : (State.pairWord p b s).fault = s.fault := by
  unfold State.pairWord
  dsimp only; (repeat' split) <;> simp
@[simp] theorem State.pairWord_upstream (p : IntakePlace) (b : Beat) (s : State) : (State.pairWord p b s).upstream = s.upstream := by
  unfold State.pairWord
  dsimp only; (repeat' split) <;> simp
@[simp] theorem State.pairWord_completion (p : IntakePlace) (b : Beat) (s : State) : (State.pairWord p b s).completion = s.completion := by
  unfold State.pairWord
  dsimp only; (repeat' split) <;> simp
@[simp] theorem State.pairWord_cu (p : IntakePlace) (b : Beat) (s : State) : (State.pairWord p b s).cu = s.cu := by
  unfold State.pairWord
  dsimp only; (repeat' split) <;> simp
@[simp] theorem State.pairWord_mc (p : IntakePlace) (b : Beat) (s : State) : (State.pairWord p b s).mc = s.mc := by
  unfold State.pairWord
  dsimp only; (repeat' split) <;> simp
@[simp] theorem State.pairWord_mem (p : IntakePlace) (b : Beat) (s : State) : (State.pairWord p b s).mem = s.mem := by
  unfold State.pairWord
  dsimp only; (repeat' split) <;> simp
@[simp] theorem State.pairWord_pending (p : IntakePlace) (b : Beat) (s : State) : (State.pairWord p b s).pending = s.pending := by
  unfold State.pairWord
  dsimp only; (repeat' split) <;> simp
@[simp] theorem State.settleOwn_fault (p : IntakePlace) (b : Beat) (q : Option PendingWord) (s : State) : (State.settleOwn p b q s).fault = s.fault := by
  unfold State.settleOwn
  (repeat' split) <;> simp
@[simp] theorem State.settleOwn_upstream (p : IntakePlace) (b : Beat) (q : Option PendingWord) (s : State) : (State.settleOwn p b q s).upstream = s.upstream := by
  unfold State.settleOwn
  (repeat' split) <;> simp
@[simp] theorem State.settleOwn_completion (p : IntakePlace) (b : Beat) (q : Option PendingWord) (s : State) : (State.settleOwn p b q s).completion = s.completion := by
  unfold State.settleOwn
  (repeat' split) <;> simp
@[simp] theorem State.settleOwn_cu (p : IntakePlace) (b : Beat) (q : Option PendingWord) (s : State) : (State.settleOwn p b q s).cu = s.cu := by
  unfold State.settleOwn
  (repeat' split) <;> simp
@[simp] theorem State.settleOwn_mc (p : IntakePlace) (b : Beat) (q : Option PendingWord) (s : State) : (State.settleOwn p b q s).mc = s.mc := by
  unfold State.settleOwn
  (repeat' split) <;> simp
@[simp] theorem State.settleOwn_mem (p : IntakePlace) (b : Beat) (q : Option PendingWord) (s : State) : (State.settleOwn p b q s).mem = s.mem := by
  unfold State.settleOwn
  (repeat' split) <;> simp
@[simp] theorem State.settleOwn_pending (p : IntakePlace) (b : Beat) (q : Option PendingWord) (s : State) : (State.settleOwn p b q s).pending = s.pending := by
  unfold State.settleOwn
  (repeat' split) <;> simp
@[simp] theorem State.takeHalf_fault (r : Nat) (v : SlotId) (s : State) : (State.takeHalf r v s).fault = s.fault := by
  unfold State.takeHalf
  dsimp only; (repeat' split) <;> rfl
@[simp] theorem State.takeHalf_upstream (r : Nat) (v : SlotId) (s : State) : (State.takeHalf r v s).upstream = s.upstream := by
  unfold State.takeHalf
  dsimp only; (repeat' split) <;> rfl
@[simp] theorem State.takeHalf_completion (r : Nat) (v : SlotId) (s : State) : (State.takeHalf r v s).completion = s.completion := by
  unfold State.takeHalf
  dsimp only; (repeat' split) <;> rfl
@[simp] theorem State.takeHalf_cu (r : Nat) (v : SlotId) (s : State) : (State.takeHalf r v s).cu = s.cu := by
  unfold State.takeHalf
  dsimp only; (repeat' split) <;> rfl
@[simp] theorem State.takeHalf_fl (r : Nat) (v : SlotId) (s : State) : (State.takeHalf r v s).fl = s.fl := by
  unfold State.takeHalf
  dsimp only; (repeat' split) <;> rfl
@[simp] theorem State.takeHalf_bt (r : Nat) (v : SlotId) (s : State) : (State.takeHalf r v s).bt = s.bt := by
  unfold State.takeHalf
  dsimp only; (repeat' split) <;> rfl
@[simp] theorem State.takeHalf_lw (r : Nat) (v : SlotId) (s : State) : (State.takeHalf r v s).lw = s.lw := by
  unfold State.takeHalf
  dsimp only; (repeat' split) <;> rfl
@[simp] theorem State.takeHalf_ru (r : Nat) (v : SlotId) (s : State) : (State.takeHalf r v s).ru = s.ru := by
  unfold State.takeHalf
  dsimp only; (repeat' split) <;> rfl
@[simp] theorem State.takeHalf_mc (r : Nat) (v : SlotId) (s : State) : (State.takeHalf r v s).mc = s.mc := by
  unfold State.takeHalf
  dsimp only; (repeat' split) <;> rfl
@[simp] theorem State.takeHalf_mem (r : Nat) (v : SlotId) (s : State) : (State.takeHalf r v s).mem = s.mem := by
  unfold State.takeHalf
  dsimp only; (repeat' split) <;> rfl
@[simp] theorem State.takeHalf_pending (r : Nat) (v : SlotId) (s : State) : (State.takeHalf r v s).pending = s.pending := by
  unfold State.takeHalf
  dsimp only; (repeat' split) <;> rfl
@[simp] theorem State.raiseNewest_fault (v : SlotId) (y : Nat) (s : State) : (State.raiseNewest v y s).fault = s.fault := by
  unfold State.raiseNewest
  dsimp only; (repeat' split) <;> rfl
@[simp] theorem State.raiseNewest_completion (v : SlotId) (y : Nat) (s : State) : (State.raiseNewest v y s).completion = s.completion := by
  unfold State.raiseNewest
  dsimp only; (repeat' split) <;> rfl
@[simp] theorem State.raiseNewest_cu (v : SlotId) (y : Nat) (s : State) : (State.raiseNewest v y s).cu = s.cu := by
  unfold State.raiseNewest
  dsimp only; (repeat' split) <;> rfl
@[simp] theorem State.raiseNewest_iu (v : SlotId) (y : Nat) (s : State) : (State.raiseNewest v y s).iu = s.iu := by
  unfold State.raiseNewest
  dsimp only; (repeat' split) <;> rfl
@[simp] theorem State.raiseNewest_lw (v : SlotId) (y : Nat) (s : State) : (State.raiseNewest v y s).lw = s.lw := by
  unfold State.raiseNewest
  dsimp only; (repeat' split) <;> rfl
@[simp] theorem State.raiseNewest_ru (v : SlotId) (y : Nat) (s : State) : (State.raiseNewest v y s).ru = s.ru := by
  unfold State.raiseNewest
  dsimp only; (repeat' split) <;> rfl
@[simp] theorem State.raiseNewest_mc (v : SlotId) (y : Nat) (s : State) : (State.raiseNewest v y s).mc = s.mc := by
  unfold State.raiseNewest
  dsimp only; (repeat' split) <;> rfl
@[simp] theorem State.raiseNewest_mem (v : SlotId) (y : Nat) (s : State) : (State.raiseNewest v y s).mem = s.mem := by
  unfold State.raiseNewest
  dsimp only; (repeat' split) <;> rfl
@[simp] theorem State.raiseNewest_pending (v : SlotId) (y : Nat) (s : State) : (State.raiseNewest v y s).pending = s.pending := by
  unfold State.raiseNewest
  dsimp only; (repeat' split) <;> rfl
@[simp] theorem State.startSlot_fault (v : SlotId) (s : State) : (State.startSlot v s).fault = s.fault := by
  unfold State.startSlot
  dsimp only; (repeat' split) <;> simp
@[simp] theorem State.startSlot_upstream (v : SlotId) (s : State) : (State.startSlot v s).upstream = s.upstream := by
  unfold State.startSlot
  dsimp only; (repeat' split) <;> simp
@[simp] theorem State.startSlot_completion (v : SlotId) (s : State) : (State.startSlot v s).completion = s.completion := by
  unfold State.startSlot
  dsimp only; (repeat' split) <;> simp
@[simp] theorem State.startSlot_cu (v : SlotId) (s : State) : (State.startSlot v s).cu = s.cu := by
  unfold State.startSlot
  dsimp only; (repeat' split) <;> simp
@[simp] theorem State.startSlot_mc (v : SlotId) (s : State) : (State.startSlot v s).mc = s.mc := by
  unfold State.startSlot
  dsimp only; (repeat' split) <;> simp
@[simp] theorem State.startSlot_mem (v : SlotId) (s : State) : (State.startSlot v s).mem = s.mem := by
  unfold State.startSlot
  dsimp only; (repeat' split) <;> simp
@[simp] theorem State.startSlot_pending (v : SlotId) (s : State) : (State.startSlot v s).pending = s.pending := by
  unfold State.startSlot
  dsimp only; (repeat' split) <;> simp
@[simp] theorem State.storeCapture_fault (p : IntakePlace) (b : Beat) (l : Bool) (s : State) : (State.storeCapture p b l s).fault = s.fault := by
  unfold State.storeCapture
  dsimp only; (repeat' split) <;> simp
@[simp] theorem State.storeCapture_completion (p : IntakePlace) (b : Beat) (l : Bool) (s : State) : (State.storeCapture p b l s).completion = s.completion := by
  unfold State.storeCapture
  dsimp only; (repeat' split) <;> simp
@[simp] theorem State.storeCapture_cu (p : IntakePlace) (b : Beat) (l : Bool) (s : State) : (State.storeCapture p b l s).cu = s.cu := by
  unfold State.storeCapture
  dsimp only; (repeat' split) <;> simp
@[simp] theorem State.storeCapture_mc (p : IntakePlace) (b : Beat) (l : Bool) (s : State) : (State.storeCapture p b l s).mc = s.mc := by
  unfold State.storeCapture
  dsimp only; (repeat' split) <;> simp
@[simp] theorem State.storeCapture_pending (p : IntakePlace) (b : Beat) (l : Bool) (s : State) : (State.storeCapture p b l s).pending = s.pending := by
  unfold State.storeCapture
  dsimp only; (repeat' split) <;> simp
@[simp] theorem State.countLate_fault (s : State) : (State.countLate s).fault = s.fault := by
  unfold State.countLate
  (repeat' split) <;> simp
@[simp] theorem State.countLate_completion (s : State) : (State.countLate s).completion = s.completion := by
  unfold State.countLate
  (repeat' split) <;> simp
@[simp] theorem State.countLate_cu (s : State) : (State.countLate s).cu = s.cu := by
  unfold State.countLate
  (repeat' split) <;> simp
@[simp] theorem State.countLate_iu (s : State) : (State.countLate s).iu = s.iu := by
  unfold State.countLate
  (repeat' split) <;> simp
@[simp] theorem State.countLate_fl (s : State) : (State.countLate s).fl = s.fl := by
  unfold State.countLate
  (repeat' split) <;> simp
@[simp] theorem State.countLate_bt (s : State) : (State.countLate s).bt = s.bt := by
  unfold State.countLate
  (repeat' split) <;> simp
@[simp] theorem State.countLate_lw (s : State) : (State.countLate s).lw = s.lw := by
  unfold State.countLate
  (repeat' split) <;> simp
@[simp] theorem State.countLate_mc (s : State) : (State.countLate s).mc = s.mc := by
  unfold State.countLate
  (repeat' split) <;> simp
@[simp] theorem State.countLate_mem (s : State) : (State.countLate s).mem = s.mem := by
  unfold State.countLate
  (repeat' split) <;> simp
@[simp] theorem State.countLate_pending (s : State) : (State.countLate s).pending = s.pending := by
  unfold State.countLate
  (repeat' split) <;> simp
@[simp] theorem State.intakeWord_fault (w : PassState) (r : StripRecord) (p : IntakePlace) (b : Beat) (s : State) : (State.intakeWord w r p b s).fault = s.fault := by
  unfold State.intakeWord
  dsimp only; cases w <;> (repeat' split) <;> simp
@[simp] theorem State.intakeWord_completion (w : PassState) (r : StripRecord) (p : IntakePlace) (b : Beat) (s : State) : (State.intakeWord w r p b s).completion = s.completion := by
  unfold State.intakeWord
  dsimp only; cases w <;> (repeat' split) <;> simp
@[simp] theorem State.intakeWord_cu (w : PassState) (r : StripRecord) (p : IntakePlace) (b : Beat) (s : State) : (State.intakeWord w r p b s).cu = s.cu := by
  unfold State.intakeWord
  dsimp only; cases w <;> (repeat' split) <;> simp
@[simp] theorem State.intakeWord_mc (w : PassState) (r : StripRecord) (p : IntakePlace) (b : Beat) (s : State) : (State.intakeWord w r p b s).mc = s.mc := by
  unfold State.intakeWord
  dsimp only; cases w <;> (repeat' split) <;> simp
@[simp] theorem State.intakeWord_pending (w : PassState) (r : StripRecord) (p : IntakePlace) (b : Beat) (s : State) : (State.intakeWord w r p b s).pending = s.pending := by
  unfold State.intakeWord
  dsimp only; cases w <;> (repeat' split) <;> simp
@[simp] theorem State.endPassEffect_fault (s : State) : (State.endPassEffect s).fault = s.fault := by
  unfold State.endPassEffect
  dsimp only; (repeat' split) <;> simp
@[simp] theorem State.endPassEffect_upstream (s : State) : (State.endPassEffect s).upstream = s.upstream := by
  unfold State.endPassEffect
  dsimp only; (repeat' split) <;> simp
@[simp] theorem State.endPassEffect_completion (s : State) : (State.endPassEffect s).completion = s.completion := by
  unfold State.endPassEffect
  dsimp only; (repeat' split) <;> simp
@[simp] theorem State.endPassEffect_cu (s : State) : (State.endPassEffect s).cu = s.cu := by
  unfold State.endPassEffect
  dsimp only; (repeat' split) <;> simp
@[simp] theorem State.endPassEffect_mc (s : State) : (State.endPassEffect s).mc = s.mc := by
  unfold State.endPassEffect
  dsimp only; (repeat' split) <;> simp
@[simp] theorem State.endPassEffect_mem (s : State) : (State.endPassEffect s).mem = s.mem := by
  unfold State.endPassEffect
  dsimp only; (repeat' split) <;> simp
@[simp] theorem State.endPassEffect_pending (s : State) : (State.endPassEffect s).pending = s.pending := by
  unfold State.endPassEffect
  dsimp only; (repeat' split) <;> simp
@[simp] theorem State.followNext_fault (s : State) : (State.followNext s).fault = s.fault := by
  unfold State.followNext
  dsimp only; split <;> simp
@[simp] theorem State.followNext_upstream (s : State) : (State.followNext s).upstream = s.upstream := by
  unfold State.followNext
  dsimp only; split <;> simp
@[simp] theorem State.followNext_completion (s : State) : (State.followNext s).completion = s.completion := by
  unfold State.followNext
  dsimp only; split <;> simp
@[simp] theorem State.followNext_cu (s : State) : (State.followNext s).cu = s.cu := by
  unfold State.followNext
  dsimp only; split <;> simp
@[simp] theorem State.followNext_iu (s : State) : (State.followNext s).iu = s.iu := by
  unfold State.followNext
  dsimp only; split <;> simp
@[simp] theorem State.followNext_fl (s : State) : (State.followNext s).fl = s.fl := by
  unfold State.followNext
  dsimp only; split <;> simp
@[simp] theorem State.followNext_bt (s : State) : (State.followNext s).bt = s.bt := by
  unfold State.followNext
  dsimp only; split <;> simp
@[simp] theorem State.followNext_mc (s : State) : (State.followNext s).mc = s.mc := by
  unfold State.followNext
  dsimp only; split <;> simp
@[simp] theorem State.followNext_mem (s : State) : (State.followNext s).mem = s.mem := by
  unfold State.followNext
  dsimp only; split <;> simp
@[simp] theorem State.followNext_pending (s : State) : (State.followNext s).pending = s.pending := by
  unfold State.followNext
  dsimp only; split <;> simp
@[simp] theorem State.loadDescriptor_fault (s : State) : (State.loadDescriptor s).fault = s.fault := by
  unfold State.loadDescriptor
  dsimp only; split <;> rfl
@[simp] theorem State.loadDescriptor_upstream (s : State) : (State.loadDescriptor s).upstream = s.upstream := by
  unfold State.loadDescriptor
  dsimp only; split <;> rfl
@[simp] theorem State.loadDescriptor_completion (s : State) : (State.loadDescriptor s).completion = s.completion := by
  unfold State.loadDescriptor
  dsimp only; split <;> rfl
@[simp] theorem State.loadDescriptor_cu (s : State) : (State.loadDescriptor s).cu = s.cu := by
  unfold State.loadDescriptor
  dsimp only; split <;> rfl
@[simp] theorem State.loadDescriptor_iu (s : State) : (State.loadDescriptor s).iu = s.iu := by
  unfold State.loadDescriptor
  dsimp only; split <;> rfl
@[simp] theorem State.loadDescriptor_fl (s : State) : (State.loadDescriptor s).fl = s.fl := by
  unfold State.loadDescriptor
  dsimp only; split <;> rfl
@[simp] theorem State.loadDescriptor_bt (s : State) : (State.loadDescriptor s).bt = s.bt := by
  unfold State.loadDescriptor
  dsimp only; split <;> rfl
@[simp] theorem State.loadDescriptor_ru (s : State) : (State.loadDescriptor s).ru = s.ru := by
  unfold State.loadDescriptor
  dsimp only; split <;> rfl
@[simp] theorem State.loadDescriptor_mc (s : State) : (State.loadDescriptor s).mc = s.mc := by
  unfold State.loadDescriptor
  dsimp only; split <;> rfl
@[simp] theorem State.loadDescriptor_mem (s : State) : (State.loadDescriptor s).mem = s.mem := by
  unfold State.loadDescriptor
  dsimp only; split <;> rfl
@[simp] theorem State.loadDescriptor_pending (s : State) : (State.loadDescriptor s).pending = s.pending := by
  unfold State.loadDescriptor
  dsimp only; split <;> rfl
@[simp] theorem State.closeRejected_fault (s : State) : (State.closeRejected s).fault = s.fault := by
  unfold State.closeRejected
  dsimp only; split <;> simp
@[simp] theorem State.closeRejected_upstream (s : State) : (State.closeRejected s).upstream = s.upstream := by
  unfold State.closeRejected
  dsimp only; split <;> simp
@[simp] theorem State.closeRejected_completion (s : State) : (State.closeRejected s).completion = s.completion := by
  unfold State.closeRejected
  dsimp only; split <;> simp
@[simp] theorem State.closeRejected_cu (s : State) : (State.closeRejected s).cu = s.cu := by
  unfold State.closeRejected
  dsimp only; split <;> simp
@[simp] theorem State.closeRejected_iu (s : State) : (State.closeRejected s).iu = s.iu := by
  unfold State.closeRejected
  dsimp only; split <;> simp
@[simp] theorem State.closeRejected_fl (s : State) : (State.closeRejected s).fl = s.fl := by
  unfold State.closeRejected
  dsimp only; split <;> simp
@[simp] theorem State.closeRejected_bt (s : State) : (State.closeRejected s).bt = s.bt := by
  unfold State.closeRejected
  dsimp only; split <;> simp
@[simp] theorem State.closeRejected_mc (s : State) : (State.closeRejected s).mc = s.mc := by
  unfold State.closeRejected
  dsimp only; split <;> simp
@[simp] theorem State.closeRejected_pending (s : State) : (State.closeRejected s).pending = s.pending := by
  unfold State.closeRejected
  dsimp only; split <;> simp
@[simp] theorem State.closeFull_fault (s : State) : (State.closeFull s).fault = s.fault := by simp [State.closeFull]
@[simp] theorem State.closeFull_upstream (s : State) : (State.closeFull s).upstream = s.upstream := by
  simp [State.closeFull]
@[simp] theorem State.closeFull_completion (s : State) : (State.closeFull s).completion = s.completion := by
  simp [State.closeFull]
@[simp] theorem State.closeFull_cu (s : State) : (State.closeFull s).cu = s.cu := by simp [State.closeFull]
@[simp] theorem State.closeFull_iu (s : State) : (State.closeFull s).iu = s.iu := by simp [State.closeFull]
@[simp] theorem State.closeFull_fl (s : State) : (State.closeFull s).fl = s.fl := by simp [State.closeFull]
@[simp] theorem State.closeFull_bt (s : State) : (State.closeFull s).bt = s.bt := by simp [State.closeFull]
@[simp] theorem State.closeFull_mc (s : State) : (State.closeFull s).mc = s.mc := by simp [State.closeFull]
@[simp] theorem State.closeFull_pending (s : State) : (State.closeFull s).pending = s.pending := by
  simp [State.closeFull]
@[simp] theorem State.closeFrameEnd_fault (v : SlotId) (s : State) : (State.closeFrameEnd v s).fault = s.fault := by
  simp [State.closeFrameEnd]
@[simp] theorem State.closeFrameEnd_upstream (v : SlotId) (s : State) : (State.closeFrameEnd v s).upstream = s.upstream := by
  simp [State.closeFrameEnd]
@[simp] theorem State.closeFrameEnd_completion (v : SlotId) (s : State) : (State.closeFrameEnd v s).completion = s.completion := by
  simp [State.closeFrameEnd]
@[simp] theorem State.closeFrameEnd_cu (v : SlotId) (s : State) : (State.closeFrameEnd v s).cu = s.cu := by
  simp [State.closeFrameEnd]
@[simp] theorem State.closeFrameEnd_iu (v : SlotId) (s : State) : (State.closeFrameEnd v s).iu = s.iu := by
  simp [State.closeFrameEnd]
@[simp] theorem State.closeFrameEnd_fl (v : SlotId) (s : State) : (State.closeFrameEnd v s).fl = s.fl := by
  simp [State.closeFrameEnd]
@[simp] theorem State.closeFrameEnd_bt (v : SlotId) (s : State) : (State.closeFrameEnd v s).bt = s.bt := by
  simp [State.closeFrameEnd]
@[simp] theorem State.closeFrameEnd_mc (v : SlotId) (s : State) : (State.closeFrameEnd v s).mc = s.mc := by
  simp [State.closeFrameEnd]
@[simp] theorem State.closeFrameEnd_pending (v : SlotId) (s : State) : (State.closeFrameEnd v s).pending = s.pending := by
  simp [State.closeFrameEnd]
@[simp] theorem State.watchedWrite_fault (b : Beat) (s : State) : (State.watchedWrite b s).fault = s.fault := by
  unfold State.watchedWrite
  dsimp only; (repeat' split) <;> simp
@[simp] theorem State.watchedWrite_upstream (b : Beat) (s : State) : (State.watchedWrite b s).upstream = s.upstream := by
  unfold State.watchedWrite
  dsimp only; (repeat' split) <;> simp
@[simp] theorem State.watchedWrite_completion (b : Beat) (s : State) : (State.watchedWrite b s).completion = s.completion := by
  unfold State.watchedWrite
  dsimp only; (repeat' split) <;> simp
@[simp] theorem State.watchedWrite_cu (b : Beat) (s : State) : (State.watchedWrite b s).cu = s.cu := by
  unfold State.watchedWrite
  dsimp only; (repeat' split) <;> simp
@[simp] theorem State.watchedWrite_iu (b : Beat) (s : State) : (State.watchedWrite b s).iu = s.iu := by
  unfold State.watchedWrite
  dsimp only; (repeat' split) <;> simp
@[simp] theorem State.watchedWrite_fl (b : Beat) (s : State) : (State.watchedWrite b s).fl = s.fl := by
  unfold State.watchedWrite
  dsimp only; (repeat' split) <;> simp
@[simp] theorem State.watchedWrite_bt (b : Beat) (s : State) : (State.watchedWrite b s).bt = s.bt := by
  unfold State.watchedWrite
  dsimp only; (repeat' split) <;> simp
@[simp] theorem State.watchedWrite_mc (b : Beat) (s : State) : (State.watchedWrite b s).mc = s.mc := by
  unfold State.watchedWrite
  dsimp only; (repeat' split) <;> simp
@[simp] theorem State.watchedWrite_mem (b : Beat) (s : State) : (State.watchedWrite b s).mem = s.mem := by
  unfold State.watchedWrite
  dsimp only; (repeat' split) <;> simp
@[simp] theorem State.watchedWrite_pending (b : Beat) (s : State) : (State.watchedWrite b s).pending = s.pending := by
  unfold State.watchedWrite
  dsimp only; (repeat' split) <;> simp
@[simp] theorem State.attachChain_upstream (h : Nat) (s : State) : (State.attachChain h s).upstream = s.upstream := by
  unfold State.attachChain
  split <;> simp
@[simp] theorem State.attachChain_completion (h : Nat) (s : State) : (State.attachChain h s).completion = s.completion := by
  unfold State.attachChain
  split <;> simp
@[simp] theorem State.attachChain_cu (h : Nat) (s : State) : (State.attachChain h s).cu = s.cu := by
  unfold State.attachChain
  split <;> simp
@[simp] theorem State.attachChain_iu (h : Nat) (s : State) : (State.attachChain h s).iu = s.iu := by
  unfold State.attachChain
  split <;> simp
@[simp] theorem State.attachChain_fl (h : Nat) (s : State) : (State.attachChain h s).fl = s.fl := by
  unfold State.attachChain
  split <;> simp
@[simp] theorem State.attachChain_bt (h : Nat) (s : State) : (State.attachChain h s).bt = s.bt := by
  unfold State.attachChain
  split <;> simp
@[simp] theorem State.attachChain_mc (h : Nat) (s : State) : (State.attachChain h s).mc = s.mc := by
  unfold State.attachChain
  split <;> simp
@[simp] theorem State.attachChain_mem (h : Nat) (s : State) : (State.attachChain h s).mem = s.mem := by
  unfold State.attachChain
  split <;> simp
@[simp] theorem State.attachChain_pending (h : Nat) (s : State) : (State.attachChain h s).pending = s.pending := by
  unfold State.attachChain
  split <;> simp
@[simp] theorem State.grantUpstream_fault (s : State) : (State.grantUpstream s).fault = s.fault := by
  unfold State.grantUpstream
  dsimp only; split <;> simp
@[simp] theorem State.grantUpstream_completion (s : State) : (State.grantUpstream s).completion = s.completion := by
  unfold State.grantUpstream
  dsimp only; split <;> simp
@[simp] theorem State.grantUpstream_cu (s : State) : (State.grantUpstream s).cu = s.cu := by
  unfold State.grantUpstream
  dsimp only; split <;> simp
@[simp] theorem State.grantUpstream_iu (s : State) : (State.grantUpstream s).iu = s.iu := by
  unfold State.grantUpstream
  dsimp only; split <;> simp
@[simp] theorem State.grantUpstream_fl (s : State) : (State.grantUpstream s).fl = s.fl := by
  unfold State.grantUpstream
  dsimp only; split <;> simp
@[simp] theorem State.grantUpstream_bt (s : State) : (State.grantUpstream s).bt = s.bt := by
  unfold State.grantUpstream
  dsimp only; split <;> simp
@[simp] theorem State.grantUpstream_lw (s : State) : (State.grantUpstream s).lw = s.lw := by
  unfold State.grantUpstream
  dsimp only; split <;> simp
@[simp] theorem State.grantUpstream_mem (s : State) : (State.grantUpstream s).mem = s.mem := by
  unfold State.grantUpstream
  dsimp only; split <;> simp
@[simp] theorem State.grantUpstream_pending (s : State) : (State.grantUpstream s).pending = s.pending := by
  unfold State.grantUpstream
  dsimp only; split <;> simp
@[simp] theorem State.grantList_fault (s : State) : (State.grantList s).fault = s.fault := by
  unfold State.grantList
  split <;> rfl
@[simp] theorem State.grantList_upstream (s : State) : (State.grantList s).upstream = s.upstream := by
  unfold State.grantList
  split <;> rfl
@[simp] theorem State.grantList_completion (s : State) : (State.grantList s).completion = s.completion := by
  unfold State.grantList
  split <;> rfl
@[simp] theorem State.grantList_cu (s : State) : (State.grantList s).cu = s.cu := by
  unfold State.grantList
  split <;> rfl
@[simp] theorem State.grantList_iu (s : State) : (State.grantList s).iu = s.iu := by
  unfold State.grantList
  split <;> rfl
@[simp] theorem State.grantList_fl (s : State) : (State.grantList s).fl = s.fl := by
  unfold State.grantList
  split <;> rfl
@[simp] theorem State.grantList_bt (s : State) : (State.grantList s).bt = s.bt := by
  unfold State.grantList
  split <;> rfl
@[simp] theorem State.grantList_lw (s : State) : (State.grantList s).lw = s.lw := by
  unfold State.grantList
  split <;> rfl
@[simp] theorem State.grantList_ru (s : State) : (State.grantList s).ru = s.ru := by
  unfold State.grantList
  split <;> rfl
@[simp] theorem State.grantList_mem (s : State) : (State.grantList s).mem = s.mem := by
  unfold State.grantList
  split <;> rfl
@[simp] theorem State.grantList_pending (s : State) : (State.grantList s).pending = s.pending := by
  unfold State.grantList
  split <;> rfl
@[simp] theorem State.grant_fault (w : Requester) (s : State) : (State.grant w s).fault = s.fault := by
  cases w <;> simp [State.grant]
@[simp] theorem State.grant_completion (w : Requester) (s : State) : (State.grant w s).completion = s.completion := by
  cases w <;> simp [State.grant]
@[simp] theorem State.grant_cu (w : Requester) (s : State) : (State.grant w s).cu = s.cu := by
  cases w <;> simp [State.grant]
@[simp] theorem State.grant_iu (w : Requester) (s : State) : (State.grant w s).iu = s.iu := by
  cases w <;> simp [State.grant]
@[simp] theorem State.grant_bt (w : Requester) (s : State) : (State.grant w s).bt = s.bt := by
  cases w <;> simp [State.grant]
@[simp] theorem State.grant_lw (w : Requester) (s : State) : (State.grant w s).lw = s.lw := by
  cases w <;> simp [State.grant]
@[simp] theorem State.grant_mem (w : Requester) (s : State) : (State.grant w s).mem = s.mem := by
  cases w <;> simp [State.grant]
@[simp] theorem State.grant_pending (w : Requester) (s : State) : (State.grant w s).pending = s.pending := by
  cases w <;> simp [State.grant]
@[simp] theorem State.finishOperation_completion (s : State) : (State.finishOperation s).completion = s.completion := by
  simp [State.finishOperation]
@[simp] theorem State.finishOperation_mem (s : State) : (State.finishOperation s).mem = s.mem := by
  simp [State.finishOperation]
@[simp] theorem State.finishOperation_pending (s : State) : (State.finishOperation s).pending = s.pending := by
  simp [State.finishOperation]
@[simp] theorem State.wordFault_completion (k : FaultKind) (v : Option SlotId) (w : WordItem) (s : State) : (State.wordFault k v w s).completion = s.completion := by
  unfold State.wordFault
  (repeat' split) <;> simp
@[simp] theorem State.wordFault_cu (k : FaultKind) (v : Option SlotId) (w : WordItem) (s : State) : (State.wordFault k v w s).cu = s.cu := by
  unfold State.wordFault
  (repeat' split) <;> simp
@[simp] theorem State.wordFault_iu (k : FaultKind) (v : Option SlotId) (w : WordItem) (s : State) : (State.wordFault k v w s).iu = s.iu := by
  unfold State.wordFault
  (repeat' split) <;> simp
@[simp] theorem State.wordFault_fl (k : FaultKind) (v : Option SlotId) (w : WordItem) (s : State) : (State.wordFault k v w s).fl = s.fl := by
  unfold State.wordFault
  (repeat' split) <;> simp
@[simp] theorem State.wordFault_bt (k : FaultKind) (v : Option SlotId) (w : WordItem) (s : State) : (State.wordFault k v w s).bt = s.bt := by
  unfold State.wordFault
  (repeat' split) <;> simp
@[simp] theorem State.wordFault_lw (k : FaultKind) (v : Option SlotId) (w : WordItem) (s : State) : (State.wordFault k v w s).lw = s.lw := by
  unfold State.wordFault
  (repeat' split) <;> simp
@[simp] theorem State.wordFault_mc (k : FaultKind) (v : Option SlotId) (w : WordItem) (s : State) : (State.wordFault k v w s).mc = s.mc := by
  unfold State.wordFault
  (repeat' split) <;> simp
@[simp] theorem State.wordFault_mem (k : FaultKind) (v : Option SlotId) (w : WordItem) (s : State) : (State.wordFault k v w s).mem = s.mem := by
  unfold State.wordFault
  (repeat' split) <;> simp
@[simp] theorem State.wordFault_pending (k : FaultKind) (v : Option SlotId) (w : WordItem) (s : State) : (State.wordFault k v w s).pending = s.pending := by
  unfold State.wordFault
  (repeat' split) <;> simp
@[simp] theorem State.plainWriteEffect_fault (w : WordItem) (s : State) : (State.plainWriteEffect w s).fault = s.fault :=
  rfl
@[simp] theorem State.plainWriteEffect_completion (w : WordItem) (s : State) : (State.plainWriteEffect w s).completion = s.completion :=
  rfl
@[simp] theorem State.plainWriteEffect_cu (w : WordItem) (s : State) : (State.plainWriteEffect w s).cu = s.cu := rfl
@[simp] theorem State.plainWriteEffect_iu (w : WordItem) (s : State) : (State.plainWriteEffect w s).iu = s.iu := rfl
@[simp] theorem State.plainWriteEffect_fl (w : WordItem) (s : State) : (State.plainWriteEffect w s).fl = s.fl := rfl
@[simp] theorem State.plainWriteEffect_bt (w : WordItem) (s : State) : (State.plainWriteEffect w s).bt = s.bt := rfl
@[simp] theorem State.plainWriteEffect_lw (w : WordItem) (s : State) : (State.plainWriteEffect w s).lw = s.lw := rfl
@[simp] theorem State.plainWriteEffect_ru (w : WordItem) (s : State) : (State.plainWriteEffect w s).ru = s.ru := rfl
@[simp] theorem State.plainWriteEffect_mc (w : WordItem) (s : State) : (State.plainWriteEffect w s).mc = s.mc := rfl
@[simp] theorem State.plainWriteEffect_pending (w : WordItem) (s : State) : (State.plainWriteEffect w s).pending = s.pending :=
  rfl
@[simp] theorem State.plainReadEffect_fault (w : WordItem) (s : State) : (State.plainReadEffect w s).fault = s.fault := by
  unfold State.plainReadEffect
  dsimp only; split <;> simp
@[simp] theorem State.plainReadEffect_completion (w : WordItem) (s : State) : (State.plainReadEffect w s).completion = s.completion := by
  unfold State.plainReadEffect
  dsimp only; split <;> simp
@[simp] theorem State.plainReadEffect_cu (w : WordItem) (s : State) : (State.plainReadEffect w s).cu = s.cu := by
  unfold State.plainReadEffect
  dsimp only; split <;> simp
@[simp] theorem State.plainReadEffect_iu (w : WordItem) (s : State) : (State.plainReadEffect w s).iu = s.iu := by
  unfold State.plainReadEffect
  dsimp only; split <;> simp
@[simp] theorem State.plainReadEffect_fl (w : WordItem) (s : State) : (State.plainReadEffect w s).fl = s.fl := by
  unfold State.plainReadEffect
  dsimp only; split <;> simp
@[simp] theorem State.plainReadEffect_bt (w : WordItem) (s : State) : (State.plainReadEffect w s).bt = s.bt := by
  unfold State.plainReadEffect
  dsimp only; split <;> simp
@[simp] theorem State.plainReadEffect_lw (w : WordItem) (s : State) : (State.plainReadEffect w s).lw = s.lw := by
  unfold State.plainReadEffect
  dsimp only; split <;> simp
@[simp] theorem State.plainReadEffect_mc (w : WordItem) (s : State) : (State.plainReadEffect w s).mc = s.mc := by
  unfold State.plainReadEffect
  dsimp only; split <;> simp
@[simp] theorem State.plainReadEffect_mem (w : WordItem) (s : State) : (State.plainReadEffect w s).mem = s.mem := by
  unfold State.plainReadEffect
  dsimp only; split <;> simp
@[simp] theorem State.plainReadEffect_pending (w : WordItem) (s : State) : (State.plainReadEffect w s).pending = s.pending := by
  unfold State.plainReadEffect
  dsimp only; split <;> simp
@[simp] theorem State.commandSnoop_fault (o : Nat) (b : Beat) (s : State) : (State.commandSnoop o b s).fault = s.fault := by
  unfold State.commandSnoop
  (repeat' split) <;> simp
@[simp] theorem State.commandSnoop_upstream (o : Nat) (b : Beat) (s : State) : (State.commandSnoop o b s).upstream = s.upstream := by
  unfold State.commandSnoop
  (repeat' split) <;> simp
@[simp] theorem State.commandSnoop_completion (o : Nat) (b : Beat) (s : State) : (State.commandSnoop o b s).completion = s.completion := by
  unfold State.commandSnoop
  (repeat' split) <;> simp
@[simp] theorem State.commandSnoop_iu (o : Nat) (b : Beat) (s : State) : (State.commandSnoop o b s).iu = s.iu := by
  unfold State.commandSnoop
  (repeat' split) <;> simp
@[simp] theorem State.commandSnoop_fl (o : Nat) (b : Beat) (s : State) : (State.commandSnoop o b s).fl = s.fl := by
  unfold State.commandSnoop
  (repeat' split) <;> simp
@[simp] theorem State.commandSnoop_bt (o : Nat) (b : Beat) (s : State) : (State.commandSnoop o b s).bt = s.bt := by
  unfold State.commandSnoop
  (repeat' split) <;> simp
@[simp] theorem State.commandSnoop_lw (o : Nat) (b : Beat) (s : State) : (State.commandSnoop o b s).lw = s.lw := by
  unfold State.commandSnoop
  (repeat' split) <;> simp
@[simp] theorem State.commandSnoop_mc (o : Nat) (b : Beat) (s : State) : (State.commandSnoop o b s).mc = s.mc := by
  unfold State.commandSnoop
  (repeat' split) <;> simp
@[simp] theorem State.commandSnoop_mem (o : Nat) (b : Beat) (s : State) : (State.commandSnoop o b s).mem = s.mem := by
  unfold State.commandSnoop
  (repeat' split) <;> simp
@[simp] theorem State.commandSnoop_pending (o : Nat) (b : Beat) (s : State) : (State.commandSnoop o b s).pending = s.pending := by
  unfold State.commandSnoop
  (repeat' split) <;> simp
@[simp] theorem State.runCommandUnit_fault (s : State) : (State.runCommandUnit s).fault = s.fault := by
  unfold State.runCommandUnit
  (repeat' split) <;> simp
@[simp] theorem State.runCommandUnit_completion (s : State) : (State.runCommandUnit s).completion = s.completion := by
  unfold State.runCommandUnit
  (repeat' split) <;> simp
@[simp] theorem State.runCommandUnit_iu (s : State) : (State.runCommandUnit s).iu = s.iu := by
  unfold State.runCommandUnit
  (repeat' split) <;> simp
@[simp] theorem State.runCommandUnit_fl (s : State) : (State.runCommandUnit s).fl = s.fl := by
  unfold State.runCommandUnit
  (repeat' split) <;> simp
@[simp] theorem State.runCommandUnit_bt (s : State) : (State.runCommandUnit s).bt = s.bt := by
  unfold State.runCommandUnit
  (repeat' split) <;> simp
@[simp] theorem State.runCommandUnit_lw (s : State) : (State.runCommandUnit s).lw = s.lw := by
  unfold State.runCommandUnit
  (repeat' split) <;> simp
@[simp] theorem State.runCommandUnit_mc (s : State) : (State.runCommandUnit s).mc = s.mc := by
  unfold State.runCommandUnit
  (repeat' split) <;> simp
@[simp] theorem State.runCommandUnit_mem (s : State) : (State.runCommandUnit s).mem = s.mem := by
  unfold State.runCommandUnit
  (repeat' split) <;> simp
@[simp] theorem State.runCommandUnit_pending (s : State) : (State.runCommandUnit s).pending = s.pending := by
  unfold State.runCommandUnit
  (repeat' split) <;> simp
@[simp] theorem State.bulletinWriteEffect_fault (w : WordItem) (s : State) : (State.bulletinWriteEffect w s).fault = s.fault := by
  simp [State.bulletinWriteEffect]
@[simp] theorem State.bulletinWriteEffect_completion (w : WordItem) (s : State) : (State.bulletinWriteEffect w s).completion = s.completion := by
  simp [State.bulletinWriteEffect]
@[simp] theorem State.bulletinWriteEffect_iu (w : WordItem) (s : State) : (State.bulletinWriteEffect w s).iu = s.iu := by
  simp [State.bulletinWriteEffect]
@[simp] theorem State.bulletinWriteEffect_fl (w : WordItem) (s : State) : (State.bulletinWriteEffect w s).fl = s.fl := by
  simp [State.bulletinWriteEffect]
@[simp] theorem State.bulletinWriteEffect_bt (w : WordItem) (s : State) : (State.bulletinWriteEffect w s).bt = s.bt := by
  simp [State.bulletinWriteEffect]
@[simp] theorem State.bulletinWriteEffect_lw (w : WordItem) (s : State) : (State.bulletinWriteEffect w s).lw = s.lw := by
  simp [State.bulletinWriteEffect]
@[simp] theorem State.bulletinWriteEffect_mc (w : WordItem) (s : State) : (State.bulletinWriteEffect w s).mc = s.mc := by
  simp [State.bulletinWriteEffect]
@[simp] theorem State.bulletinWriteEffect_pending (w : WordItem) (s : State) : (State.bulletinWriteEffect w s).pending = s.pending := by
  simp [State.bulletinWriteEffect]
@[simp] theorem State.watchedWordEffect_fault (s : State) : (State.watchedWordEffect s).fault = s.fault := by
  unfold State.watchedWordEffect
  split <;> simp
@[simp] theorem State.watchedWordEffect_completion (s : State) : (State.watchedWordEffect s).completion = s.completion := by
  unfold State.watchedWordEffect
  split <;> simp
@[simp] theorem State.watchedWordEffect_iu (s : State) : (State.watchedWordEffect s).iu = s.iu := by
  unfold State.watchedWordEffect
  split <;> simp
@[simp] theorem State.watchedWordEffect_fl (s : State) : (State.watchedWordEffect s).fl = s.fl := by
  unfold State.watchedWordEffect
  split <;> simp
@[simp] theorem State.watchedWordEffect_bt (s : State) : (State.watchedWordEffect s).bt = s.bt := by
  unfold State.watchedWordEffect
  split <;> simp
@[simp] theorem State.watchedWordEffect_mc (s : State) : (State.watchedWordEffect s).mc = s.mc := by
  unfold State.watchedWordEffect
  split <;> simp
@[simp] theorem State.watchedWordEffect_mem (s : State) : (State.watchedWordEffect s).mem = s.mem := by
  unfold State.watchedWordEffect
  split <;> simp
@[simp] theorem State.watchedWordEffect_pending (s : State) : (State.watchedWordEffect s).pending = s.pending := by
  unfold State.watchedWordEffect
  split <;> simp
@[simp] theorem State.takenCountEffect_fault (s : State) : (State.takenCountEffect s).fault = s.fault := by
  unfold State.takenCountEffect
  dsimp only; (repeat' split) <;> simp
@[simp] theorem State.takenCountEffect_completion (s : State) : (State.takenCountEffect s).completion = s.completion := by
  unfold State.takenCountEffect
  dsimp only; (repeat' split) <;> simp
@[simp] theorem State.takenCountEffect_cu (s : State) : (State.takenCountEffect s).cu = s.cu := by
  unfold State.takenCountEffect
  dsimp only; (repeat' split) <;> simp
@[simp] theorem State.takenCountEffect_iu (s : State) : (State.takenCountEffect s).iu = s.iu := by
  unfold State.takenCountEffect
  dsimp only; (repeat' split) <;> simp
@[simp] theorem State.takenCountEffect_fl (s : State) : (State.takenCountEffect s).fl = s.fl := by
  unfold State.takenCountEffect
  dsimp only; (repeat' split) <;> simp
@[simp] theorem State.takenCountEffect_bt (s : State) : (State.takenCountEffect s).bt = s.bt := by
  unfold State.takenCountEffect
  dsimp only; (repeat' split) <;> simp
@[simp] theorem State.takenCountEffect_lw (s : State) : (State.takenCountEffect s).lw = s.lw := by
  unfold State.takenCountEffect
  dsimp only; (repeat' split) <;> simp
@[simp] theorem State.takenCountEffect_mc (s : State) : (State.takenCountEffect s).mc = s.mc := by
  unfold State.takenCountEffect
  dsimp only; (repeat' split) <;> simp
@[simp] theorem State.takenCountEffect_mem (s : State) : (State.takenCountEffect s).mem = s.mem := by
  unfold State.takenCountEffect
  dsimp only; (repeat' split) <;> simp
@[simp] theorem State.takenCountEffect_pending (s : State) : (State.takenCountEffect s).pending = s.pending := by
  unfold State.takenCountEffect
  dsimp only; (repeat' split) <;> simp
@[simp] theorem State.unbackedEffect_completion (w : WordItem) (s : State) : (State.unbackedEffect w s).completion = s.completion := by
  unfold State.unbackedEffect
  dsimp only; split <;> simp
@[simp] theorem State.unbackedEffect_cu (w : WordItem) (s : State) : (State.unbackedEffect w s).cu = s.cu := by
  unfold State.unbackedEffect
  dsimp only; split <;> simp
@[simp] theorem State.unbackedEffect_iu (w : WordItem) (s : State) : (State.unbackedEffect w s).iu = s.iu := by
  unfold State.unbackedEffect
  dsimp only; split <;> simp
@[simp] theorem State.unbackedEffect_fl (w : WordItem) (s : State) : (State.unbackedEffect w s).fl = s.fl := by
  unfold State.unbackedEffect
  dsimp only; split <;> simp
@[simp] theorem State.unbackedEffect_bt (w : WordItem) (s : State) : (State.unbackedEffect w s).bt = s.bt := by
  unfold State.unbackedEffect
  dsimp only; split <;> simp
@[simp] theorem State.unbackedEffect_lw (w : WordItem) (s : State) : (State.unbackedEffect w s).lw = s.lw := by
  unfold State.unbackedEffect
  dsimp only; split <;> simp
@[simp] theorem State.unbackedEffect_mc (w : WordItem) (s : State) : (State.unbackedEffect w s).mc = s.mc := by
  unfold State.unbackedEffect
  dsimp only; split <;> simp
@[simp] theorem State.unbackedEffect_mem (w : WordItem) (s : State) : (State.unbackedEffect w s).mem = s.mem := by
  unfold State.unbackedEffect
  dsimp only; split <;> simp
@[simp] theorem State.unbackedEffect_pending (w : WordItem) (s : State) : (State.unbackedEffect w s).pending = s.pending := by
  unfold State.unbackedEffect
  dsimp only; split <;> simp
@[simp] theorem State.countOverrun_fault (s : State) : (State.countOverrun s).fault = s.fault := by
  unfold State.countOverrun
  (repeat' split) <;> simp
@[simp] theorem State.countOverrun_completion (s : State) : (State.countOverrun s).completion = s.completion := by
  unfold State.countOverrun
  (repeat' split) <;> simp
@[simp] theorem State.countOverrun_cu (s : State) : (State.countOverrun s).cu = s.cu := by
  unfold State.countOverrun
  (repeat' split) <;> simp
@[simp] theorem State.countOverrun_iu (s : State) : (State.countOverrun s).iu = s.iu := by
  unfold State.countOverrun
  (repeat' split) <;> simp
@[simp] theorem State.countOverrun_fl (s : State) : (State.countOverrun s).fl = s.fl := by
  unfold State.countOverrun
  (repeat' split) <;> simp
@[simp] theorem State.countOverrun_bt (s : State) : (State.countOverrun s).bt = s.bt := by
  unfold State.countOverrun
  (repeat' split) <;> simp
@[simp] theorem State.countOverrun_lw (s : State) : (State.countOverrun s).lw = s.lw := by
  unfold State.countOverrun
  (repeat' split) <;> simp
@[simp] theorem State.countOverrun_mc (s : State) : (State.countOverrun s).mc = s.mc := by
  unfold State.countOverrun
  (repeat' split) <;> simp
@[simp] theorem State.countOverrun_mem (s : State) : (State.countOverrun s).mem = s.mem := by
  unfold State.countOverrun
  (repeat' split) <;> simp
@[simp] theorem State.countOverrun_pending (s : State) : (State.countOverrun s).pending = s.pending := by
  unfold State.countOverrun
  (repeat' split) <;> simp
@[simp] theorem State.intakeWriteEffect_completion (w : WordItem) (s : State) : (State.intakeWriteEffect w s).completion = s.completion := by
  unfold State.intakeWriteEffect
  rw [State.wordWritten_completion]
  split
  · show State.completion (if _ then _ else if _ then _ else _) = s.completion
    split
    · exact State.countOverrun_completion s
    · split
      · rfl
      · exact State.intakeWord_completion _ _ _ _ s
  · exact State.wordFault_completion _ _ _ s
@[simp] theorem State.intakeWriteEffect_cu (w : WordItem) (s : State) : (State.intakeWriteEffect w s).cu = s.cu := by
  unfold State.intakeWriteEffect
  rw [State.wordWritten_cu]
  split
  · show State.cu (if _ then _ else if _ then _ else _) = s.cu
    split
    · exact State.countOverrun_cu s
    · split
      · rfl
      · exact State.intakeWord_cu _ _ _ _ s
  · exact State.wordFault_cu _ _ _ s
@[simp] theorem State.intakeWriteEffect_mc (w : WordItem) (s : State) : (State.intakeWriteEffect w s).mc = s.mc := by
  unfold State.intakeWriteEffect
  rw [State.wordWritten_mc]
  split
  · show State.mc (if _ then _ else if _ then _ else _) = s.mc
    split
    · exact State.countOverrun_mc s
    · split
      · rfl
      · exact State.intakeWord_mc _ _ _ _ s
  · exact State.wordFault_mc _ _ _ s
@[simp] theorem State.intakeWriteEffect_pending (w : WordItem) (s : State) : (State.intakeWriteEffect w s).pending = s.pending := by
  unfold State.intakeWriteEffect
  rw [State.wordWritten_pending]
  split
  · show State.pending (if _ then _ else if _ then _ else _) = s.pending
    split
    · exact State.countOverrun_pending s
    · split
      · rfl
      · exact State.intakeWord_pending _ _ _ _ s
  · exact State.wordFault_pending _ _ _ s
@[simp] theorem State.compute_fault (p : ViewPlace) (s : State) : (State.compute p s).fault = s.fault := by
  unfold State.compute
  dsimp only; (repeat' split) <;> simp
@[simp] theorem State.compute_completion (p : ViewPlace) (s : State) : (State.compute p s).completion = s.completion := by
  unfold State.compute
  dsimp only; (repeat' split) <;> simp
@[simp] theorem State.compute_cu (p : ViewPlace) (s : State) : (State.compute p s).cu = s.cu := by
  unfold State.compute
  dsimp only; (repeat' split) <;> simp
@[simp] theorem State.compute_iu (p : ViewPlace) (s : State) : (State.compute p s).iu = s.iu := by
  unfold State.compute
  dsimp only; (repeat' split) <;> simp
@[simp] theorem State.compute_fl (p : ViewPlace) (s : State) : (State.compute p s).fl = s.fl := by
  unfold State.compute
  dsimp only; (repeat' split) <;> simp
@[simp] theorem State.compute_bt (p : ViewPlace) (s : State) : (State.compute p s).bt = s.bt := by
  unfold State.compute
  dsimp only; (repeat' split) <;> simp
@[simp] theorem State.compute_lw (p : ViewPlace) (s : State) : (State.compute p s).lw = s.lw := by
  unfold State.compute
  dsimp only; (repeat' split) <;> simp
@[simp] theorem State.compute_mc (p : ViewPlace) (s : State) : (State.compute p s).mc = s.mc := by
  unfold State.compute
  dsimp only; (repeat' split) <;> simp
@[simp] theorem State.compute_mem (p : ViewPlace) (s : State) : (State.compute p s).mem = s.mem := by
  unfold State.compute
  dsimp only; (repeat' split) <;> simp
@[simp] theorem State.compute_pending (p : ViewPlace) (s : State) : (State.compute p s).pending = s.pending := by
  unfold State.compute
  dsimp only; (repeat' split) <;> simp
@[simp] theorem State.viewReadEffect_completion (w : WordItem) (s : State) : (State.viewReadEffect w s).completion = s.completion := by
  unfold State.viewReadEffect
  dsimp only; (repeat' split) <;> simp
@[simp] theorem State.viewReadEffect_cu (w : WordItem) (s : State) : (State.viewReadEffect w s).cu = s.cu := by
  unfold State.viewReadEffect
  dsimp only; (repeat' split) <;> simp
@[simp] theorem State.viewReadEffect_iu (w : WordItem) (s : State) : (State.viewReadEffect w s).iu = s.iu := by
  unfold State.viewReadEffect
  dsimp only; (repeat' split) <;> simp
@[simp] theorem State.viewReadEffect_fl (w : WordItem) (s : State) : (State.viewReadEffect w s).fl = s.fl := by
  unfold State.viewReadEffect
  dsimp only; (repeat' split) <;> simp
@[simp] theorem State.viewReadEffect_bt (w : WordItem) (s : State) : (State.viewReadEffect w s).bt = s.bt := by
  unfold State.viewReadEffect
  dsimp only; (repeat' split) <;> simp
@[simp] theorem State.viewReadEffect_lw (w : WordItem) (s : State) : (State.viewReadEffect w s).lw = s.lw := by
  unfold State.viewReadEffect
  dsimp only; (repeat' split) <;> simp
@[simp] theorem State.viewReadEffect_mc (w : WordItem) (s : State) : (State.viewReadEffect w s).mc = s.mc := by
  unfold State.viewReadEffect
  dsimp only; (repeat' split) <;> simp
@[simp] theorem State.viewReadEffect_mem (w : WordItem) (s : State) : (State.viewReadEffect w s).mem = s.mem := by
  unfold State.viewReadEffect
  dsimp only; (repeat' split) <;> simp
@[simp] theorem State.viewReadEffect_pending (w : WordItem) (s : State) : (State.viewReadEffect w s).pending = s.pending := by
  unfold State.viewReadEffect
  dsimp only; (repeat' split) <;> simp
@[simp] theorem State.openStripEffect_fault (s : State) : (State.openStripEffect s).fault = s.fault := by
  simp [State.openStripEffect]
@[simp] theorem State.openStripEffect_upstream (s : State) : (State.openStripEffect s).upstream = s.upstream := by
  simp [State.openStripEffect]
@[simp] theorem State.openStripEffect_completion (s : State) : (State.openStripEffect s).completion = s.completion := by
  simp [State.openStripEffect]
@[simp] theorem State.openStripEffect_lw (s : State) : (State.openStripEffect s).lw = s.lw := by
  simp [State.openStripEffect]
@[simp] theorem State.openStripEffect_ru (s : State) : (State.openStripEffect s).ru = s.ru := by
  simp [State.openStripEffect]
@[simp] theorem State.openStripEffect_mc (s : State) : (State.openStripEffect s).mc = s.mc := by
  simp [State.openStripEffect]
@[simp] theorem State.openStripEffect_mem (s : State) : (State.openStripEffect s).mem = s.mem := by
  simp [State.openStripEffect]
@[simp] theorem State.openStripEffect_pending (s : State) : (State.openStripEffect s).pending = s.pending := by
  simp [State.openStripEffect]
@[simp] theorem State.relocateEffect_fault (s : State) : (State.relocateEffect s).fault = s.fault := by
  simp [State.relocateEffect]
@[simp] theorem State.relocateEffect_upstream (s : State) : (State.relocateEffect s).upstream = s.upstream := by
  simp [State.relocateEffect]
@[simp] theorem State.relocateEffect_completion (s : State) : (State.relocateEffect s).completion = s.completion := by
  simp [State.relocateEffect]
@[simp] theorem State.relocateEffect_cu (s : State) : (State.relocateEffect s).cu = s.cu := by
  simp [State.relocateEffect]
@[simp] theorem State.relocateEffect_bt (s : State) : (State.relocateEffect s).bt = s.bt := by
  simp [State.relocateEffect]
@[simp] theorem State.relocateEffect_lw (s : State) : (State.relocateEffect s).lw = s.lw := by
  simp [State.relocateEffect]
@[simp] theorem State.relocateEffect_ru (s : State) : (State.relocateEffect s).ru = s.ru := by
  simp [State.relocateEffect]
@[simp] theorem State.relocateEffect_mc (s : State) : (State.relocateEffect s).mc = s.mc := by
  simp [State.relocateEffect]
@[simp] theorem State.relocateEffect_mem (s : State) : (State.relocateEffect s).mem = s.mem := by
  simp [State.relocateEffect]
@[simp] theorem State.relocateEffect_pending (s : State) : (State.relocateEffect s).pending = s.pending := by
  simp [State.relocateEffect]
@[simp] theorem State.closeStripTaken_fault (s : State) : (State.closeStripTaken s).fault = s.fault := by
  unfold State.closeStripTaken
  split <;> simp
@[simp] theorem State.closeStripTaken_completion (s : State) : (State.closeStripTaken s).completion = s.completion := by
  unfold State.closeStripTaken
  split <;> simp
@[simp] theorem State.closeStripTaken_mc (s : State) : (State.closeStripTaken s).mc = s.mc := by
  unfold State.closeStripTaken
  split <;> simp
@[simp] theorem State.closeStripTaken_mem (s : State) : (State.closeStripTaken s).mem = s.mem := by
  unfold State.closeStripTaken
  split <;> simp
@[simp] theorem State.closeStripTaken_pending (s : State) : (State.closeStripTaken s).pending = s.pending := by
  unfold State.closeStripTaken
  split <;> simp
@[simp] theorem State.restartTaken_completion (s : State) : (State.restartTaken s).completion = s.completion := by
  unfold State.restartTaken
  split <;> simp
@[simp] theorem State.restartTaken_mem (s : State) : (State.restartTaken s).mem = s.mem := by
  unfold State.restartTaken
  split <;> simp
@[simp] theorem State.restartTaken_pending (s : State) : (State.restartTaken s).pending = s.pending := by
  unfold State.restartTaken
  split <;> simp
@[simp] theorem State.publishEffect_fault (s : State) : (State.publishEffect s).fault = s.fault := by
  unfold State.publishEffect
  dsimp only; split <;> rfl
@[simp] theorem State.publishEffect_upstream (s : State) : (State.publishEffect s).upstream = s.upstream := by
  unfold State.publishEffect
  dsimp only; split <;> rfl
@[simp] theorem State.publishEffect_completion (s : State) : (State.publishEffect s).completion = s.completion := by
  unfold State.publishEffect
  dsimp only; split <;> rfl
@[simp] theorem State.publishEffect_cu (s : State) : (State.publishEffect s).cu = s.cu := by
  unfold State.publishEffect
  dsimp only; split <;> rfl
@[simp] theorem State.publishEffect_iu (s : State) : (State.publishEffect s).iu = s.iu := by
  unfold State.publishEffect
  dsimp only; split <;> rfl
@[simp] theorem State.publishEffect_fl (s : State) : (State.publishEffect s).fl = s.fl := by
  unfold State.publishEffect
  dsimp only; split <;> rfl
@[simp] theorem State.publishEffect_bt (s : State) : (State.publishEffect s).bt = s.bt := by
  unfold State.publishEffect
  dsimp only; split <;> rfl
@[simp] theorem State.publishEffect_lw (s : State) : (State.publishEffect s).lw = s.lw := by
  unfold State.publishEffect
  dsimp only; split <;> rfl
@[simp] theorem State.publishEffect_mc (s : State) : (State.publishEffect s).mc = s.mc := by
  unfold State.publishEffect
  dsimp only; split <;> rfl
@[simp] theorem State.publishEffect_mem (s : State) : (State.publishEffect s).mem = s.mem := by
  unfold State.publishEffect
  dsimp only; split <;> rfl
@[simp] theorem State.publishEffect_pending (s : State) : (State.publishEffect s).pending = s.pending := by
  unfold State.publishEffect
  dsimp only; split <;> rfl
@[simp] theorem State.reportOperation_fault (e : List (SlotId × PlanEntry)) (r : Bool) (s : State) : (State.reportOperation e r s).fault = s.fault := by
  unfold State.reportOperation
  dsimp only; (repeat' split) <;> simp
@[simp] theorem State.reportOperation_upstream (e : List (SlotId × PlanEntry)) (r : Bool) (s : State) : (State.reportOperation e r s).upstream = s.upstream := by
  unfold State.reportOperation
  dsimp only; (repeat' split) <;> simp
@[simp] theorem State.reportOperation_completion (e : List (SlotId × PlanEntry)) (r : Bool) (s : State) : (State.reportOperation e r s).completion = s.completion := by
  unfold State.reportOperation
  dsimp only; (repeat' split) <;> simp
@[simp] theorem State.reportOperation_cu (e : List (SlotId × PlanEntry)) (r : Bool) (s : State) : (State.reportOperation e r s).cu = s.cu := by
  unfold State.reportOperation
  dsimp only; (repeat' split) <;> simp
@[simp] theorem State.reportOperation_iu (e : List (SlotId × PlanEntry)) (r : Bool) (s : State) : (State.reportOperation e r s).iu = s.iu := by
  unfold State.reportOperation
  dsimp only; (repeat' split) <;> simp
@[simp] theorem State.reportOperation_fl (e : List (SlotId × PlanEntry)) (r : Bool) (s : State) : (State.reportOperation e r s).fl = s.fl := by
  unfold State.reportOperation
  dsimp only; (repeat' split) <;> simp
@[simp] theorem State.reportOperation_bt (e : List (SlotId × PlanEntry)) (r : Bool) (s : State) : (State.reportOperation e r s).bt = s.bt := by
  unfold State.reportOperation
  dsimp only; (repeat' split) <;> simp
@[simp] theorem State.reportOperation_lw (e : List (SlotId × PlanEntry)) (r : Bool) (s : State) : (State.reportOperation e r s).lw = s.lw := by
  unfold State.reportOperation
  dsimp only; (repeat' split) <;> simp
@[simp] theorem State.reportOperation_mc (e : List (SlotId × PlanEntry)) (r : Bool) (s : State) : (State.reportOperation e r s).mc = s.mc := by
  unfold State.reportOperation
  dsimp only; (repeat' split) <;> simp
@[simp] theorem State.reportOperation_pending (e : List (SlotId × PlanEntry)) (r : Bool) (s : State) : (State.reportOperation e r s).pending = s.pending := by
  unfold State.reportOperation
  dsimp only; (repeat' split) <;> simp
@[simp] theorem State.refreshExpires_fault (s : State) : (State.refreshExpires s).fault = s.fault := by
  unfold State.refreshExpires
  dsimp only; split <;> simp
@[simp] theorem State.refreshExpires_upstream (s : State) : (State.refreshExpires s).upstream = s.upstream := by
  unfold State.refreshExpires
  dsimp only; split <;> simp
@[simp] theorem State.refreshExpires_completion (s : State) : (State.refreshExpires s).completion = s.completion := by
  unfold State.refreshExpires
  dsimp only; split <;> simp
@[simp] theorem State.refreshExpires_cu (s : State) : (State.refreshExpires s).cu = s.cu := by
  unfold State.refreshExpires
  dsimp only; split <;> simp
@[simp] theorem State.refreshExpires_iu (s : State) : (State.refreshExpires s).iu = s.iu := by
  unfold State.refreshExpires
  dsimp only; split <;> simp
@[simp] theorem State.refreshExpires_fl (s : State) : (State.refreshExpires s).fl = s.fl := by
  unfold State.refreshExpires
  dsimp only; split <;> simp
@[simp] theorem State.refreshExpires_bt (s : State) : (State.refreshExpires s).bt = s.bt := by
  unfold State.refreshExpires
  dsimp only; split <;> simp
@[simp] theorem State.refreshExpires_lw (s : State) : (State.refreshExpires s).lw = s.lw := by
  unfold State.refreshExpires
  dsimp only; split <;> simp
@[simp] theorem State.refreshExpires_mem (s : State) : (State.refreshExpires s).mem = s.mem := by
  unfold State.refreshExpires
  dsimp only; split <;> simp
@[simp] theorem State.refreshExpires_pending (s : State) : (State.refreshExpires s).pending = s.pending := by
  unfold State.refreshExpires
  dsimp only; split <;> simp

end Sys2Proof.Machine
end

