-- ==== Sys2Proof/Laws/Operations.lean ====
section
/-! SUPPORT. One lemma for each shared operation, saying once what it does: the form of an event, a word's service, a
post, the staging queue, the counters, the fault record and the end of an operation. -/

namespace Sys2Proof.Machine

/-! ## Offsets -/

/-- In the INTAKE zone the offset is the address minus 0x2000_0000 (R11). -/
theorem intakeOffset_eq {a : Nat} (lo : Config.intakeBase ≤ a) (hi : a < Config.viewBase) :
    intakeOffset a = a - Config.intakeBase := by
  simp only [intakeOffset, Config.intakeBase, Config.viewBase] at *; omega

/-- In the VIEW zone the offset is the address minus 0x3000_0000 (R14). -/
theorem viewOffset_eq {a : Nat} (lo : Config.viewBase ≤ a) (hi : a < 0x40000000) :
    viewOffset a = a - Config.viewBase := by
  simp only [viewOffset, Config.viewBase] at *; omega

/-- The bulletin is the last 4096 bytes of memory (R19). -/
theorem bulletinBase_add {size : Nat} (h : 4096 ≤ size) : bulletinBase size + 4096 = size := by
  simp only [bulletinBase, Config.bulletinLength]; omega

/-! ## Events -/

/-- The settling of requests: a writer that does not ask loses its pass-over count and promotion, one that asks keeps
both, and nothing else changes (R193). -/
theorem State.settleRequests_settles (s : State) : s.Settles s.settleRequests := by
  refine ⟨rfl, rfl, ?_, ?_, ?_, ?_⟩ <;> intro h <;> simp [State.settleRequests, h]

/-- Settling is a function: a state settles to one state only. -/
theorem State.Settles.eq {s t : State} (h : s.Settles t) : t = s.settleRequests := by
  obtain ⟨ht, hm, r0, r1, l0, l1⟩ := h
  refine ht.trans (congrArg (fun m => { s with mc := m }) (hm.trans ?_))
  by_cases hr : s.reportLevel = .none <;> by_cases hl : s.listLevel = .none
  · simp [hr, hl, r0 hr, l0 hl]
  · simp [hr, hl, r0 hr, l1 hl]
  · simp [hr, hl, r1 hr, l0 hl]
  · simp [hr, hl, r1 hr, l1 hl]

@[simp] theorem State.settleRequests_size (s : State) : s.settleRequests.mc.size = s.mc.size := rfl
@[simp] theorem State.settleRequests_phase (s : State) : s.settleRequests.mc.phase = s.mc.phase := rfl
@[simp] theorem State.settleRequests_port (s : State) : s.settleRequests.mc.port = s.mc.port := rfl
@[simp] theorem State.settleRequests_debt (s : State) : s.settleRequests.mc.debt = s.mc.debt := rfl
@[simp] theorem State.settleRequests_refreshTimer (s : State) :
    s.settleRequests.mc.refreshTimer = s.mc.refreshTimer := rfl

/-- An event whose condition holds happens. -/
theorem occurs_true (after s : State) : occurs true after s = .next after.settleRequests := rfl

/-- An event whose condition does not hold leaves the state as it is. -/
theorem occurs_false (after s : State) : occurs false after s = .next s := rfl

/-- The two outcomes of an event. -/
theorem occurs_cases {c : Bool} {after s t : State} (h : occurs c after s = .next t) :
    c = true ∧ t = after.settleRequests ∨ c = false ∧ t = s := by
  unfold occurs at h
  injection h with h
  cases c
  · exact .inr ⟨rfl, by simpa using h.symm⟩
  · exact .inl ⟨rfl, by simpa using h.symm⟩

/-- The two outcomes of a word row: its word is served, or no such word is next. -/
theorem serve_cases {fits : WordItem → Bool} {effect : WordItem → State → State} {s t : State}
    (h : serve fits effect s = .next t) :
    (∃ w, s.wordInService = some w ∧ fits w = true ∧ t = (effect w s).settleRequests) ∨ t = s := by
  unfold serve at h
  split at h
  · rename_i w hw
    rcases occurs_cases h with ⟨hc, ht⟩ | ⟨-, ht⟩
    · exact .inl ⟨w, hw, hc, ht⟩
    · exact .inr ht
  · rcases occurs_cases h with ⟨hc, -⟩ | ⟨-, ht⟩
    · cases hc
    · exact .inr ht

/-- A word that fits its row is served. -/
theorem serve_next {fits : WordItem → Bool} {effect : WordItem → State → State} {s : State} {w : WordItem}
    (hw : s.wordInService = some w) (hf : fits w = true) :
    serve fits effect s = .next (effect w s).settleRequests := by
  simp [serve, hw, hf, occurs]

/-! ## Posts -/

/-- A post that meets a refusal changes nothing but that it is taken and its ACK staged (R22). -/
theorem State.post_refused {kind : Nat} {c : PostChecks} {carry : State → State} {s : State} {o : AckOutcome} {d : Nat}
    (h : s.refusalOf c = some (o, d)) :
    s.post kind c carry = s.takePosted.stageAck (byteOf kind) o (BitVec.ofNat 32 d) := by
  simp [State.post, h]

/-- A post that meets none is carried out (R22). -/
theorem State.post_carried {kind : Nat} {c : PostChecks} {carry : State → State} {s : State}
    (h : s.refusalOf c = none) : s.post kind c carry = carry s.takePosted := by simp [State.post, h]

/-- A post meets no refusal exactly when no RESTART is pending, no busy condition bars it, its state takes it and its
fields are good (R22). -/
theorem State.refusalOf_eq_none {c : PostChecks} {s : State} :
    s.refusalOf c = none
      ↔ s.bt.restartPending = false ∧ (c.busy = true → s.busyCause = none) ∧ c.reason = none ∧ c.badField = none := by
  unfold State.refusalOf
  cases s.bt.restartPending <;> cases hb : c.busy <;> cases hc : s.busyCause <;> cases hr : c.reason <;>
    cases hf : c.badField <;> simp

/-- The four refusals a post of a known kind can meet, in the order of the checks (R22). -/
theorem State.refusalOf_cases {c : PostChecks} {s : State} {r : AckOutcome × Nat} (h : s.refusalOf c = some r) :
    s.bt.restartPending = true ∧ r = (.refusedBusy, detailRestartPending)
      ∨ s.bt.restartPending = false ∧ c.busy = true ∧ (∃ d, s.busyCause = some d ∧ r = (.refusedBusy, d))
      ∨ s.bt.restartPending = false ∧ (∃ d, c.reason = some d ∧ r = (.refusedState, d))
      ∨ s.bt.restartPending = false ∧ c.reason = none ∧ (∃ o, c.badField = some o ∧ r = (.refusedMalformed, o)) := by
  unfold State.refusalOf at h
  cases hp : s.bt.restartPending
  · cases hb : c.busy <;> cases hc : s.busyCause <;> cases hr : c.reason <;> cases hf : c.badField <;>
      simp_all
  · left; simp_all

/-- What a post can come to: its refusal, or its carrying out (R22). -/
theorem State.post_cases (kind : Nat) (c : PostChecks) (carry : State → State) (s : State) :
    (∃ o d, s.refusalOf c = some (o, d)
        ∧ s.post kind c carry = s.takePosted.stageAck (byteOf kind) o (BitVec.ofNat 32 d))
      ∨ s.refusalOf c = none ∧ s.post kind c carry = carry s.takePosted := by
  cases h : s.refusalOf c with
  | none => exact .inr ⟨rfl, State.post_carried h⟩
  | some r => exact .inl ⟨r.1, r.2, rfl, State.post_refused h⟩

/-! ## The staging queue, the counters and the fault record -/

/-- While the ring is not full nothing is dropped from the head of the staging queue (R172). -/
theorem ReportUnit.drain_of_not_full {mask : BitVec 14} {n fuel : Nat} {r : ReportUnit}
    (h : r.ringFull n = false) : r.drain mask n fuel = r := by
  cases fuel with
  | zero => rfl
  | succ k => unfold ReportUnit.drain; cases hs : r.staging <;> simp [h]

/-- The ring standing is not full (R172). -/
def State.ringHasRoom (s : State) : Prop := s.ru.ringFull s.cu.standing.slotCount = false

/-- With room in the staging queue and in the ring, a staged report joins the tail and nothing else changes (R170). -/
theorem State.stage_of_room {s : State} {x : Report} (hq : s.ru.staging.length < 8) (hr : s.ringHasRoom) :
    s.stage x = { s with ru := { s.ru with staging := s.ru.staging ++ [x] } } := by
  have hroom : s.ru.hasRoom = true := by simpa [ReportUnit.hasRoom] using hq
  unfold State.stage State.drainRing ReportUnit.enqueue
  simp only [hroom, if_true]
  rw [ReportUnit.drain_of_not_full]
  · rfl
  · exact hr

/-- A raise of a masked counter changes nothing (R180). -/
theorem ReportUnit.raise_masked {mask : BitVec 14} {c : CounterId} {n : Nat} {r : ReportUnit}
    (h : mask.getLsbD c.val = true) : r.raise mask c n = r := by simp [ReportUnit.raise, h]

/-- A raise of an unmasked counter adds to that counter alone, modulo 65,536 (R180). -/
theorem ReportUnit.raise_unmasked {mask : BitVec 14} {c : CounterId} {n : Nat} {r : ReportUnit}
    (h : mask.getLsbD c.val = false) :
    r.raise mask c n = { r with counters := r.counters.set c.val (r.counters.get c + BitVec.ofNat 16 n) } := by
  unfold ReportUnit.raise
  rw [h]; rfl

/-- Away from its threshold a count only raises its counter (R180, R181). -/
theorem State.countBy_of_not_crossing {s : State} {c : CounterId} {n : Nat}
    (h : s.ru.crosses s.cu.standing.countMask c n = false) :
    s.countBy c n = { s with ru := s.ru.raise s.cu.standing.countMask c n } := by
  simp [State.countBy, h]

/-- A fault that meets an unlocked record fills and locks it and stages its report (R15). -/
theorem State.raiseFault_unlocked {s : State} (f : FaultRecord) (h : s.fault.locked = false) :
    s.raiseFault f = State.stage (.fault { f with locked := true }) { s with fault := { f with locked := true } } := by
  simp [State.raiseFault, h]

/-- A fault that meets a locked record is counted, and the record stands (R16). -/
theorem State.raiseFault_locked {s : State} (f : FaultRecord) (h : s.fault.locked = true) :
    s.raiseFault f = s.count faultMissed := by simp [State.raiseFault, h]

/-- The staging queue never grows past 8 by a report staged (R170). -/
theorem ReportUnit.drop_staging_length {mask : BitVec 14} {r : ReportUnit} (h : r.staging.length ≤ 8) :
    (r.drop mask).staging.length ≤ 8 := by
  have hl : (r.dropLast mask).staging = r.staging := by
    simp only [ReportUnit.dropLast, ReportUnit.raise]; split <;> rfl
  have hl2 : ((r.dropLast mask).dropLast mask).staging = r.staging := by
    rw [← hl]; simp only [ReportUnit.dropLast, ReportUnit.raise]; split <;> rfl
  unfold ReportUnit.drop
  dsimp only
  split
  · split
    · rename_i hroom
      simp only [ReportUnit.hasRoom, hl, Config.stagingCap, decide_eq_true_eq] at hroom
      simp only [ReportUnit.push, hl, List.length_append, List.length_singleton]; omega
    · rw [hl2]; exact h
  · rw [hl]; exact h

theorem ReportUnit.enqueue_staging_length {mask : BitVec 14} {x : Report} {r : ReportUnit} (h : r.staging.length ≤ 8) :
    (r.enqueue mask x).staging.length ≤ 8 := by
  unfold ReportUnit.enqueue
  split
  · rename_i hroom
    simp only [ReportUnit.hasRoom, Config.stagingCap, decide_eq_true_eq] at hroom
    simp only [ReportUnit.push, List.length_append, List.length_singleton]; omega
  · exact ReportUnit.drop_staging_length h

theorem ReportUnit.drain_staging_length {mask : BitVec 14} {n fuel : Nat} {r : ReportUnit} (h : r.staging.length ≤ 8) :
    (r.drain mask n fuel).staging.length ≤ 8 := by
  induction fuel generalizing r with
  | zero => exact h
  | succ k ih =>
    unfold ReportUnit.drain
    split
    · exact h
    · rename_i x rest hs
      split
      · refine ih (ReportUnit.drop_staging_length ?_)
        rw [hs] at h; simp only [List.length_cons] at h ⊢; omega
      · exact h

/-- Staging keeps the staging queue at 8 reports or fewer (R170). -/
theorem State.stage_staging_length {s : State} {x : Report} (h : s.ru.staging.length ≤ 8) :
    (s.stage x).ru.staging.length ≤ 8 :=
  ReportUnit.drain_staging_length (ReportUnit.enqueue_staging_length h)

/-! ## The end of an operation -/

/-- With no RESTART and no CLOSE_STRIP pending, the end of an operation frees the port and does nothing else. -/
theorem State.finishOperation_of_nothing_pending {s : State} (hr : s.bt.restartPending = false)
    (hc : s.bt.closePending = false) : s.finishOperation = { s with mc := { s.mc with port := none } } := by
  simp [State.finishOperation, State.pendingEffects, hr, hc]

/-- While a classification is in flight the end of an operation frees the port and does nothing else (R33, R59). -/
theorem State.finishOperation_of_classifying {s : State} (h : s.bt.classifying ≠ none) :
    s.finishOperation = { s with mc := { s.mc with port := none } } := by
  cases hk : s.bt.classifying with
  | none => exact absurd hk h
  | some k => simp [State.finishOperation, State.pendingEffects, hk]

/-- With no classification in flight a pending RESTART takes effect as an operation ends (R34, R196). -/
theorem State.finishOperation_of_restart {s : State} (hk : s.bt.classifying = none) (hr : s.bt.restartPending = true) :
    s.finishOperation = State.restartEffect { s with mc := { s.mc with port := none } } := by
  simp [State.finishOperation, State.pendingEffects, hk, hr]

/-- With no classification in flight and no RESTART pending, a pending CLOSE_STRIP takes effect as an operation ends (R60,
R196). -/
theorem State.finishOperation_of_close {s : State} (hk : s.bt.classifying = none) (hr : s.bt.restartPending = false)
    (hc : s.bt.closePending = true) :
    s.finishOperation = State.closeStripEffect { s with mc := { s.mc with port := none } } := by
  simp [State.finishOperation, State.pendingEffects, hk, hr, hc]

/-- With a classification or a frame end in flight the Blemish Tracker begins nothing (R92, R119). -/
theorem State.advance_of_busy {s : State} (h : s.bt.classifying ≠ none ∨ s.bt.frameEnd ≠ none) : s.advance = s := by
  have hi : s.bt.idle = false := by
    unfold BlemishTracker.idle
    cases hk : s.bt.classifying <;> cases hf : s.bt.frameEnd <;> simp_all
  simp [State.advance, hi]

end Sys2Proof.Machine
end

