-- ==== Sys2Proof/Laws/Exec.lean ====
section
/-! SUPPORT. What the commands do to a property of states: a property that every effect keeps is kept by every command and
by every step. -/

namespace Sys2Proof.Machine

/-- The effects a property is to survive, each under what its command has checked by then. -/
structure KeptByEffects (P : State → Prop) : Prop where
  settle : ∀ s, P s → P s.settleRequests
  queue : ∀ s q, P s → P { s with pending := q }
  tick : ∀ s, P s → P s.tick
  abandon : ∀ s, P s → P s.abandonWork
  powerOn : ∀ size q, P (State.powerOn size q)
  startup : ∀ s, P s → P s.startupEnded
  present : ∀ s req, P s → P (s.present req)
  offerHeld : ∀ s, P s → P s.offerHeld
  complete : ∀ s d, P s → P { s with upstream := none, completion := some d }
  finish : ∀ s, P s → P s.finishOperation
  grant : ∀ s w, P s → s.winner = some w → P (s.grant w)
  plainWrite : ∀ s w, P s → P (s.plainWriteEffect w)
  plainRead : ∀ s w, P s → P (s.plainReadEffect w)
  bulletinWrite : ∀ s w, P s → P (s.bulletinWriteEffect w)
  takenCount : ∀ s, P s → P s.takenCountEffect
  watchedWord : ∀ s, P s → P s.watchedWordEffect
  unbacked : ∀ s w, P s → P (s.unbackedEffect w)
  intakeWrite : ∀ s w, P s → P (s.intakeWriteEffect w)
  wordRead : ∀ s v, P s → P (s.wordRead v)
  viewRead : ∀ s w, P s → P (s.viewReadEffect w)
  wordWritten : ∀ s h, P s → P (s.wordWritten h)
  locate : ∀ s k, P s → P (s.endLocate k)
  classification : ∀ s k, P s → P (s.endClassification k)
  frameEnd : ∀ s e, P s → s.lw.queue.length < 32 → P (s.completeFrameEnd e)
  load : ∀ s, P s → P s.loadDescriptor
  closeRejected : ∀ s, P s → P s.closeRejected
  writeRecord : ∀ s r, P s → P (s.writeRecord r)
  closeFull : ∀ s, P s → P s.closeFull
  closeFrameEnd : ∀ s v, P s → P (s.closeFrameEnd v)
  report : ∀ s e r, P s → P (s.reportOperation e r)
  refreshExpires : ∀ s, P s → P s.refreshExpires
  retire : ∀ s, P s → P { s with mc := { s.mc with debt := s.mc.debt - 1 } }
  timerExpires : ∀ s, P s → P { s with ru := s.ru.timerExpires }
  takePosted : ∀ s, P s → P s.takePosted
  stageAck : ∀ s k o d, P s → P (s.stageAck k o d)
  settings : ∀ s, P s → ringFlag s.cu.shadow = false → firstBad (setPlanChecks s.mc.size s.cu) = none →
    P s.takePosted.applySettings
  ring : ∀ s, P s → s.ru.produced = s.ru.taken → firstBad (setPlanChecks s.mc.size s.cu) = none →
    P s.takePosted.applyRing
  openStrip : ∀ s, P s → firstBad (openStripChecks s.mc.size s.cu) = none → P s.takePosted.openStripEffect
  beginSurvey : ∀ s, P s → P s.beginSurveyEffect
  relocate : ∀ s, P s → P s.relocateEffect
  setFramePlan : ∀ s, P s → P s.setFramePlanEffect
  setFrameRelease : ∀ s, P s → P s.setFrameReleaseEffect
  beginCapture : ∀ s, P s → P s.beginCaptureEffect
  endPass : ∀ s, P s → P s.endPassEffect
  closeStrip : ∀ s, P s → P s.closeStripTaken
  columns : ∀ s, P s → firstBad (setColumnsChecks s.cu.shadow) = none → P s.takePosted.applyColumns
  attach : ∀ s h, P s → P (s.attachChain h)
  detach : ∀ s, P s → P s.detachChain
  publish : ∀ s, P s → P s.publishEffect
  clearFault : ∀ s, P s → P { s with fault := { s.fault with locked := false } }
  restart : ∀ s, P s → P s.restartTaken

variable {P : State → Prop}

theorem KeptByEffects.occurs (h : KeptByEffects P) {c : Bool} {after s t : State} (hs : P s)
    (ha : c = true → P after) (ho : Machine.occurs c after s = .next t) : P t := by
  rcases occurs_cases ho with ⟨hc, rfl⟩ | ⟨-, rfl⟩
  · exact h.settle _ (ha hc)
  · exact hs

theorem KeptByEffects.serve (h : KeptByEffects P) {f : WordItem → Bool} {e : WordItem → State → State} {s t : State}
    (hs : P s) (he : ∀ w, P (e w s)) (ho : Machine.serve f e s = .next t) : P t := by
  rcases serve_cases ho with ⟨w, -, -, rfl⟩ | rfl
  · exact h.settle _ (he w)
  · exact hs

theorem KeptByEffects.post (h : KeptByEffects P) {kind : Nat} {c : PostChecks} {carry : State → State} {s : State}
    (hs : P s) (hc : c.reason = none → c.badField = none → P (carry s.takePosted)) : P (s.post kind c carry) := by
  rcases State.post_cases kind c carry s with ⟨o, d, -, he⟩ | ⟨hn, he⟩
  · rw [he]; exact h.stageAck _ _ _ _ (h.takePosted _ hs)
  · rw [he]
    obtain ⟨-, -, hr, hf⟩ := State.refusalOf_eq_none.mp hn
    exact hc hr hf

theorem KeptByEffects.done (h : KeptByEffects P) {kind : Nat} {effect : State → State} {s : State} (hx : P (effect s)) :
    P (carryDone kind effect s) := h.stageAck _ _ _ _ hx

theorem KeptByEffects.accepted (h : KeptByEffects P) {kind : Nat} {effect : State → State} {s : State}
    (hx : P (effect s)) : P (carryAccepted kind effect s) := h.stageAck _ _ _ _ hx

/-- A property that every effect keeps is kept by every command. -/
theorem KeptByEffects.exec (h : KeptByEffects P) {c : Instr} {s t : State} (hs : P s)
    (he : Machine.exec c s = .next t) : P t := by
  have hp := h.takePosted s hs
  cases c with
  | resetNAssert => cases he; exact h.abandon _ hs
  | resetNRelease a b => cases he; exact h.powerOn _ _
  | sdramStartupEnd => exact h.occurs hs (fun _ => h.startup _ hs) he
  | upstreamAccess req =>
    simp only [Machine.exec, execUpstreamAccess] at he
    split at he
    · refine h.occurs hs (fun _ => ?_) he
      split
      · exact h.offerHeld _ (h.present _ _ hs)
      · exact h.present _ _ hs
    · cases he
  | grantDecision =>
    simp only [Machine.exec, execGrantDecision] at he
    split at he
    · rename_i w hw; exact h.occurs hs (fun _ => h.grant _ w hs hw) he
    · exact h.occurs hs (fun _ => hs) he
  | accessComplete =>
    simp only [Machine.exec, execAccessComplete] at he
    split at he
    · refine h.occurs hs (fun _ => ?_) he
      split
      · exact h.finish _ (h.complete _ _ hs)
      · exact h.complete _ _ hs
    · exact h.occurs hs (fun _ => hs) he
  | plainWrite => exact h.serve hs (fun w => h.plainWrite _ w hs) he
  | plainRead => exact h.serve hs (fun w => h.plainRead _ w hs) he
  | bulletinWrite => exact h.serve hs (fun w => h.bulletinWrite _ w hs) he
  | takenCountWrite => exact h.occurs hs (fun _ => h.takenCount _ hs) he
  | watchedWordWrite => exact h.occurs hs (fun _ => h.watchedWord _ hs) he
  | unbackedAccess => exact h.serve hs (fun w => h.unbacked _ w hs) he
  | intakeWrite => exact h.serve hs (fun w => h.intakeWrite _ w hs) he
  | intakeRead =>
    have he' : Machine.serve (fun w => decide (w.zone = .intake) && !w.isWrite)
        (fun w s => s.wordRead (s.intakeValue w.address)) s = .next t := he
    refine h.serve hs ?_ he'
    intro w
    exact h.wordRead s (s.intakeValue w.address) hs
  | viewRead => exact h.serve hs (fun w => h.viewRead _ w hs) he
  | viewWrite => exact h.serve hs (fun w => h.wordWritten _ _ hs) he
  | locateEnd =>
    simp only [Machine.exec, execLocateEnd] at he
    split at he
    · exact h.occurs hs (fun _ => h.locate _ _ hs) he
    · exact h.occurs hs (fun _ => hs) he
  | rowClassificationEnd =>
    simp only [Machine.exec, execRowClassificationEnd] at he
    split at he
    · exact h.occurs hs (fun _ => h.classification _ _ hs) he
    · exact h.occurs hs (fun _ => hs) he
  | frameEndComplete =>
    simp only [Machine.exec, execFrameEndComplete] at he
    split at he
    · exact h.occurs hs (fun hc => h.frameEnd _ _ hs (of_decide_eq_true hc)) he
    · exact h.occurs hs (fun _ => hs) he
  | unknownCommand => exact h.occurs hs (fun _ => h.stageAck _ _ _ _ hp) he
  | setPlan =>
    refine h.occurs hs (fun hc => h.post hs fun _ hf => h.done (h.settings _ hs ?_ hf)) he
    simp only [Bool.and_eq_true, Bool.not_eq_true'] at hc
    exact hc.2
  | setPlanRing =>
    refine h.occurs hs (fun _ => h.post hs fun hr hf => h.ring _ hs ?_ hf) he
    by_contra hne
    simp [hne] at hr
  | openStrip =>
    exact h.occurs hs (fun _ => h.post hs fun _ hf => h.done (h.openStrip _ hs hf)) he
  | beginSurvey => exact h.occurs hs (fun _ => h.post hs fun _ _ => h.done (h.beginSurvey _ hp)) he
  | relocate => exact h.occurs hs (fun _ => h.post hs fun _ _ => h.accepted (h.relocate _ hp)) he
  | setFramePlan => exact h.occurs hs (fun _ => h.post hs fun _ _ => h.done (h.setFramePlan _ hp)) he
  | setFrameRelease =>
    exact h.occurs hs (fun _ => h.post hs fun _ _ => h.done (h.setFrameRelease _ hp)) he
  | beginCapture => exact h.occurs hs (fun _ => h.post hs fun _ _ => h.done (h.beginCapture _ hp)) he
  | endPass => exact h.occurs hs (fun _ => h.post hs fun _ _ => h.accepted (h.endPass _ hp)) he
  | closeStrip => exact h.occurs hs (fun _ => h.post hs fun _ _ => h.closeStrip _ hp) he
  | setColumns => exact h.occurs hs (fun _ => h.post hs fun _ hf => h.done (h.columns _ hs hf)) he
  | chain => exact h.occurs hs (fun _ => h.post hs fun _ _ => h.done (h.attach _ _ hp)) he
  | chainDetach => exact h.occurs hs (fun _ => h.post hs fun _ _ => h.done (h.detach _ hp)) he
  | probeSpan => exact h.occurs hs (fun _ => h.post hs fun _ _ => h.stageAck _ _ _ _ hp) he
  | publishCounters => exact h.occurs hs (fun _ => h.post hs fun _ _ => h.done (h.publish _ hp)) he
  | clearFault => exact h.occurs hs (fun _ => h.post hs fun _ _ => h.done (h.clearFault _ hp)) he
  | restart => exact h.occurs hs (fun _ => h.post hs fun _ _ => h.restart _ hp) he
  | descriptorLoad => exact h.occurs hs (fun _ => h.finish _ (h.load _ hs)) he
  | rejectedClose => exact h.occurs hs (fun _ => h.finish _ (h.closeRejected _ hs)) he
  | recordWrite =>
    simp only [Machine.exec, execRecordWrite] at he
    split at he
    · exact h.occurs hs (fun _ => h.finish _ (h.writeRecord _ _ hs)) he
    · exact h.occurs hs (fun _ => hs) he
  | descriptorClose =>
    simp only [Machine.exec, execDescriptorClose] at he
    split at he
    · exact h.occurs hs (fun _ => h.finish _ (h.closeFull _ hs)) he
    · exact h.occurs hs (fun _ => h.finish _ (h.closeFrameEnd _ _ hs)) he
    · exact h.occurs hs (fun _ => hs) he
  | reportWriterGrant =>
    simp only [Machine.exec, execReportWriterGrant] at he
    split at he
    · exact h.occurs hs (fun _ => h.finish _ (h.report _ _ _ hs)) he
    · exact h.occurs hs (fun _ => hs) he
  | coalescingTimerExpiry => exact h.occurs hs (fun _ => h.timerExpires _ hs) he
  | refreshTimerExpiry => exact h.occurs hs (fun _ => h.refreshExpires _ hs) he
  | refreshOperation => exact h.occurs hs (fun _ => h.finish _ (h.retire _ hs)) he

/-- A property that every effect keeps is kept by every step. -/
theorem KeptByEffects.step (h : KeptByEffects P) {s t : State} (hs : P s) (he : Machine.step s = .next t) : P t := by
  unfold Machine.step at he
  split at he
  · cases he; exact h.tick _ hs
  · exact h.exec (h.queue _ _ hs) he

end Sys2Proof.Machine
end

