-- ==== Sys2Proof/Laws/Memory.lean ====
section
/-! SUPPORT. Memory: what a read finds after a write, and that every memory operation keeps the canonical form. -/

namespace Sys2Proof.Machine

/-! ## Reading after writing -/

theorem Memory.read_insert (c : Host.Cell) (m : Memory) (a : Nat) (h : ∀ d ∈ m, d.1 ≠ c.1) :
    (Memory.insert c m).read a = if c.1 = a then c.2 else m.read a := by
  induction m with
  | nil => simp [Memory.insert, Memory.read]
  | cons d rest ih =>
    simp only [Memory.insert]
    split
    · simp [Memory.read]
    · simp only [Memory.read]
      rw [ih (fun e he => h e (List.mem_cons_of_mem _ he))]
      have hd := h d List.mem_cons_self
      split_ifs <;> simp_all

theorem Memory.read_filter (m : Memory) (a b : Nat) :
    Memory.read (m.filter (fun c => decide (c.1 ≠ a))) b = if b = a then Config.unlistedByte else m.read b := by
  induction m with
  | nil => simp [Memory.read]
  | cons d rest ih =>
    by_cases hd : d.1 = a
    · rw [List.filter_cons_of_neg (by simpa using hd), ih]
      simp only [Memory.read]
      split_ifs <;> simp_all
    · rw [List.filter_cons_of_pos (by simpa using hd)]
      simp only [Memory.read, ih]
      split_ifs <;> simp_all

/-- A read finds the byte last written at its address, and any other address as it was. -/
theorem Memory.read_write (m : Memory) (a : Nat) (b : Byte) (x : Nat) :
    (m.write a b).read x = if x = a then b else m.read x := by
  unfold Memory.write
  dsimp only
  split
  · rw [Memory.read_filter]; split_ifs <;> simp_all
  · rw [Memory.read_insert _ _ _ (by simp), Memory.read_filter]
    split_ifs <;> simp_all

@[simp] theorem Memory.read_write_same (m : Memory) (a : Nat) (b : Byte) : (m.write a b).read a = b := by
  simp [Memory.read_write]

theorem Memory.read_write_other (m : Memory) (a : Nat) (b : Byte) {x : Nat} (h : x ≠ a) :
    (m.write a b).read x = m.read x := by simp [Memory.read_write, h]

/-- After bytes are written at consecutive addresses, a read finds them there and nothing else changed. -/
theorem Memory.read_writeBytes (m : Memory) (a : Nat) (bs : List Byte) (x : Nat) :
    (m.writeBytes a bs).read x = if a ≤ x ∧ x < a + bs.length then bs.getD (x - a) 0 else m.read x := by
  induction bs generalizing m a with
  | nil => simp [Memory.writeBytes]
  | cons b rest ih =>
    simp only [Memory.writeBytes, ih, Memory.read_write, List.length_cons]
    rcases Nat.lt_trichotomy x a with hlt | rfl | hgt
    · rw [if_neg (by omega), if_neg (by omega), if_neg (by omega)]
    · rw [if_neg (by omega), if_pos rfl, if_pos (by omega)]; simp
    · obtain ⟨d, rfl⟩ : ∃ d, x = a + 1 + d := ⟨x - a - 1, by omega⟩
      have h1 : a + 1 + d - a = d + 1 := by omega
      have h2 : a + 1 + d - (a + 1) = d := by omega
      by_cases h : d < rest.length
      · rw [if_pos (by omega), if_pos (by omega), h1, h2]; simp
      · rw [if_neg (by omega), if_neg (by omega), if_neg (by omega)]

theorem Memory.read_writeEnabled (m : Memory) (a : Nat) (b : Beat) (k x : Nat) :
    (m.writeEnabled a b k).read x
      = if x = a + k ∧ b.enables.getLsbD k = true then Word.byte b.data k else m.read x := by
  unfold Memory.writeEnabled
  split
  · rw [Memory.read_write]; split_ifs <;> simp_all
  · rw [if_neg (by tauto)]

/-- After a word is written with its enables, a byte of it whose enable is set reads as the word's byte, and every other
byte of memory as before (R1, R8). -/
theorem Memory.read_writeBeat (m : Memory) (a : Nat) (b : Beat) (x : Nat) :
    (m.writeBeat a b).read x
      = if a ≤ x ∧ x < a + 4 ∧ b.enables.getLsbD (x - a) = true then Word.byte b.data (x - a) else m.read x := by
  simp only [Memory.writeBeat, Memory.read_writeEnabled]
  by_cases h : a ≤ x ∧ x < a + 4
  · obtain ⟨h1, h2⟩ := h
    have : x = a ∨ x = a + 1 ∨ x = a + 2 ∨ x = a + 3 := by omega
    rcases this with rfl | rfl | rfl | rfl <;> simp
  · rw [if_neg (by omega), if_neg (by omega), if_neg (by omega), if_neg (by omega), if_neg (by tauto)]

/-! ## Words and fields -/

/-- The four bytes of a word make the word. -/
theorem wordOf_bytes (w : Word) : wordOf (Word.byte w 0) (Word.byte w 1) (Word.byte w 2) (Word.byte w 3) = w := by
  apply BitVec.eq_of_toNat_eq
  have := w.isLt
  simp only [wordOf, Word.byte, BitVec.toNat_ofNat]
  omega

/-- A word written whole reads back. -/
theorem Memory.readWord_writeBeat (m : Memory) (a : Nat) (w : Word) : (m.writeBeat a ⟨w, 0xF#4⟩).readWord a = w := by
  have h : ∀ k, k < 4 → (m.writeBeat a ⟨w, 0xF#4⟩).read (a + k) = Word.byte w k := by
    intro k hk
    rw [Memory.read_writeBeat, if_pos]
    · simp
    · refine ⟨by omega, by omega, ?_⟩
      have : k = 0 ∨ k = 1 ∨ k = 2 ∨ k = 3 := by omega
      rcases this with rfl | rfl | rfl | rfl <;> simp
  have h0 := h 0 (by omega)
  simp only [Nat.add_zero] at h0
  rw [Memory.readWord, h0, h 1 (by omega), h 2 (by omega), h 3 (by omega), wordOf_bytes]

/-! ## The canonical form -/

/-- The canonical form in other words: addresses rise strictly from `lo` on, and no listed byte is the unlisted one. -/
theorem Memory.risingFrom_iff (lo : Nat) (m : Memory) :
    Memory.risingFrom lo m = true
      ↔ (m.Pairwise fun c d => c.1 < d.1) ∧ ∀ c ∈ m, lo ≤ c.1 ∧ c.2 ≠ Config.unlistedByte := by
  induction m generalizing lo with
  | nil => simp [Memory.risingFrom]
  | cons c rest ih =>
    simp only [Memory.risingFrom, Bool.and_eq_true, decide_eq_true_eq, ih, List.pairwise_cons, List.mem_cons,
      forall_eq_or_imp]
    constructor
    · rintro ⟨⟨h1, h2⟩, h3, h4⟩
      exact ⟨⟨fun d hd => (h4 d hd).1, h3⟩, ⟨h1, h2⟩, fun d hd => ⟨by have := (h4 d hd).1; omega, (h4 d hd).2⟩⟩
    · rintro ⟨⟨h1, h2⟩, ⟨h3, h4⟩, h5⟩
      exact ⟨⟨h3, h4⟩, h2, fun d hd => ⟨h1 d hd, (h5 d hd).2⟩⟩

theorem Memory.mem_insert (c d : Host.Cell) (m : Memory) : d ∈ Memory.insert c m ↔ d = c ∨ d ∈ m := by
  induction m with
  | nil => simp [Memory.insert]
  | cons e rest ih =>
    simp only [Memory.insert]
    split
    · simp
    · simp only [List.mem_cons, ih]; tauto

theorem Memory.insert_rising (c : Host.Cell) (m : Memory) (h : m.Pairwise fun c d => c.1 < d.1)
    (hc : ∀ d ∈ m, d.1 ≠ c.1) : (Memory.insert c m).Pairwise fun c d => c.1 < d.1 := by
  induction m with
  | nil => simp [Memory.insert]
  | cons e rest ih =>
    obtain ⟨he, hrest⟩ := List.pairwise_cons.mp h
    simp only [Memory.insert]
    split
    · rename_i hlt
      refine List.pairwise_cons.mpr ⟨fun d hd => ?_, h⟩
      rcases List.mem_cons.mp hd with rfl | hd
      · exact hlt
      · exact Nat.lt_trans hlt (he d hd)
    · rename_i hge
      refine List.pairwise_cons.mpr ⟨fun d hd => ?_, ih hrest (fun d hd => hc d (List.mem_cons_of_mem _ hd))⟩
      rcases (Memory.mem_insert c d rest).mp hd with rfl | hd
      · have := hc e List.mem_cons_self; omega
      · exact he d hd

/-- A write keeps the canonical form. -/
theorem Memory.write_wf (m : Memory) (a : Nat) (b : Byte) (h : m.wf = true) : (m.write a b).wf = true := by
  obtain ⟨hp, hm⟩ := (Memory.risingFrom_iff 0 m).mp h
  refine (Memory.risingFrom_iff 0 _).mpr ?_
  unfold Memory.write
  dsimp only
  split
  · exact ⟨hp.filter _, fun c hc => hm c (List.mem_filter.mp hc).1⟩
  · rename_i hb
    refine ⟨Memory.insert_rising _ _ (hp.filter _) (by simp), fun c hc => ?_⟩
    rcases (Memory.mem_insert _ _ _).mp hc with rfl | hc
    · exact ⟨Nat.zero_le _, hb⟩
    · exact hm c (List.mem_filter.mp hc).1

theorem Memory.writeBytes_wf (m : Memory) (a : Nat) (bs : List Byte) (h : m.wf = true) :
    (m.writeBytes a bs).wf = true := by
  induction bs generalizing m a with
  | nil => exact h
  | cons b rest ih => exact ih _ _ (Memory.write_wf m a b h)

theorem Memory.writeEnabled_wf (m : Memory) (a : Nat) (b : Beat) (k : Nat) (h : m.wf = true) :
    (m.writeEnabled a b k).wf = true := by
  unfold Memory.writeEnabled
  split
  · exact Memory.write_wf _ _ _ h
  · exact h

theorem Memory.writeBeat_wf (m : Memory) (a : Nat) (b : Beat) (h : m.wf = true) : (m.writeBeat a b).wf = true :=
  Memory.writeEnabled_wf _ _ _ _ (Memory.writeEnabled_wf _ _ _ _ (Memory.writeEnabled_wf _ _ _ _
    (Memory.writeEnabled_wf _ _ _ _ h)))

/-- Memory at reset, and after a release of RESET_N with any straps, has the canonical form. -/
theorem State.powerOn_mem_wf (size : Nat) (q : List Instr) : (State.powerOn size q).mem.wf = true := rfl

theorem State.reset_mem_wf : State.reset.mem.wf = true := rfl

/-- Canonical memories that read alike everywhere are equal. -/
theorem Memory.ext_of_read (m n : Memory) (hm : m.wf = true) (hn : n.wf = true) (h : ∀ a, m.read a = n.read a) :
    m = n := by
  have below : ∀ (k : Memory) (lo a : Nat), Memory.risingFrom lo k = true → a < lo → k.read a = Config.unlistedByte := by
    intro k
    induction k with
    | nil => intros; rfl
    | cons c rest ih =>
      intro lo a hk ha
      simp only [Memory.risingFrom, Bool.and_eq_true, decide_eq_true_eq] at hk
      rw [Memory.read, if_neg (by omega)]
      exact ih _ _ hk.2 (by omega)
  have main : ∀ (m n : Memory) (lo lo' : Nat), Memory.risingFrom lo m = true → Memory.risingFrom lo' n = true →
      (∀ a, m.read a = n.read a) → m = n := by
    intro m
    induction m with
    | nil =>
      intro n lo lo' _ hn h
      cases n with
      | nil => rfl
      | cons d rest =>
        simp only [Memory.risingFrom, Bool.and_eq_true, decide_eq_true_eq] at hn
        have := h d.1
        simp only [Memory.read, if_true] at this
        exact absurd this.symm hn.1.2
    | cons c rest ih =>
      intro n lo lo' hm hn h
      simp only [Memory.risingFrom, Bool.and_eq_true, decide_eq_true_eq] at hm
      cases n with
      | nil =>
        have := h c.1
        simp only [Memory.read, if_true] at this
        exact absurd this hm.1.2
      | cons d rest' =>
        simp only [Memory.risingFrom, Bool.and_eq_true, decide_eq_true_eq] at hn
        have hcd : c.1 = d.1 := by
          rcases Nat.lt_trichotomy c.1 d.1 with hlt | heq | hgt
          · have := h c.1
            rw [Memory.read, if_pos rfl, Memory.read, if_neg (by omega), below _ _ _ hn.2 (by omega)] at this
            exact absurd this hm.1.2
          · exact heq
          · have := h d.1
            rw [Memory.read, if_neg (by omega), below _ _ _ hm.2 (by omega), Memory.read, if_pos rfl] at this
            exact absurd this.symm hn.1.2
        have hv : c.2 = d.2 := by
          have := h c.1
          rwa [Memory.read, if_pos rfl, Memory.read, if_pos hcd.symm] at this
        have hrest : rest = rest' := by
          refine ih rest' _ _ hm.2 hn.2 fun a => ?_
          by_cases ha : a = c.1
          · rw [below _ _ _ hm.2 (by omega), below _ _ _ hn.2 (by omega)]
          · have := h a
            rwa [Memory.read, if_neg (Ne.symm ha), Memory.read, if_neg (by omega)] at this
        rw [hrest, Prod.ext hcd hv]
  exact main m n 0 0 hm hn h

end Sys2Proof.Machine
end

