-- ==== Sys2Proof/Laws/PerInstr.lean ====
section
/-! SUPPORT. What is so of every command as syntax, one lemma for each row of the table. -/

namespace Sys2Proof.Laws

/-- No word spells the command, and it is ill-formed only as an access of no words or of more than 8 (R1). -/
def IllFormed.Statement (i : Instr) : Prop :=
  (∀ nbits w, decodeTableWord nbits w ≠ some i) ∧
    (i.wellFormed = false → ∃ req, i = .upstreamAccess req ∧ (req.wordCount = 0 ∨ 8 < req.wordCount))

theorem IllFormed.resetNAssert : IllFormed.Statement .resetNAssert := ⟨fun _ _ => nofun, nofun⟩
theorem IllFormed.resetNRelease (size1 size0 : Bool) : IllFormed.Statement (.resetNRelease size1 size0) :=
  ⟨fun _ _ => nofun, nofun⟩
theorem IllFormed.sdramStartupEnd : IllFormed.Statement .sdramStartupEnd := ⟨fun _ _ => nofun, nofun⟩
theorem IllFormed.upstreamAccess (req : UpstreamReq) : IllFormed.Statement (.upstreamAccess req) := by
  refine ⟨fun _ _ => nofun, fun h => ⟨req, rfl, ?_⟩⟩
  simp only [Instr.wellFormed, UpstreamReq.wellFormed, Bool.and_eq_false_iff, decide_eq_false_iff_not] at h
  omega
theorem IllFormed.grantDecision : IllFormed.Statement .grantDecision := ⟨fun _ _ => nofun, nofun⟩
theorem IllFormed.accessComplete : IllFormed.Statement .accessComplete := ⟨fun _ _ => nofun, nofun⟩
theorem IllFormed.plainWrite : IllFormed.Statement .plainWrite := ⟨fun _ _ => nofun, nofun⟩
theorem IllFormed.plainRead : IllFormed.Statement .plainRead := ⟨fun _ _ => nofun, nofun⟩
theorem IllFormed.bulletinWrite : IllFormed.Statement .bulletinWrite := ⟨fun _ _ => nofun, nofun⟩
theorem IllFormed.takenCountWrite : IllFormed.Statement .takenCountWrite := ⟨fun _ _ => nofun, nofun⟩
theorem IllFormed.watchedWordWrite : IllFormed.Statement .watchedWordWrite := ⟨fun _ _ => nofun, nofun⟩
theorem IllFormed.unbackedAccess : IllFormed.Statement .unbackedAccess := ⟨fun _ _ => nofun, nofun⟩
theorem IllFormed.intakeWrite : IllFormed.Statement .intakeWrite := ⟨fun _ _ => nofun, nofun⟩
theorem IllFormed.intakeRead : IllFormed.Statement .intakeRead := ⟨fun _ _ => nofun, nofun⟩
theorem IllFormed.viewRead : IllFormed.Statement .viewRead := ⟨fun _ _ => nofun, nofun⟩
theorem IllFormed.viewWrite : IllFormed.Statement .viewWrite := ⟨fun _ _ => nofun, nofun⟩
theorem IllFormed.locateEnd : IllFormed.Statement .locateEnd := ⟨fun _ _ => nofun, nofun⟩
theorem IllFormed.rowClassificationEnd : IllFormed.Statement .rowClassificationEnd := ⟨fun _ _ => nofun, nofun⟩
theorem IllFormed.frameEndComplete : IllFormed.Statement .frameEndComplete := ⟨fun _ _ => nofun, nofun⟩
theorem IllFormed.unknownCommand : IllFormed.Statement .unknownCommand := ⟨fun _ _ => nofun, nofun⟩
theorem IllFormed.setPlan : IllFormed.Statement .setPlan := ⟨fun _ _ => nofun, nofun⟩
theorem IllFormed.setPlanRing : IllFormed.Statement .setPlanRing := ⟨fun _ _ => nofun, nofun⟩
theorem IllFormed.openStrip : IllFormed.Statement .openStrip := ⟨fun _ _ => nofun, nofun⟩
theorem IllFormed.beginSurvey : IllFormed.Statement .beginSurvey := ⟨fun _ _ => nofun, nofun⟩
theorem IllFormed.relocate : IllFormed.Statement .relocate := ⟨fun _ _ => nofun, nofun⟩
theorem IllFormed.setFramePlan : IllFormed.Statement .setFramePlan := ⟨fun _ _ => nofun, nofun⟩
theorem IllFormed.setFrameRelease : IllFormed.Statement .setFrameRelease := ⟨fun _ _ => nofun, nofun⟩
theorem IllFormed.beginCapture : IllFormed.Statement .beginCapture := ⟨fun _ _ => nofun, nofun⟩
theorem IllFormed.endPass : IllFormed.Statement .endPass := ⟨fun _ _ => nofun, nofun⟩
theorem IllFormed.closeStrip : IllFormed.Statement .closeStrip := ⟨fun _ _ => nofun, nofun⟩
theorem IllFormed.setColumns : IllFormed.Statement .setColumns := ⟨fun _ _ => nofun, nofun⟩
theorem IllFormed.chain : IllFormed.Statement .chain := ⟨fun _ _ => nofun, nofun⟩
theorem IllFormed.chainDetach : IllFormed.Statement .chainDetach := ⟨fun _ _ => nofun, nofun⟩
theorem IllFormed.probeSpan : IllFormed.Statement .probeSpan := ⟨fun _ _ => nofun, nofun⟩
theorem IllFormed.publishCounters : IllFormed.Statement .publishCounters := ⟨fun _ _ => nofun, nofun⟩
theorem IllFormed.clearFault : IllFormed.Statement .clearFault := ⟨fun _ _ => nofun, nofun⟩
theorem IllFormed.restart : IllFormed.Statement .restart := ⟨fun _ _ => nofun, nofun⟩
theorem IllFormed.descriptorLoad : IllFormed.Statement .descriptorLoad := ⟨fun _ _ => nofun, nofun⟩
theorem IllFormed.rejectedClose : IllFormed.Statement .rejectedClose := ⟨fun _ _ => nofun, nofun⟩
theorem IllFormed.recordWrite : IllFormed.Statement .recordWrite := ⟨fun _ _ => nofun, nofun⟩
theorem IllFormed.descriptorClose : IllFormed.Statement .descriptorClose := ⟨fun _ _ => nofun, nofun⟩
theorem IllFormed.reportWriterGrant : IllFormed.Statement .reportWriterGrant := ⟨fun _ _ => nofun, nofun⟩
theorem IllFormed.coalescingTimerExpiry : IllFormed.Statement .coalescingTimerExpiry := ⟨fun _ _ => nofun, nofun⟩
theorem IllFormed.refreshTimerExpiry : IllFormed.Statement .refreshTimerExpiry := ⟨fun _ _ => nofun, nofun⟩
theorem IllFormed.refreshOperation : IllFormed.Statement .refreshOperation := ⟨fun _ _ => nofun, nofun⟩

end Sys2Proof.Laws
end

