-- ==== Sys2Proof/Tests/Slice0.lean ====
section
/-! SUPPORT. The model's own tests: the refusals of WellFormed, worked examples of the manual (the expected values are the
manual's), and for each obligation with hypotheses a state and operands that meet them. -/

namespace Sys2Proof.Tests

open Sys2Proof Sys2Proof.Machine

/-! ## Well-formed commands -/

theorem test_no_words_refused : (Instr.upstreamAccess (.read 0 0)).wellFormed = false := by decide
theorem test_no_beats_refused : (Instr.upstreamAccess (.write 0 [])).wellFormed = false := by decide
theorem test_nine_words_refused : (Instr.upstreamAccess (.read 0 9)).wellFormed = false := by decide
theorem test_eight_words_accepted : (Instr.upstreamAccess (.read 0 8)).wellFormed = true := by decide
theorem test_exec_refuses_no_words : exec (.upstreamAccess (.read 0 0)) State.reset = .refused .burstLength := by rfl

/-! ## Builders -/

/-- The part after its start-up, 64 MiB. -/
def up : State := { State.reset with mc := { State.reset.mc with phase := .running, refreshTimer := some 0 } }

/-- An access in service, nothing served yet, under the state as it stands. -/
def serving (s : State) (req : UpstreamReq) : State :=
  { s with upstream := some ⟨req, .serving, 0, [], [], false, false, false, s.viewNow, none⟩
           mc := { s.mc with port := some .upstream } }

/-- A full word. -/
def full (d : Word) : Beat := ⟨d, 0xF⟩

/-- The state a command answers. -/
def after (c : Instr) (s : State) : State :=
  match exec c s with
  | .next t => t
  | .fault _ => s
  | .refused _ => s

/-- A post of a kind that waits in its posting access. -/
def posting (k : Byte) (m : Memory) (pass : PassState) (s : State) : State :=
  serving { s with cu := { s.cu with posted := some k, shadow := m }, iu := { s.iu with pass := pass } }
    (.write 0x03FFF100 [full 0])

/-- A small strip: 4 survey rows of 2 pixels, 40 capture rows of 8, ratio 2:1. -/
def strip : StripRecord :=
  { sampleOrder := .little, surveyWidth := 2, surveyPitch := 16, surveyRows := 4, surveyBase := 0x100000,
    captureWidth := 8, capturePitch := 64, captureRows := 40, kc := 2, ks := 1, filmLeft := 0, filmRight := 3, dx := 0,
    defaultCleanup := .full, bandAreaBase := 0x200000, bandStride := 0x10000, bandLines := 8, bandPitch := 64,
    params := ⟨5, 1, 8, 0, 0⟩ }

/-- A slot planned over capture rows 10 to 19 and columns 2 to 5. -/
def slot (state : SlotState) (newest : Option Nat) (classified : Nat) : Slot :=
  { Slot.vacantValues with state := state, top := 10, bottom := 19, left := 2, right := 5, bandBase := 0x200000,
                           bandLines := 8, bandPitch := 64, clearLevel := 52000, cleanup := .full, newest := newest,
                           classified := classified }

/-- The part in a pass over the small strip, slot 0 as given. -/
def inPass (pass : PassState) (x : Slot) : State :=
  { up with iu := { up.iu with pass := pass, strip := some strip }
            fl := { up.fl with slots := up.fl.slots.set 0 x, params := some strip.params } }

/-! ## The memory path (01_the_memory_path.md) -/

/-- "A burst across the top of memory": the zones of its four words. -/
theorem test_burst_zones :
    ([0, 1, 2, 3].map fun i => zoneOf 0x04000000 (wordAddress (.write 0x03FFFFF8 []) i))
      = [.bulletin, .bulletin, .unbacked, .unbacked] := by decide

/-- A burst past 0x3FFF_FFFC continues at 0 (R1), the two low address bits being ignored. -/
theorem test_burst_wraps :
    ([0, 1].map fun i => wordAddress (.read 0x3FFFFFFE 2) i) = [0x3FFFFFFC, 0] := by decide

/-- "An intake capture write": row 18, column 1675, word 0. -/
theorem test_intake_place :
    IntakeFrame.place ⟨65536, 7800, 40000⟩ (intakeOffset 0x20123458) = ⟨18, 1675, 0⟩ := by decide

/-- "A view read": slot 3, band line 1, column 1858, word 0. -/
theorem test_view_place :
    AccessView.place { up.viewNow with slots := up.fl.slots.set 3 { Slot.vacantValues with bandPitch := 61440 } } 0x36012A10
      = ⟨3, 1, 1858, 0⟩ := by decide

/-- The third word of the burst above raises UNBACKED at 0x0400_0000, position 2, WRITE, and locks the record. -/
theorem test_unbacked_fault :
    let s := serving up (.write 0x03FFFFF8 [full 1, full 2, full 3, full 4])
    let t := after .unbackedAccess (after .bulletinWrite (after .bulletinWrite s))
    t.fault = ⟨true, .unbacked, 0x04000000, .write, 2, .stripClosed, none⟩ ∧ t.ru.staging = [.fault t.fault]
      ∧ (after .unbackedAccess t).fault = t.fault ∧ (after .unbackedAccess t).ru = t.ru := by decide

/-- A partial word writes only its enabled bytes, low byte first (R1, R199). -/
theorem test_partial_write :
    let t := after .plainWrite (serving up (.write 0x1000 [⟨0x44332211, 0b0101⟩]))
    (t.mem.read 0x1000, t.mem.read 0x1001, t.mem.read 0x1002, t.mem.read 0x1003) = (0x11, 0, 0x33, 0) := by decide

/-- A plain read returns what was written there. -/
theorem test_plain_read :
    let s := after .plainWrite (serving up (.write 0x1000 [full 0x44332211]))
    ((after .plainRead (serving s (.read 0x1000 1))).upstream.map (·.data)) = some [0x44332211] := by decide

/-- "The post word inside a burst": the last record word enters the shadow, then the post is taken. -/
theorem test_post_in_burst :
    let t := after .bulletinWrite (after .bulletinWrite (serving up (.write 0x03FFF0FC [full 0xAABBCCDD, full 0x0C])))
    t.cu.shadow.read 0xFF = 0xAA ∧ t.cu.posted = some 0x0C := by decide

/-- A post word with a nonzero byte above the kind is rejected and counted (R21). -/
theorem test_post_rejected :
    let t := after .bulletinWrite (serving up (.write 0x03FFF100 [full 0x010C]))
    t.cu.posted = none ∧ t.ru.counters.get bulletinReject = 1 := by decide

/-- Sample order BIG exchanges the bytes of each sample, enables with them (R43). -/
theorem test_swap_samples : Beat.swapSamples ⟨0x44332211, 0b0001⟩ = ⟨0x33441122, 0b0010⟩ := by decide

/-! ## Formats (11_formats.md) -/

/-- PROBE_SPAN of span [40, 42], not wide: detail 0x802A_0028 (R212). -/
theorem test_probe_detail : probeDetail (some ⟨0, 0, 40, 42, false⟩) = 0x802A0028 := by decide

/-- "Worked decoding of a slot": the first six bytes of the FRAME_SUMMARY. -/
theorem test_frame_summary_bytes :
    (Report.bytes true (.frameSummary ⟨3, .denseOnly, false, 7, 52000, .zero⟩)).take 6
      = [0x83, 0x0B, 0x07, 0x00, 0x20, 0xCB] := by decide

/-- The worked locate's PLAN report: Q 0x012C, B 0xE290, placed 3, slots planned 0x0D, slivers 2 (R213). -/
theorem test_plan_report_bytes :
    (Report.bytes false (.plan ⟨false, false, 7, 300, 58000, 3, [0, 2, 3], 2, 0⟩)).take 14
      = [0x02, 0, 7, 0, 0x2C, 0x01, 0x90, 0xE2, 3, 0x0D, 2, 0, 0, 0] := by decide

/-- Every report is 32 bytes long (R211): the COUNTERS report fills its slot. -/
theorem test_counters_length :
    (Report.bytes false (.counters (some 9) (Vector.replicate 14 0) 0)).length = 32 := by decide

/-! ## Frame location (04_frame_location.md) -/

/-- The worked locate's profile, each run of rows at its listed values. -/
def profile : List ProfileEntry :=
  List.replicate 4 ⟨58000, 61000⟩ ++ List.replicate 72 ⟨18000, 51200⟩ ++ List.replicate 6 ⟨57800, 61000⟩
    ++ List.replicate 68 ⟨44000, 50100⟩ ++ List.replicate 2 ⟨53000, 52800⟩ ++ List.replicate 2 ⟨30000, 49700⟩
    ++ List.replicate 72 ⟨35000, 3900⟩ ++ [⟨31000, 3700⟩] ++ List.replicate 6 ⟨57500, 61000⟩
    ++ List.replicate 30 ⟨39000, 48000⟩ ++ List.replicate 7 ⟨57900, 61000⟩ ++ List.replicate 30 ⟨38000, 47500⟩

/-- The worked locate's inputs with frame length P. -/
def locateInputs (p : Nat) : LocateInputs :=
  ⟨profile, ⟨6000, 5, p, 6, 16⟩,
    { strip with kc := 8, ks := 1, captureRows := 2400, filmLeft := 40, filmRight := 5639 }, 4096⟩

/-- "Worked locate": its three frames, two slivers and base level. -/
theorem test_worked_locate :
    (locateInputs 72).plan =
      ⟨[⟨4, 75, 48, 591, 56, 5623, 51200, .full, false, false⟩, ⟨82, 153, 672, 1215, 56, 5623, 52800, .full, false, true⟩,
        ⟨154, 225, 1248, 1791, 56, 5623, 3900, .opaqueFilm, false, true⟩], 2, 58000, false⟩ := by decide +kernel

/-- "Worked relocation" with P 144: two frames trimmed at row 112. -/
theorem test_worked_relocate :
    (locateInputs 144).plan.frames.map (fun f => (f.surveyTop, f.surveyBottom, f.top, f.bottom, f.clearLevel))
      = [(0, 112, 16, 887, 61000), (113, 225, 920, 1791, 52800)] := by decide +kernel

/-! ## Classification and tracking (05, 06) -/

/-- "Worked classification of a row". -/
def workedRow : Classification :=
  { slot := 2, row := 0, values := [51000, 50500, 49000, 30000, 20000, 12000, 16000, 15000, 52000, 44000, 47000, 60000],
    torn := 1, clearLevel := 52000, dx := 1, width := 12, left := 1000, cleanup := .full, tDense := 128, tFaint := 230,
    wMax := 32, minArea := 1, columns := [1006] }

theorem test_worked_classes :
    workedRow.classes = [.clean, .clean, .faint, .dense, .dense, .dense, .bridge, .clean, .faint, .clean, .clean, .clean] := by
  decide

/-- One run of columns 3 to 6, its bridge not counted in its area. -/
theorem test_worked_run : workedRow.runs = [⟨3, 6, 3⟩] := by decide

/-- A row's runs taken by the tracker, and what closes: the table, and the records. -/
def track (row : Nat) (runs : List Run) (t : Tracking × Listing) : Tracking × Listing :=
  let u := Tracking.takeAll ⟨row, 40, 100, 32, false⟩ 1 runs [] { t.1 with previous := t.1.current, current := [] }
  let stays := fun (b : OpenBlemish) => u.current.any fun p => decide (p.key = b.key)
  ({ u with openTable := u.openTable.filter stays },
    t.2.closeAll 4 1 3 false (u.openTable.filter fun b => !stays b))

/-- "A blemish grows and merges": rows 10 to 16. -/
theorem test_worked_blemish :
    (track 16 [] (track 15 [⟨12, 20, 8⟩] (track 14 [⟨10, 22, 12⟩] (track 13 [⟨9, 15, 7⟩, ⟨19, 21, 2⟩]
      (track 12 [⟨8, 10, 3⟩, ⟨14, 17, 4⟩] (track 11 [⟨6, 8, 3⟩, ⟨15, 16, 2⟩]
        (track 10 [⟨5, 7, 3⟩, ⟨30, 30, 1⟩] (⟨[], [], [], 0, 0⟩, ⟨[], some 7, 0, 0, 0⟩)))))))).2
      = ⟨[.record ⟨7, 1, 3, 10, 15, 5, 22, 44, 6, 13, 2, false, false, false, false, []⟩], some 8, 2, 1, 0⟩ := by decide

/-! ## The mended view (07) -/

/-- The worked reads: the span with both anchors, at its three columns. -/
theorem test_interpolate :
    (interpolatePixel 3 1 ⟨12000, 21000, 8000, 50000⟩ ⟨12800, 22600, 8400, 51000⟩,
      interpolatePixel 3 3 ⟨12000, 21000, 8000, 50000⟩ ⟨12800, 22600, 8400, 51000⟩)
      = (⟨12200, 21400, 8100, 50250⟩, ⟨12600, 22200, 8300, 50750⟩) := by decide

/-- The worked reads: a faint pixel, and a saturated correction. -/
theorem test_faint :
    (correctPixel 52000 30000 ⟨18000, 26000, 9000, 30000⟩, correctPixel 52000 30000 ⟨40000, 41000, 20000, 30000⟩)
      = (⟨31200, 45067, 15600, 52000⟩, ⟨65535, 65535, 34667, 52000⟩) := by decide

/-- "Worked column mend": the group of columns 10 and 11, and its interpolation. -/
theorem test_column_mend :
    (groupStart [1010, 1011] 1000 11, groupStop [1010, 1011] 1000 20 10,
      interpolatePixel 2 1 ⟨30000, 20000, 7000, 50000⟩ ⟨10000, 20300, 7000, 50600⟩)
      = (10, 11, ⟨23333, 20100, 7000, 50200⟩) := by decide

/-- Band line 2 of 8 lines with Ymax 18 holds row 18, with Ymax 17 row 10 (06, the worked sequence's end). -/
theorem test_resident_row :
    ((slot .active (some 18) 0).residentRow 2, (slot .active (some 17) 0).residentRow 2,
      (slot .active (some 1) 0).residentRow 2) = (some 18, some 10, none) := by decide

/-! ## Reports, lists and the arbiter (08, 09, 10) -/

/-- The worked TAKE sequence's ring: 16 slots, N 3, T 500 µs. -/
def ring : Settings := { Settings.powerOn with ringBase := 0x200000, slotCount := 16, coalesceCount := 3, coalesceTime := 500 }

/-- Its Report Unit at a produced and a taken count. -/
def ruAt (produced taken : Word) : ReportUnit := { ReportUnit.powerOn with produced := produced, taken := taken }

/-- The ACK of time 0 starts the timer and leaves the line released; LIST_STALL asserts it by its kind. -/
theorem test_attention_write :
    let a := (ruAt 40 40).reportWritten ring (.ack 1 .done .stripClosed false 0)
    let b := (ruAt 43 43).reportWritten ring (.listStall 0 0)
    (a.produced, a.newest, a.timer, a.attention) = (41, some 8, some 0, false) ∧ b.attention = true ∧ b.newest = some 11 := by
  decide

/-- Taken 41 keeps the timer running; taken 43 releases the line; taken 70 of a produced 62 is outside the window. -/
theorem test_attention_taken :
    (({ ruAt 42 40 with timer := some 7 }).takenAccepted ring 41).timer = some 7
      ∧ (({ ruAt 43 41 with attention := true }).takenAccepted ring 43).attention = false
      ∧ (ruAt 62 54).takenInWindow 16 70 = false := by decide

/-- "A full ring": a staged report is dropped at once, REPORT_DROP counted and LOST set. -/
theorem test_full_ring :
    let s : State := { up with cu := { up.cu with standing := ring }, ru := ruAt 61 45 }
    let t := s.stage (.listStall 0 0)
    t.ru.staging = [] ∧ t.ru.lost = true ∧ t.ru.counters.get reportDrop = 1 := by decide

/-- The 32nd upstream grant over a normal List Writer promotes it (10, the worked capture stretch). -/
theorem test_promotion : passOver .normal 31 false = (32, true) ∧ passOver .normal 0 false = (1, false)
    ∧ passOver .urgent 31 false = (31, false) := by decide

/-- Descriptor D1 of the worked stall: a record of 32 bytes does not fit at filled 96 of 96, so the close is FULL. -/
def writer (filled : Nat) (queue : List QueueEntry) : ListWriter :=
  ⟨queue, .filling, some 0x300000, some ⟨0x300020, 0x310000, 96⟩, filled, some 40, some 41, false⟩

/-- A record of the worked stall. -/
def record (serial : Nat) (wide : Bool) : BlemishRecord :=
  ⟨serial, 2, 3, 10, 15, 5, 22, 44, 6, 13, 2, wide, false, false, false, if wide then [⟨10, 5, 22⟩] else []⟩

theorem test_list_choice :
    (writer 96 [.record (record 42 false)]).chooseOp = some .closeFull
      ∧ (writer 32 [.record (record 41 true)]).chooseOp = some (.recordWrite (record 41 true))
      ∧ (writer 0 [.marker 2]).chooseOp = some (.closeFrameEnd 2) := by decide

/-- A FULL close of D1 writes filled 96, status 1, slot 0xFF and the serials, and the writer loads D2. -/
theorem test_full_close :
    let s : State := { up with lw := writer 96 [.record (record 42 false)], mc := { up.mc with port := some (.list .closeFull) } }
    let t := after .descriptorClose s
    ((List.range 16).map fun i => t.mem.read (0x30000C + i)) = [96, 0, 0, 0, 1, 0xFF, 0, 0, 40, 0, 0, 0, 41, 0, 0, 0]
      ∧ (t.lw.state, t.lw.current) = (.loading, some 0x300020) ∧ t.mc.port = none := by decide

/-- With next 0 the writer stalls and holds its copies, filled count and serials (R154, R159). -/
theorem test_stall_holds :
    let w := { writer 96 [.record (record 42 false)] with copy := some ⟨0, 0x310000, 96⟩ }
    let s : State := { up with lw := w, mc := { up.mc with port := some (.list .closeFull) } }
    (after .descriptorClose s).lw = { w with state := .stalled } := by decide

/-- A record's flags and length (R216). -/
theorem test_record_bytes :
    (record 41 true).bytes.length = 64 ∧ ((record 41 true).bytes.drop 4).take 2 = [2, 1]
      ∧ (record 41 false).bytes.length = 32 := by decide

/-- An expiry at debt 8 counts REFRESH_OVERRUN and leaves the debt (R187); one at 7 raises it. -/
theorem test_refresh_expiry :
    let s : State := { up with mc := { up.mc with debt := 8 } }
    let r : State := { up with mc := { up.mc with debt := 7 } }
    ((after .refreshTimerExpiry s).mc.debt, (after .refreshTimerExpiry s).ru.counters.get refreshOverrun) = (8, 1)
      ∧ (after .refreshTimerExpiry r).mc.debt = 8 := by decide


/-! ## Witnesses: for each statement with hypotheses, states and operands that meet them, at the ends of each clause's range -/

/-- The access at the port; a state without one has none of the witnesses' hypotheses. -/
def accessOf (s : State) : Access :=
  s.upstream.getD ⟨.read 0 1, .startupHeld, 0, [], [], false, false, false, s.viewNow, none⟩

/-- The word next in service. -/
def wordOfService (s : State) : WordItem := s.wordInService.getD ⟨0, 0, .plain, false, ⟨0, 0⟩⟩

/-- A word is in service: the hypotheses the word-level statements share. -/
abbrev Serves (s : State) : Prop := s.upstream = some (accessOf s) ∧ s.wordInService = some (wordOfService s)

/-- A write of one full word at the port. -/
def writing (s : State) (a : BitVec 30) : State := serving s (.write a [full 0xAABBCCDD])

/-- A read of one word at the port. -/
def reading (s : State) (a : BitVec 30) : State := serving s (.read a 1)

/-- The same access with its fault, or its row overrun, already taken. -/
def marked (s : State) : State :=
  { s with upstream := s.upstream.map fun a => { a with faulted := true, overCounted := true } }

/-- A write at the port whose one word is served and handed on. -/
def handing (s : State) (h : List HandOver) (b : Beat) : State :=
  { s with upstream := some ⟨.write 0x03FFF104 [b], .serving, 1, [], h, false, false, false, s.viewNow, none⟩ }

theorem witness_StepRunsFrontCommand :
    ∃ (s : State) (c : Instr) (rest : List Instr), s.pending = c :: rest :=
  ⟨{ up with pending := [.refreshOperation, .plainRead] }, _, _, rfl⟩

theorem witness_ExecAnswersNext :
    (∀ req, Instr.upstreamAccess (.read 0 8) = .upstreamAccess req → 1 ≤ req.wordCount ∧ req.wordCount ≤ 8)
      ∧ (∀ req, Instr.plainRead = .upstreamAccess req → 1 ≤ req.wordCount ∧ req.wordCount ≤ 8)
      ∧ ∃ req, Instr.upstreamAccess (.read 0 9) = .upstreamAccess req ∧ (req.wordCount = 0 ∨ 8 < req.wordCount) :=
  ⟨(by intro r h; cases h; decide), (by intro r h; cases h), _, rfl, by decide⟩

theorem witness_IdleStepTicksTheTimers :
    ∃ s : State, s.pending = [] ∧ s.mc.refreshTimer = some 77 ∧ s.ru.timer = some 4999 :=
  ⟨{ up with mc := { up.mc with refreshTimer := some 77 }, ru := { up.ru with timer := some 4999 } }, rfl, rfl, rfl⟩

/-- A state away from reset, about to take a grant decision. -/
def lively : State :=
  { serving up (.read 0 1) with
    upstream := some ⟨.read 0 1, .asking, 0, [], [], false, false, false, up.viewNow, none⟩
    mem := [(5, 1), (9, 7)]
    cu := { up.cu with columns := [3, 9], shadow := [(0, 1)], standing := ring }
    bt := { up.bt with spans := [⟨0, 10, 4, 5, false⟩, ⟨0, 10, 8, 8, true⟩] }
    ru := { ruAt 3 1 with staging := [.listStall 0 0] }
    mc := { up.mc with port := none, passedReport := 31, debt := 5 }
    pending := [.grantDecision] }

theorem witness_StepKeepsMemoryCanonical : ∃ s t : State, s.MemoryCanonical ∧ step s = .next t :=
  ⟨lively, _, ⟨by decide, by decide⟩, rfl⟩
theorem witness_StepKeepsBounds : ∃ s t : State, s.Bounded ∧ step s = .next t :=
  ⟨lively, _, by unfold State.Bounded; decide, rfl⟩
theorem witness_StepKeepsPromotionsCounted : ∃ s t : State, s.PromotionsCounted ∧ step s = .next t :=
  ⟨lively, _, by unfold State.PromotionsCounted; decide, rfl⟩
theorem witness_StepKeepsThresholdsOrdered : ∃ s t : State, s.ThresholdsOrdered ∧ step s = .next t :=
  ⟨lively, _, by unfold State.ThresholdsOrdered; decide, rfl⟩
theorem witness_StepKeepsRingWindow : ∃ s t : State, s.RingWindow ∧ step s = .next t :=
  ⟨lively, _, by unfold State.RingWindow; decide, rfl⟩
theorem witness_StepKeepsSpansOrdered : ∃ s t : State, s.SpansOrdered ∧ step s = .next t :=
  ⟨lively, _, by unfold State.SpansOrdered; decide, rfl⟩
theorem witness_StepKeepsColumnsAscending : ∃ s t : State, s.ColumnsAscend ∧ step s = .next t :=
  ⟨lively, _, by unfold State.ColumnsAscend; decide, rfl⟩

theorem witness_MemorySizeFixedByStraps :
    ∃ (c : Instr) (s t : State), (∀ a b, c ≠ .resetNRelease a b) ∧ exec c s = .next t :=
  ⟨.resetNAssert, up, _, (by intro a b h; cases h), rfl⟩

theorem witness_AddressPlan :
    (4096 < 0x04000000 ∧ 0x04000000 ≤ 0x20000000 ∧ 0x3FFFFFFF < 2 ^ 30)
      ∧ ([0, 0x03FFEFFF, 0x03FFF000, 0x03FFFFFF, 0x04000000, 0x1FFFFFFF, 0x20000000, 0x2FFFFFFF, 0x30000000,
          0x3FFFFFFF].map (zoneOf 0x04000000))
        = [.plain, .plain, .bulletin, .bulletin, .unbacked, .unbacked, .intake, .intake, .view, .view] := by decide

theorem witness_AccessPresented :
    (State.reset.upstream = none ∧ State.reset.mc.phase = .startup ∧ State.reset.mc.phase ≠ .inReset)
      ∧ (up.upstream = none ∧ up.mc.phase = .running)
      ∧ (1 ≤ (UpstreamReq.read 0 1).wordCount ∧ (UpstreamReq.read 0x04000000 8).wordCount ≤ 8)
      ∧ (∀ i < (UpstreamReq.read 0x04000000 8).wordCount,
          zoneOf up.mc.size (wordAddress (.read 0x04000000 8) i) = .unbacked)
      ∧ ∃ i < (UpstreamReq.read 0 1).wordCount, zoneOf up.mc.size (wordAddress (.read 0 1) i) ≠ .unbacked := by decide

/-- A capture pass with both halves of the IR row buffer taken. -/
def halvesTaken : State :=
  let s := inPass .capturing (slot .active none 0)
  { s with iu := { s.iu with halfA := ⟨.waiting, 10, 0, [], 0⟩, halfB := ⟨.waiting, 11, 0, [], 0⟩,
                             tracker := ⟨some 11, 0, true, false, 0, 0⟩ } }

/-- The first word of routed row 12 is held, the second routed row behind it not asked for; a read is not. -/
theorem witness_RowHoldDecided :
    halvesTaken.holdsAccess (.write 0x20000310 [full 0]) = true
      ∧ halvesTaken.holdsAccess (.write 0x200002D0 [full 0]) = false
      ∧ halvesTaken.holdsAccess (.write 0x20000308 [full 0]) = false
      ∧ halvesTaken.holdsAccess (.read 0x20000310 1) = false
      ∧ up.holdsAccess (.write 0x20000310 [full 0]) = false := by decide

theorem witness_AccessCompletes :
    let s := after .plainRead (reading up 0);
    s.upstream = some (accessOf s) ∧ (accessOf s).phase = .serving ∧ (accessOf s).handed = [] ∧ s.cu.posted = none
      ∧ (accessOf s).served = (accessOf s).req.wordCount
      ∧ (s.bt.restartPending = false ∧ s.bt.closePending = false) := by decide

/-- The completions of operations at the port, one of each kind. -/
def endings : List (Instr × State) :=
  let port := fun o : PortOp => ({ up with mc := { up.mc with port := some o } } : State)
  [(.accessComplete, after .plainRead (reading up 0)), (.reportWriterGrant, port (.report [(0, .none)] true)),
   (.descriptorLoad, port (.list .load)), (.rejectedClose, port (.list .rejectedClose)),
   (.recordWrite, port (.list (.recordWrite ⟨1, 2, 3, 10, 15, 5, 22, 44, 6, 13, 2, false, false, false, false, []⟩))),
   (.descriptorClose, port (.list .closeFull)), (.descriptorClose, port (.list (.closeFrameEnd 7))),
   (.refreshOperation, port .refresh)]

/-- Each ends its operation, and a RESTART or CLOSE_STRIP may be pending then, with a classification in flight or none. -/
theorem witness_AccessCompletes_pending :
    (∀ p ∈ endings, p.2.EndsOperation p.1)
      ∧ ∀ p ∈ endings, p.2.bt.classifying = none := by
  refine ⟨?_, by decide⟩
  simp only [endings, List.forall_mem_cons, List.not_mem_nil, false_imp_iff, implies_true, and_true]
  refine ⟨.inl ⟨rfl, by decide, _, rfl, by decide⟩, .inr (.inl ⟨rfl, _, _, rfl⟩), .inr (.inr (.inl ⟨rfl, rfl⟩)),
    .inr (.inr (.inr (.inl ⟨rfl, rfl⟩))), .inr (.inr (.inr (.inr (.inl ⟨rfl, _, rfl⟩)))),
    .inr (.inr (.inr (.inr (.inr (.inl ⟨rfl, .inl rfl⟩))))), .inr (.inr (.inr (.inr (.inr (.inl ⟨rfl, .inr ⟨_, rfl⟩⟩))))),
    .inr (.inr (.inr (.inr (.inr (.inr ⟨rfl, rfl⟩)))))⟩

/-- A CLOSE_STRIP that waited for a refresh operation takes effect as it ends: the strip is closed, the overrides gone. -/
theorem test_close_after_operation :
    let s : State := { up with mc := { up.mc with port := some .refresh }, bt := { up.bt with closePending := true }
                               iu := { up.iu with pass := .capturing }
                               cu := { up.cu with overrides := { up.cu.overrides with wMax := some 3 } } }
    let t := after .refreshOperation s
    (t.iu.pass, t.bt.closePending, t.cu.overrides.wMax, t.mc.port) = (.stripClosed, false, none, none) := by decide

/-- In READ mode, with newest slot 2. -/
def readMode : State :=
  { up with cu := { up.cu with standing := { ring with attentionMode := .read } },
            ru := { ruAt 3 0 with newest := some 2, attention := true } }

theorem witness_PlainWords :
    (Serves (writing up 0x03FFEFFC) ∧ (wordOfService (writing up 0x03FFEFFC)).zone = .plain
        ∧ (wordOfService (writing up 0x03FFEFFC)).isWrite = true)
      ∧ (Serves (writing { up with lw := writer 0 [] } 0x300000)
        ∧ (writer 0 []).state ≠ .unchained ∧ (writer 0 []).current = some 0x300000)
      ∧ (Serves (reading readMode 0x20005C) ∧ (wordOfService (reading readMode 0x20005C)).zone = .plain
        ∧ (wordOfService (reading readMode 0x20005C)).isWrite = false ∧ readMode.ru.newest = some 2
        ∧ readMode.cu.standing.ringBase + 32 * 2 ≤ (wordOfService (reading readMode 0x20005C)).address
        ∧ (wordOfService (reading readMode 0x20005C)).address < readMode.cu.standing.ringBase + 32 * 2 + 32)
      ∧ (Serves (reading readMode 0x200060)
        ∧ ¬(wordOfService (reading readMode 0x200060)).address < readMode.cu.standing.ringBase + 32 * 2 + 32)
      ∧ (Serves (reading up 0x03FFF000) ∧ (wordOfService (reading up 0x03FFF000)).zone = .bulletin) := by decide

theorem witness_BulletinWrite :
    (∀ p ∈ [((0x03FFF000 : BitVec 30), 0), (0x03FFF0FC, 0xFC), (0x03FFF100, 0x100), (0x03FFF104, 0x104),
          (0x03FFF108, 0x108), (0x03FFFFFC, 0xFFC)],
        Serves (writing up p.1) ∧ (wordOfService (writing up p.1)).zone = .bulletin
          ∧ (wordOfService (writing up p.1)).isWrite = true ∧ 4096 ≤ (writing up p.1).mc.size
          ∧ (wordOfService (writing up p.1)).address + 4096 = (writing up p.1).mc.size + p.2
          ∧ (writing up p.1).lw.state = .unchained)
      ∧ (let s := serving up (.write 0x03FFF100 [full 0xFF]);
        Serves s ∧ (wordOfService s).beat.enables = 0xF#4 ∧ (wordOfService s).beat.data.toNat < 256)
      ∧ (let s := serving up (.write 0x03FFF100 [full 0x100]);
        Serves s ∧ 256 ≤ (wordOfService s).beat.data.toNat)
      ∧ (let s := writing { up with lw := { writer 0 [] with current := some 0x03FFF104 } } 0x03FFF104;
        Serves s ∧ s.lw.state ≠ .unchained ∧ s.lw.current = some (wordOfService s).address) := by decide

/-- A taken-count write of `b` handed to RU with its counts `r` under settings `st`. -/
def taking (st : Settings) (r : ReportUnit) (b : Beat) : State :=
  handing { up with cu := { up.cu with standing := st }, ru := r } [.reportUnit] b

/-- The hypotheses TakenCountWrite and TakeModeAttention share. -/
abbrev Takes (s : State) (b : Beat) : Prop :=
  s.upstream = some (accessOf s) ∧ (accessOf s).handed = [.reportUnit]
    ∧ b = requestBeat (accessOf s).req ((accessOf s).served - 1)

theorem witness_TakenCountWrite :
    (Takes (taking ring (ruAt 62 54) ⟨55, 7⟩) ⟨55, 7⟩ ∧ (⟨55, 7⟩ : Beat).enables ≠ 0xF#4)
      ∧ (Takes (taking ring (ruAt 62 54) (full 45)) (full 45)
        ∧ (taking ring (ruAt 62 54) (full 45)).cu.standing.slotCount < ((62 : Word) - (full 45).data).toNat)
      ∧ (Takes (taking { ring with attentionMode := .read } (ruAt 62 54) (full 46)) (full 46)
        ∧ ((62 : Word) - (full 46).data).toNat ≤ ring.slotCount
        ∧ (taking ring (ruAt 62 54) (full 46)).ru.staging = [])
      ∧ (Takes (taking ring (ruAt 62 54) (full 62)) (full 62) ∧ ring.attentionMode = .take)
      ∧ (Takes (taking ring (ruAt 62 54) (full 54)) (full 54) ∧ (full 54).data ≠ (62 : Word)
        ∧ ((62 : Word) - (full 54).data).toNat ≤ ((62 : Word) - 54).toNat)
      ∧ (Takes (taking ring (ruAt 62 54) (full 53)) (full 53)
        ∧ ((62 : Word) - 54).toNat < ((62 : Word) - (full 53).data).toNat)
      ∧ (Takes (taking ring (ruAt 62 62) (full 61)) (full 61)
        ∧ (taking ring (ruAt 62 62) (full 61)).ru.produced = (taking ring (ruAt 62 62) (full 61)).ru.taken) := by decide

theorem witness_TakeModeAttention :
    (Takes (taking ring (ruAt 62 54) (full 62)) (full 62) ∧ (full 62).enables = 0xF#4 ∧ ring.attentionMode = .take
        ∧ ((62 : Word) - (full 62).data).toNat ≤ ring.slotCount)
      ∧ (Takes (taking ring (ruAt 62 54) (full 46)) (full 46) ∧ (full 46).data ≠ (62 : Word)
        ∧ ((62 : Word) - (full 46).data).toNat ≤ ring.slotCount)
      ∧ (Serves (reading { up with cu := { up.cu with standing := ring } } 0x200000)
        ∧ (wordOfService (reading up 0x200000)).zone = .plain) := by decide

/-- A write of the watched word handed to LW in a writer state. -/
def watched (state : WriterState) (b : Beat) : State :=
  handing { up with lw := { writer 0 [] with state := state } } [.listWriter] b

/-- The hypotheses of WatchedWordWrite, but for what LW does. -/
abbrev Watches (s : State) (b : Beat) : Prop :=
  s.upstream = some (accessOf s) ∧ (accessOf s).handed = [.listWriter]
    ∧ ([] : List HandOver).head? ≠ some .commandUnit ∧ b = requestBeat (accessOf s).req ((accessOf s).served - 1)

theorem witness_WatchedWordWrite :
    (Watches (watched .filling ⟨0x20, 0xE⟩) ⟨0x20, 0xE⟩ ∧ (⟨0x20, 0xE⟩ : Beat).enables ≠ 0xF#4)
      ∧ (Watches (watched .stalled (full 0)) (full 0) ∧ (full 0).data.toNat = 0)
      ∧ (Watches (watched .loading (full 1)) (full 1) ∧ (full 1).data.toNat ≠ 0)
      ∧ (Watches (watched .stalled (full 0x03FFFFE0)) (full 0x03FFFFE0) ∧ (full 0x03FFFFE0).data.toNat % 32 = 0
        ∧ (full 0x03FFFFE0).data.toNat < up.mc.size)
      ∧ (Watches (watched .stalled (full 0x04000000)) (full 0x04000000)
        ∧ up.mc.size ≤ (full 0x04000000).data.toNat) := by decide

/-- LW's treatment of a write: ignored, taken as the copy of next, and resuming. -/
theorem witness_WatchedWordWrite_link :
    (watched .filling ⟨0x20, 0xE⟩).LinkWritten ⟨0x20, 0xE⟩ (watched .filling ⟨0x20, 0xE⟩)
      ∧ (watched .stalled (full 0x20)).LinkWritten (full 0x20)
          { watched .stalled (full 0x20) with lw := { writer 0 [] with state := .loading, current := some 0x20 } }
      ∧ (watched .filling (full 0x20)).LinkWritten (full 0x20)
          { watched .filling (full 0x20) with lw := writer 0 [] |> fun w => { w with copy := some ⟨0x20, 0x310000, 96⟩ } } := by
  refine ⟨⟨fun _ => rfl, fun h => absurd h (by decide), fun h => absurd h (by decide), fun h => absurd h (by decide)⟩,
    ⟨fun h => absurd h (by decide), fun _ _ h => absurd h (by decide), fun _ _ _ _ _ => rfl,
      fun _ _ _ h => absurd h (by decide)⟩,
    ⟨fun h => absurd h (by decide), fun _ _ _ => rfl, fun _ _ h => absurd h (by decide), fun _ _ h => absurd h (by decide)⟩⟩

/-- A watched word at the record's last word, the post word, the taken count. -/
def watchedAt (a : BitVec 30) (b : Beat) (later : List HandOver) : State :=
  { up with lw := { writer 0 [] with state := .filling, current := some a.toNat }
            upstream := some ⟨.write a [b], .serving, 1, [], .listWriter :: .commandUnit :: later, false, false, false,
              up.viewNow, none⟩ }

theorem witness_WatchedWordWrite_commandUnit :
    ∀ p ∈ [((0x03FFF000 : BitVec 30), 0, ([] : List HandOver)), (0x03FFF0FC, 0xFC, []), (0x03FFF100, 0x100, []),
        (0x03FFF104, 0x104, [.reportUnit])],
      let s := watchedAt p.1 (full 7) p.2.2;
      s.upstream = some (accessOf s) ∧ (accessOf s).handed = .listWriter :: .commandUnit :: p.2.2
        ∧ full 7 = requestBeat (accessOf s).req ((accessOf s).served - 1) ∧ 4096 ≤ s.mc.size
        ∧ wordAddress (accessOf s).req ((accessOf s).served - 1) + 4096 = s.mc.size + p.2.1 := by decide

/-- CU posts the kind after LW has taken the same write as its link (R5). -/
theorem test_watched_post_word :
    let t := after .watchedWordWrite (watchedAt 0x03FFF100 (full 0x0C) [])
    t.cu.posted = some 0x0C ∧ t.lw.copy.map (·.next) = some 0x0C := by decide

/-- A locked record, with the FAULT_MISSED counter at a value. -/
def lockedAt (n : Half16) (mask : BitVec 14) : State :=
  { up with fault := { up.fault with locked := true }, cu := { up.cu with standing := { ring with countMask := mask } },
            ru := { up.ru with counters := up.ru.counters.set 10 n } }

theorem witness_FaultRaised :
    (up.fault.locked = false ∧ up.ru.staging.length < 8 ∧ up.ru.ringFull up.cu.standing.slotCount = false)
      ∧ ((lockedAt 0 0x400).fault.locked = true ∧ (lockedAt 0 0x400).cu.standing.countMask.getLsbD 10 = true)
      ∧ ((lockedAt 49150 0).fault.locked = true ∧ (lockedAt 49150 0).cu.standing.countMask.getLsbD 10 = false
        ∧ (lockedAt 49150 0).ru.counters.get 10 ≠ 49151) := by decide

theorem witness_UnbackedWord :
    (Serves (writing up 0x04000000) ∧ up.mc.size ≤ (wordOfService (writing up 0x04000000)).address
        ∧ (accessOf (writing up 0x04000000)).faulted = false)
      ∧ (Serves (marked (reading up 0x1FFFFFFC))
        ∧ (wordOfService (marked (reading up 0x1FFFFFFC))).address ≤ 0x1FFFFFFF
        ∧ (accessOf (marked (reading up 0x1FFFFFFC))).faulted = true) := by decide

/-- The small strip with two padding columns a capture row. -/
def padded : State :=
  let s := inPass .capturing (slot .active none 0)
  { s with iu := { s.iu with strip := some { strip with capturePitch := 80 } } }

theorem witness_IntakeWriteDropped :
    (let s := writing up 0x20000000;
      Serves s ∧ (wordOfService s).isWrite = true ∧ (wordOfService s).address = 0x20000000 + 0
        ∧ (accessOf s).view.pass ≠ .surveying ∧ (accessOf s).view.pass ≠ .capturing ∧ (accessOf s).faulted = false)
      ∧ (let s := marked (writing up 0x2FFFFFFC);
        Serves s ∧ (wordOfService s).address = 0x20000000 + 0x0FFFFFFC ∧ (accessOf s).faulted = true)
      ∧ (let s := writing (inPass .surveying (slot .vacant none 0)) 0x20000040;
        Serves s ∧ (accessOf s).view.pass = .surveying ∧ (accessOf s).view.strip = some strip
          ∧ (wordOfService s).address = 0x20000000 + 0x40 ∧ strip.surveyRows ≤ 0x40 / strip.surveyPitch
          ∧ (accessOf s).overCounted = false ∧ (accessOf (marked s)).overCounted = true ∧ Serves (marked s))
      ∧ (let s := writing padded 0x20000040;
        Serves s ∧ (accessOf s).view.pass = .capturing ∧ 0x40 / 80 < strip.captureRows
          ∧ strip.captureWidth ≤ 0x40 % 80 / 8) := by decide

theorem witness_SurveyWordStored :
    let s := writing (inPass .surveying (slot .vacant none 0)) 0x2000003C;
    Serves s ∧ (wordOfService s).isWrite = true ∧ (wordOfService s).address = 0x20000000 + 0x3C
      ∧ (accessOf s).view.pass = .surveying ∧ (accessOf s).view.strip = some strip ∧ 0 < strip.surveyPitch
      ∧ strip.surveyPitch % 8 = 0 ∧ 0x3C / strip.surveyPitch < strip.surveyRows
      ∧ 0x3C % strip.surveyPitch / 8 < strip.surveyWidth := by decide

/-- A survey pass in its open row 2, with a settled count and a pending word. -/
def surveyRow (settled : Nat) (p : Option PendingWord) : State :=
  let s := inPass .surveying (slot .vacant none 0)
  { s with iu := { s.iu with pairing := p, tracker := ⟨some 2, settled, false, false, 0, 0⟩ } }

/-- A survey word of the small strip is in service. -/
theorem surveys (s : State) (row col k : Nat)
    (h : Serves s ∧ (wordOfService s).isWrite = true ∧ (accessOf s).view.pass = .surveying
      ∧ (accessOf s).view.strip = some strip ∧ col < strip.surveyWidth ∧ row < strip.surveyRows
      ∧ row * strip.surveyPitch + strip.surveyPitch ≤ 0x10000000 ∧ k < 2
      ∧ (wordOfService s).address = 0x20000000 + row * strip.surveyPitch + col * 8 + k * 4) :
    s.SurveyWord (accessOf s) strip row col k (wordOfService s).beat :=
  ⟨wordOfService s, h.1.1, h.1.2, h.2.1, h.2.2.1, h.2.2.2.1, rfl, h.2.2.2.2.1, h.2.2.2.2.2.1, by decide, by decide,
    h.2.2.2.2.2.2.1, h.2.2.2.2.2.2.2.1, h.2.2.2.2.2.2.2.2⟩

/-- Words in the open row 2: a word 0 with and without a pending one, a word 1 with its pair and alone, and the row's last. -/
theorem witness_SurveyPixelSettles :
    ((writing (surveyRow 0 none) 0x20000020).SurveyWord (accessOf (writing (surveyRow 0 none) 0x20000020)) strip 2 0 0
        (full 0xAABBCCDD) ∧ (surveyRow 0 none).iu.pairing = none)
      ∧ ((writing (surveyRow 0 (some ⟨2, 1, true, 7⟩)) 0x20000020).SurveyWord
          (accessOf (writing (surveyRow 0 (some ⟨2, 1, true, 7⟩)) 0x20000020)) strip 2 0 0 (full 0xAABBCCDD)
        ∧ 0 + 1 ≠ strip.surveyWidth)
      ∧ (writing (surveyRow 0 (some ⟨2, 0, true, 7⟩)) 0x20000024).SurveyWord
          (accessOf (writing (surveyRow 0 (some ⟨2, 0, true, 7⟩)) 0x20000024)) strip 2 0 1 (full 0xAABBCCDD)
      ∧ ((writing (surveyRow 1 none) 0x2000002C).SurveyWord (accessOf (writing (surveyRow 1 none) 0x2000002C)) strip 2 1 1
          (full 0xAABBCCDD) ∧ 1 + 1 = strip.surveyWidth ∧ 2 + 1 ≠ strip.surveyRows) :=
  ⟨⟨surveys _ 2 0 0 (by decide), by decide⟩, ⟨surveys _ 2 0 0 (by decide), by decide⟩, surveys _ 2 0 1 (by decide),
    ⟨surveys _ 2 1 1 (by decide), by decide⟩⟩

/-- A pending word 0 of the open row, settled torn outside CAPTURING. -/
def tornOf (s : State) : State :=
  { s with ru := (s.count tornPixel).ru
           iu := { s.iu with pairing := none, tracker := { s.iu.tracker with settled := s.iu.tracker.settled + 1 } } }

theorem tornOf_settled (s : State) (q : PendingWord) (hp : s.iu.pass ≠ .capturing)
    (hr : s.iu.tracker.current = some q.row) (hc : s.iu.tracker.complete = false) : s.SettledTorn q (tornOf s) :=
  ⟨fun h => absurd ⟨hr, hc⟩ h, fun _ _ => ⟨rfl, fun _ => ⟨rfl, rfl⟩, fun _ _ h => absurd h hp⟩⟩

/-- A pending word 0 of any other row settles with no effect. -/
theorem other_settled (s : State) (q : PendingWord)
    (h : ¬(s.iu.tracker.current = some q.row ∧ s.iu.tracker.complete = false)) :
    s.SettledTorn q { s with iu := { s.iu with pairing := none } } :=
  ⟨fun _ => rfl, fun hr hc => absurd ⟨hr, hc⟩ h⟩

/-- Word 1 of a pixel behind word 0 of another: of the open row, filling it or not, and of a row that is not open. -/
theorem witness_SurveyPixelSettles_torn :
    (∀ n ∈ [0, 1],
        let s := writing (surveyRow n (some ⟨2, 1, true, 7⟩)) 0x20000024;
        s.SurveyWord (accessOf s) strip 2 0 1 (full 0xAABBCCDD) ∧ s.SettledTorn ⟨2, 1, true, 7⟩ (tornOf s)
          ∧ s.iu.tracker.current = some 2 ∧ s.iu.tracker.complete = false ∧ 2 + 1 ≠ strip.surveyRows)
      ∧ (let s := writing (surveyRow 0 (some ⟨1, 1, true, 7⟩)) 0x20000024;
        s.SurveyWord (accessOf s) strip 2 0 1 (full 0xAABBCCDD)
          ∧ s.SettledTorn ⟨1, 1, true, 7⟩ { s with iu := { s.iu with pairing := none } }) := by
  refine ⟨?_, surveys _ 2 0 1 (by decide), other_settled _ _ (by decide)⟩
  simp only [List.forall_mem_cons, List.not_mem_nil, false_imp_iff, implies_true, and_true]
  exact ⟨⟨surveys _ 2 0 1 (by decide), tornOf_settled _ _ (by decide) (by decide) (by decide), by decide⟩,
    ⟨surveys _ 2 0 1 (by decide), tornOf_settled _ _ (by decide) (by decide) (by decide), by decide⟩⟩

/-- The survey pass at the last pixel of row 3, the strip's last, and with row 0, or no row, current. -/
def surveyAt (current : Option Nat) (settled : Nat) : State :=
  let s := surveyRow settled none
  { s with iu := { s.iu with tracker := { s.iu.tracker with current := current } } }

theorem witness_SurveyPixelSettles_rows :
    ((writing (surveyAt (some 3) 1) 0x2000003C).SurveyWord (accessOf (writing (surveyAt (some 3) 1) 0x2000003C)) strip 3 1 1
        (full 0xAABBCCDD) ∧ 3 + 1 = strip.surveyRows ∧ (surveyAt (some 3) 1).fl.params = some strip.params)
      ∧ ∀ c ∈ [none, some 0, some 1],
        (writing (surveyAt c 0) 0x20000020).SurveyWord (accessOf (writing (surveyAt c 0) 0x20000020)) strip 2 0 0
            (full 0xAABBCCDD)
          ∧ (∀ n, c = some n → n < 2) ∧ ∀ v, ((surveyAt c 0).fl.slots.get v).state ≠ .active := by
  refine ⟨⟨surveys _ 3 1 1 (by decide), by decide⟩, ?_⟩
  simp only [List.forall_mem_cons, List.not_mem_nil, false_imp_iff, implies_true, and_true]
  exact ⟨⟨surveys _ 2 0 0 (by decide), by simp, by decide⟩, ⟨surveys _ 2 0 0 (by decide), by simp, by decide⟩,
    ⟨surveys _ 2 0 0 (by decide), by simp, by decide⟩⟩

/-- Word 1 of row 2 above the current row, alone and in a pair; and word 0 and word 1 of row 2, late. -/
theorem witness_SurveyPixelSettles_word1 :
    (∀ c ∈ [none, some 0, some 1], ∀ p ∈ [none, some (⟨2, 0, true, 7⟩ : PendingWord)],
        let s := surveyAt c 0
        let t := writing { s with iu := { s.iu with pairing := p } } 0x20000024;
        Serves t ∧ (wordOfService t).address = 0x20000000 + 2 * strip.surveyPitch + 0 * 8 + 1 * 4
          ∧ (t.iu.pass = .surveying ∧ t.iu.strip = some strip) ∧ t.iu.pairing = p ∧ (∀ n ∈ c, n < 2)
          ∧ ∀ v, (t.fl.slots.get v).state ≠ .active)
      ∧ ∀ c ∈ [2, 3], ∀ k ∈ [0, 1],
        let s := surveyAt (some c) 0
        let t := writing { s with iu := { s.iu with tracker := { s.iu.tracker with complete := true } } }
          (0x20000020 + 4 * BitVec.ofNat 30 k);
        Serves t ∧ (wordOfService t).address = 0x20000000 + 2 * strip.surveyPitch + 0 * 8 + k * 4
          ∧ t.iu.pairing = none ∧ t.iu.tracker.current = some c ∧ (2 < c ∨ 2 = c ∧ t.iu.tracker.complete = true) := by
  decide

/-- Row 2 follows row 0: row 0's means, (0, 0) for row 1, and ROW_SKIP (R46, R50). -/
theorem test_survey_skip :
    let t := after .intakeWrite (writing (surveyAt (some 0) 0) 0x20000020)
    t.fl.profile = [⟨0, 0⟩, ⟨0, 0⟩] ∧ t.ru.counters.get rowSkip = 1 ∧ t.iu.tracker.current = some 2 := by decide

/-- The last pixel of the last survey row ends the pass (R48). -/
theorem test_survey_ends :
    let t := after .intakeWrite (writing (surveyAt (some 3) 1) 0x2000003C)
    t.iu.pass = .locating ∧ t.fl.locating.map (·.profile) = some [⟨0, 0⟩] ∧ t.ru.counters.get tornPixel = 1 := by decide

/-- A capture pass whose open row is taken, over a slot whose newest row is given. -/
def captureRow (row : Nat) (newest : Option Nat) : State :=
  let s := inPass .capturing (slot .active newest 0)
  { s with iu := { s.iu with tracker := ⟨some row, 0, false, true, 0, 0⟩ } }

/-- Slot 0 in a state of its own, beside a slot 1 in another, over the open row 10. -/
def startingRow (x y : SlotState) (starts : List SlotId) : State :=
  let s := captureRow 10 none
  let other := { slot y none 0 with top := 30, bottom := 39 }
  { s with fl := { s.fl with slots := (s.fl.slots.set 0 (slot x none 0)).set 1 other }
           iu := { s.iu with startQueue := starts } }

/-- The same capture row, with a pending word 0, a settled count and a half that holds it. -/
def pairingRow (p : Option PendingWord) (settled : Nat) : State :=
  let s := captureRow 10 (some 0)
  { s with iu := { s.iu with pairing := p, tracker := ⟨some 10, settled, false, true, 0, 0⟩,
                             halfB := ⟨.filling, 10, 0, [7, 7, 7, 7], 0⟩ }
           bt := { s.bt with classifying := some workedRow } }

/-- A capture word of the small strip is in service. -/
theorem captures (s : State) (row col k : Nat)
    (h : Serves s ∧ (wordOfService s).isWrite = true ∧ (accessOf s).view.pass = .capturing
      ∧ (accessOf s).view.strip = some strip ∧ col < strip.captureWidth ∧ row < strip.captureRows
      ∧ row * strip.capturePitch + strip.capturePitch ≤ 0x10000000 ∧ k < 2
      ∧ (wordOfService s).address = 0x20000000 + row * strip.capturePitch + col * 8 + k * 4) :
    s.CaptureWord (accessOf s) strip row col k (wordOfService s).beat :=
  ⟨wordOfService s, h.1.1, h.1.2, h.2.1, h.2.2.1, h.2.2.2.1, rfl, h.2.2.2.2.1, h.2.2.2.2.2.1, by decide, by decide,
    h.2.2.2.2.2.2.1, h.2.2.2.2.2.2.2.1, h.2.2.2.2.2.2.2.2⟩

theorem witness_CaptureWordStored_word0 :
    ((writing (captureRow 10 none) 0x20000288).CaptureWord (accessOf (writing (captureRow 10 none) 0x20000288)) strip 10 1 0
          (full 0xAABBCCDD)
        ∧ (captureRow 10 none).iu.pairing = none ∧ (captureRow 10 none).iu.tracker.isOpen 10 true
        ∧ routeOf (captureRow 10 none).fl.slots 10 1 = none)
      ∧ ((writing (captureRow 10 (some 0)) 0x20000290).CaptureWord
            (accessOf (writing (captureRow 10 (some 0)) 0x20000290)) strip 10 2 0 (full 0xAABBCCDD)
        ∧ routeOf (captureRow 10 (some 0)).fl.slots 10 2 = some 0
        ∧ ((captureRow 10 (some 0)).fl.slots.get 0).newest = some 0
        ∧ 10 - ((captureRow 10 (some 0)).fl.slots.get 0).top ≤ 0)
      ∧ ((writing (captureRow 11 (some 0)) 0x200002E8).CaptureWord
            (accessOf (writing (captureRow 11 (some 0)) 0x200002E8)) strip 11 5 0 (full 0xAABBCCDD)
        ∧ routeOf (captureRow 11 (some 0)).fl.slots 11 5 = some 0
        ∧ 0 < 11 - ((captureRow 11 (some 0)).fl.slots.get 0).top) :=
  ⟨⟨captures _ 10 1 0 (by decide), by decide, by unfold RowTracker.isOpen; decide, by decide⟩,
    ⟨captures _ 10 2 0 (by decide), by decide⟩, ⟨captures _ 11 5 0 (by decide), by decide⟩⟩

/-- The first routed word of a row, with both halves EMPTY, one, or none; and the start of a slot. -/
theorem witness_CaptureWordStored_first :
    (∀ h ∈ [IrHalf.vacant, ⟨.waiting, 9, 0, [], 0⟩],
        let s := inPass .capturing (slot .active none 0);
        let t : State := { s with iu := { s.iu with tracker := ⟨some 10, 0, false, false, 0, 0⟩, halfA := h } };
        (Serves (writing t 0x20000290)
          ∧ (wordOfService (writing t 0x20000290)).address = 0x20000000 + 10 * strip.capturePitch + 2 * 8 + 0 * 4)
        ∧ (t.iu.pairing = none ∧ t.iu.tracker.current = some 10 ∧ t.iu.tracker.begun = false)
        ∧ routeOf t.fl.slots 10 2 = some 0 ∧ (t.fl.slots.get 0).state = .active)
      ∧ ∀ s ∈ [startingRow .planned .planned [], startingRow .planned .active [], startingRow .planned .active [0]],
        (Serves (writing s 0x20000290) ∧ s.iu.pass = .capturing ∧ s.iu.strip = some strip)
        ∧ (s.iu.pairing = none ∧ s.iu.tracker.current = some 10 ∧ s.iu.tracker.complete = false)
        ∧ routeOf s.fl.slots 10 2 = some 0 ∧ (s.fl.slots.get 0).state = .planned := by decide

theorem witness_CaptureWordStored_start :
    activeSlot (startingRow .planned .planned []).fl.slots = none
      ∧ (0 ∉ (startingRow .planned .planned []).iu.startQueue)
      ∧ activeSlot (startingRow .planned .active []).fl.slots ≠ none
      ∧ (0 ∉ (startingRow .planned .active []).iu.startQueue)
      ∧ (0 ∈ (startingRow .planned .active [0]).iu.startQueue) := by decide

/-- A word 1 in its open row: paired and full, alone, and the last of its row; and a word 0 behind a word 0. -/
theorem witness_CaptureWordStored_settles :
    ((writing (pairingRow (some ⟨10, 2, true, 5⟩) 0) 0x20000294).CaptureWord
          (accessOf (writing (pairingRow (some ⟨10, 2, true, 5⟩) 0) 0x20000294)) strip 10 2 1 (full 0xAABBCCDD)
        ∧ (pairingRow (some ⟨10, 2, true, 5⟩) 0).Captures strip
        ∧ (full 0xAABBCCDD).isFull = true ∧ routeOf (pairingRow none 0).fl.slots 10 2 = some 0
        ∧ ¬(pairingRow none 0).iu.halfA.HoldsRow 10 ∧ (pairingRow none 0).iu.halfB.HoldsRow 10)
      ∧ ((writing (pairingRow none 0) 0x2000028C).CaptureWord (accessOf (writing (pairingRow none 0) 0x2000028C)) strip 10 1 1
          (full 0xAABBCCDD) ∧ routeOf (pairingRow none 0).fl.slots 10 1 = none ∧ 0 + 1 ≠ strip.captureWidth)
      ∧ ((writing (pairingRow none 7) 0x2000028C).iu.tracker.settled + 1 = strip.captureWidth ∧ 10 + 1 < strip.captureRows
        ∧ (pairingRow none 7).bt.classifying ≠ none)
      ∧ ((writing (pairingRow (some ⟨10, 5, true, 5⟩) 0) 0x20000288).CaptureWord
          (accessOf (writing (pairingRow (some ⟨10, 5, true, 5⟩) 0) 0x20000288)) strip 10 1 0 (full 0xAABBCCDD)
        ∧ (pairingRow (some ⟨10, 5, true, 5⟩) 0).iu.tracker.isOpen 10 true
        ∧ routeOf (pairingRow none 0).fl.slots 10 5 = some 0) :=
  ⟨⟨captures _ 10 2 1 (by decide), by unfold State.Captures; decide, by decide, by decide, by unfold IrHalf.HoldsRow; decide,
      by unfold IrHalf.HoldsRow; decide⟩,
    ⟨captures _ 10 1 1 (by decide), by decide⟩, by decide,
    ⟨captures _ 10 1 0 (by decide), by unfold RowTracker.isOpen; decide, by decide⟩⟩

/-- Some unit has the changed half. -/
theorem halfChanged_exists (u : IntakeUnit) (row : Nat) (f : IrHalf → IrHalf) : ∃ u', u.HalfChanged u' row f := by
  by_cases hA : u.halfA.HoldsRow row
  · exact ⟨{ u with halfA := f u.halfA }, fun _ => ⟨rfl, rfl⟩, fun h => absurd hA h, fun h => absurd hA h⟩
  · by_cases hB : u.halfB.HoldsRow row
    · exact ⟨{ u with halfB := f u.halfB }, fun h => absurd h hA, fun _ _ => ⟨rfl, rfl⟩, fun _ h => absurd hB h⟩
    · exact ⟨u, fun h => absurd h hA, fun _ h => absurd h hB, fun _ _ => ⟨rfl, rfl⟩⟩

/-- Some unit has the completed row's half. -/
theorem rowClosed_exists (s : State) : ∃ w, s.RowClosed w := by
  by_cases h : s.iu.tracker.current = none ∨ s.iu.tracker.complete = true
  · exact ⟨s.iu, fun _ => ⟨rfl, rfl⟩, fun c hc hf => by simp [hc, hf] at h⟩
  · obtain ⟨w, hw⟩ := halfChanged_exists s.iu (s.iu.tracker.current.getD 0) IrHalf.afterRow
    exact ⟨w, fun h' => absurd h' h, fun c hc _ => by simpa [hc] using hw⟩

/-- Some state has the pending word 0 settled torn. -/
theorem settledTorn_exists (s : State) (q : PendingWord) : ∃ u, s.SettledTorn q u := by
  by_cases ho : s.iu.tracker.current = some q.row ∧ s.iu.tracker.complete = false
  · by_cases hr : s.iu.pass ≠ .capturing ∨ routeOf s.fl.slots q.row q.col = none
    · exact ⟨tornOf s, fun h => absurd ho h, fun _ _ => ⟨rfl, fun _ => ⟨rfl, rfl⟩, fun v _ hp hv => by simp [hp, hv] at hr⟩⟩
    · obtain ⟨v, hv⟩ : ∃ v, routeOf s.fl.slots q.row q.col = some v := Option.ne_none_iff_exists'.mp fun h => hr (.inr h)
      obtain ⟨w, hw⟩ := halfChanged_exists s.iu q.row fun h =>
        h.afterPixel (q.col - (s.fl.slots.get v).left) (s.fl.slots.get v).clearLevel 0 true
      refine ⟨{ tornOf s with iu := { (tornOf s).iu with halfA := w.halfA, halfB := w.halfB } }, fun h => absurd ho h,
        fun _ _ => ⟨rfl, fun h => absurd h hr, fun v' x' _ hv' hx' => ?_⟩⟩
      obtain rfl : v = v' := Option.some.inj (hv.symm.trans hv')
      exact hx' ▸ hw
  · exact ⟨_, other_settled s q ho⟩

/-- Word 1 of a pixel behind a pending word 0 of another: routed, filling the row or not, in the margin, and of another row;
and a routed word 1 that begins its row. -/
theorem witness_CaptureWordStored_torn :
    (∀ n ∈ [0, 7], ∀ q ∈ [PendingWord.mk 10 5 true 5, ⟨10, 1, true, 5⟩, ⟨9, 2, true, 5⟩],
        let s := writing (pairingRow (some q) n) 0x20000294;
        (Serves s ∧ (wordOfService s).address = 0x20000000 + 10 * strip.capturePitch + 2 * 8 + 1 * 4)
          ∧ (s.iu.pass = .capturing ∧ s.iu.strip = some strip) ∧ s.iu.pairing = some q ∧ s.bt.classifying ≠ none
          ∧ 10 + 1 ≠ strip.captureRows)
      ∧ (let s := inPass .capturing (slot .active none 0);
        let t := writing { s with iu := { s.iu with tracker := ⟨some 10, 0, false, false, 0, 0⟩ } } 0x20000294;
        Serves t ∧ (wordOfService t).address = 0x20000000 + 10 * strip.capturePitch + 2 * 8 + 1 * 4
          ∧ t.iu.pairing = none ∧ routeOf t.fl.slots 10 2 = some 0 ∧ 0 + 1 ≠ strip.captureWidth) := by decide

/-- Routed moves of the row tracker to row 12: with the BT busy, with no row ready, with the ACTIVE slot's next row ready, and
starting its slot. -/
theorem witness_CaptureWordStored_move :
    ∀ c ∈ [none, some 8, some 11],
      let moving := fun (x : Slot) (busy : Option Classification) =>
        let s := inPass .capturing x
        writing { s with iu := { s.iu with tracker := ⟨c, 0, false, false, 0, 0⟩ }, bt := { s.bt with classifying := busy } }
          0x20000310
      (∀ t ∈ [moving (slot .active none 0) (some workedRow), moving (slot .active (some 1) 2) none,
            moving (slot .active none 0) none, moving (slot .planned none 0) none],
          Serves t ∧ (wordOfService t).address = 0x20000000 + 12 * strip.capturePitch + 2 * 8 + 0 * 4
            ∧ routeOf t.fl.slots 12 2 = some 0 ∧ t.iu.pass = .capturing ∧ t.iu.pairing = none
            ∧ (t.bt.restartPending = false ∧ t.bt.closePending = false) ∧ t.bt.frameEnd = none ∧ ∀ k ∈ c, k < 12)
        ∧ activeSlot (moving (slot .active none 0) none).fl.slots = some 0
        ∧ activeSlot (moving (slot .planned none 0) none).fl.slots = none := by decide

/-- A routed word 1 that fills its row: with the BT busy or free, and at the last declared row with the slot's row ready or not. -/
theorem witness_CaptureWordStored_fills :
    (∀ bt ∈ [(pairingRow none 7).bt, up.bt],
        let s := writing { pairingRow none 7 with bt := bt } 0x20000294;
        Serves s ∧ (wordOfService s).address = 0x20000000 + 10 * strip.capturePitch + 2 * 8 + 1 * 4
          ∧ s.iu.pairing = none ∧ s.iu.tracker.settled + 1 = strip.captureWidth ∧ routeOf s.fl.slots 10 2 = some 0
          ∧ activeSlot s.fl.slots = some 0)
      ∧ ∀ n ∈ [9, 10],
        let p := inPass .capturing { slot .active (some 9) n with top := 30, bottom := 39 }
        let s := writing { p with iu := { p.iu with tracker := ⟨some 39, 7, false, true, 0, 0⟩ } } 0x200009D4;
        Serves s ∧ (wordOfService s).address = 0x20000000 + 39 * strip.capturePitch + 2 * 8 + 1 * 4
          ∧ s.iu.pass = .capturing ∧ s.iu.pairing = none ∧ s.iu.tracker.settled + 1 = strip.captureWidth
          ∧ 39 + 1 = strip.captureRows ∧ routeOf s.fl.slots 39 2 = some 0 ∧ activeSlot s.fl.slots = some 0
          ∧ s.bt.classifying = none ∧ s.bt.frameEnd = none ∧ s.bt.restartPending = false
          ∧ decide (n < 39 - 30 + 1) = decide (n = 9) := by decide

/-- Words 1 of row 12 above the current row, and a late word 1 of row 11. -/
theorem witness_CaptureWordStored_word1 :
    (∀ c ∈ [none, some 8, some 11],
        let s := inPass .capturing (slot .active none 0)
        let t := writing { s with iu := { s.iu with tracker := ⟨c, 0, false, false, 0, 0⟩ } } 0x20000314;
        Serves t ∧ (wordOfService t).address = 0x20000000 + 12 * strip.capturePitch + 2 * 8 + 1 * 4
          ∧ t.iu.pairing = none ∧ ∀ k ∈ c, k < 12)
      ∧ (let s := writing (captureRow 18 (some 8)) 0x200002D4;
        Serves s ∧ (wordOfService s).address = 0x20000000 + 11 * strip.capturePitch + 2 * 8 + 1 * 4
          ∧ s.iu.pairing = none ∧ s.iu.tracker.current = some 18) := by decide

/-- The last capture row, about to fill, at a margin column: with a frame end in flight, and with nothing left to drain. -/
theorem witness_CaptureWordStored_last :
    ∀ e ∈ [some (⟨0, true⟩ : FrameEnd), none],
      let s := inPass .capturing (slot .captured (some 9) 10);
      let u : State := { s with iu := { s.iu with tracker := ⟨some 39, 7, false, true, 0, 0⟩ }
                                bt := { s.bt with frameEnd := e } };
      let t := writing u 0x200009CC;
      Serves t ∧ (wordOfService t).address = 0x20000000 + 39 * strip.capturePitch + 1 * 8 + 1 * 4
        ∧ routeOf t.fl.slots 39 1 = none ∧ 7 + 1 = strip.captureWidth ∧ 39 + 1 = strip.captureRows ∧ t.bt.frameEnd = e
        ∧ t.bt.classifying = none ∧ t.iu.startQueue = [] ∧ ∀ v, (t.fl.slots.get v).state ≠ .active := by decide

/-- It ends the pass: draining with a frame end in flight, else PLANNED at once (R48, R54). -/
theorem test_capture_ends :
    [some (⟨0, true⟩ : FrameEnd), none].map (fun e =>
      let s := inPass .capturing (slot .captured (some 9) 10);
      let u : State := { s with iu := { s.iu with tracker := ⟨some 39, 7, false, true, 0, 0⟩ }
                                bt := { s.bt with frameEnd := e } };
      (after .intakeWrite (writing u 0x200009CC)).iu.pass) = [.draining, .planned] := by decide

/-- A row filled by a word of a slot in the start queue, another slot ACTIVE. -/
theorem witness_CaptureWordStored_queued :
    let s := startingRow .planned .active [0];
    routeOf s.fl.slots 10 2 = some 0 ∧ (s.fl.slots.get 0).state ≠ .active ∧ 0 ∈ s.iu.startQueue := by decide

/-- A late word, counted already or not, its row resident or not; and moves of the row tracker by 1, by more, and from none. -/
theorem witness_CaptureWordStored_late :
    (let s := writing (captureRow 18 (some 8)) 0x200002D0;
      s.CaptureWord (accessOf s) strip 11 2 0 (full 0xAABBCCDD) ∧ s.iu.tracker.current = some 18
        ∧ (accessOf s).lateCounted = false ∧ 11 - (s.fl.slots.get 0).top ≤ 8
        ∧ 8 < 11 - (s.fl.slots.get 0).top + (s.fl.slots.get 0).bandLines)
      ∧ (let s := writing (captureRow 18 (some 8)) 0x20000290;
        s.CaptureWord (accessOf s) strip 10 2 0 (full 0xAABBCCDD)
          ∧ 10 - (s.fl.slots.get 0).top + (s.fl.slots.get 0).bandLines ≤ 8)
      ∧ ∀ c ∈ [none, some 2, some 4],
        let s := inPass .capturing (slot .active none 0);
        let t := writing { s with iu := { s.iu with tracker := ⟨c, 0, false, false, 0, 0⟩ } } 0x20000140;
        Serves t ∧ (wordOfService t).address = 0x20000000 + 5 * strip.capturePitch + 0 * 8 + 0 * 4
          ∧ routeOf t.fl.slots 5 0 = none ∧ t.iu.pass = .capturing ∧ ∀ k ∈ c, k < 5 := by
  refine ⟨⟨captures _ 11 2 0 (by decide), by decide⟩, ⟨captures _ 10 2 0 (by decide), by decide⟩, by decide⟩

theorem witness_IntakeRead :
    (let s := reading up 0x2FFFFFFC;
      Serves s ∧ (wordOfService s).isWrite = false ∧ (wordOfService s).address = 0x20000000 + 0x0FFFFFFC
        ∧ (accessOf s).view.pass ≠ .surveying ∧ (accessOf s).view.pass ≠ .capturing)
      ∧ (let s := reading (inPass .surveying (slot .vacant none 0)) 0x2000003C;
        Serves s ∧ (accessOf s).view.pass = .surveying ∧ (accessOf s).view.strip = some strip)
      ∧ (let s := reading (captureRow 10 (some 0)) 0x20000288;
        Serves s ∧ (accessOf s).view.pass = .capturing ∧ (accessOf s).view.strip = some strip
          ∧ routeOf s.fl.slots (0x288 / strip.capturePitch) (0x288 % strip.capturePitch / 8) = none)
      ∧ (let s := reading (captureRow 10 (some 0)) 0x20000290;
        Serves s ∧ 0x290 / strip.capturePitch < strip.captureRows ∧ 0x290 % strip.capturePitch / 8 < strip.captureWidth
          ∧ routeOf s.fl.slots (0x290 / strip.capturePitch) (0x290 % strip.capturePitch / 8) = some 0) := by decide

theorem witness_ViewWords :
    (let s := reading up 0x3E000000;
      Serves s ∧ (wordOfService s).isWrite = false ∧ (wordOfService s).address = 0x30000000 + 7 * 0x02000000 + 0
        ∧ ((accessOf s).view.slots.get 7).state = .vacant ∧ (accessOf s).faulted = false
        ∧ Serves (marked s) ∧ (accessOf (marked s)).faulted = true)
      ∧ (let s := reading (captureRow 10 (some 0)) 0x30000200;
        Serves s ∧ (wordOfService s).address = 0x30000000 + 0 * 0x02000000 + 0x200
          ∧ ((accessOf s).view.slots.get 0).state ≠ .vacant
          ∧ ((accessOf s).view.slots.get 0).bandLines ≤ 0x200 / ((accessOf s).view.slots.get 0).bandPitch)
      ∧ (let s := reading (captureRow 10 (some 0)) 0x300001DC;
        Serves s ∧ 0x1DC / ((accessOf s).view.slots.get 0).bandPitch < ((accessOf s).view.slots.get 0).bandLines
          ∧ 0x1DC % ((accessOf s).view.slots.get 0).bandPitch / 8 < ((accessOf s).view.slots.get 0).width
          ∧ (accessOf s).computation = none)
      ∧ (let s := after .viewRead (serving (captureRow 10 (some 0)) (.read 0x300001D8 2));
        Serves s ∧ (accessOf s).computation.map (fun k => (k.slot, k.line, k.column)) = some (0, 7, 3))
      ∧ (let s := writing up 0x3FFFFFFC;
        Serves s ∧ (wordOfService s).isWrite = true ∧ 0x30000000 ≤ (wordOfService s).address) := by decide

/-- The view of one capture slot with the given spans and columns. -/
def viewing (x : Slot) (spans : List Span) (columns : List Nat) : AccessView :=
  { (inPass .capturing x).viewNow with spans := spans, columns := columns }

/-- Memory whose slot 0, line 1, column 1 has infrared sample `i`. -/
def infrared (i : Nat) : Memory := Memory.writeBytes [] (0x200000 + 64 + 8 + 6) (le16 i)

theorem witness_MendedPixel :
    ((slot .active none 0).newest = none ∧ (slot .active (some 0) 1).newest = some 0
        ∧ (slot .active (some 9) 9).newest = some 9 ∧ 9 ≤ 9 - (9 - 1) % 8)
      ∧ (let x := slot .active (some 9) 10;
        x.newest = some 9 ∧ 1 ≤ 9 ∧ 9 - (9 - 1) % x.bandLines < x.classified
          ∧ spanAt (viewing x [⟨0, 9, 1, 1, true⟩] []).spans 0 9 1 = some ⟨0, 9, 1, 1, true⟩
          ∧ spanAt (viewing x [⟨0, 9, 1, 2, false⟩] []).spans 0 9 1 = some ⟨0, 9, 1, 2, false⟩ ∧ 2 + 1 ≠ x.width
          ∧ spanAt (viewing x [⟨0, 9, 0, 2, false⟩] []).spans 0 9 1 = some ⟨0, 9, 0, 2, false⟩
          ∧ spanAt (viewing x [⟨0, 9, 1, 3, false⟩] []).spans 0 9 1 = some ⟨0, 9, 1, 3, false⟩ ∧ 3 + 1 = x.width
          ∧ spanAt (viewing x [⟨0, 9, 0, 3, false⟩] []).spans 0 9 1 = some ⟨0, 9, 0, 3, false⟩
          ∧ spanAt (viewing x [] [4]).spans 0 9 1 = none ∧ x.left + 1 ∉ (viewing x [] [4]).columns ∧ x.cleanup = .full
          ∧ [25999, 26000, 46718, 46719].map
                (fun i => min 256 ((rawPixel (infrared i) x 1 (min ((1 : Int) + x.dx).toNat (x.width - 1))).i * 256
                  / x.clearLevel))
              = [127, 128, 229, 230]
          ∧ (viewing x [] []).tDense = 128 ∧ (viewing x [] []).tFaint = 230) := by decide

/-- Groups of 4 listed columns, between two anchors and at the frame's right edge, of the whole frame, and of 5 columns. -/
theorem witness_MendedPixel_columns :
    (∀ g ∈ [(10, [3, 4, 5, 6], 1, 4), (5, [4, 5], 2, 3), (4, [2, 3, 4], 0, 2), (10, [3, 4, 5, 6, 7], 1, 5)],
      let x := { slot .active (some 9) 10 with right := g.1 };
      ∀ col, g.2.2.1 ≤ col → col ≤ g.2.2.2 → ColumnGroup x g.2.1 col g.2.2.1 g.2.2.2) := by
  simp only [List.forall_mem_cons, List.not_mem_nil, false_imp_iff, implies_true, and_true]
  refine ⟨?_, ?_, ?_, ?_⟩ <;> intro col h1 h2 <;>
    exact ⟨h1, h2, by decide, fun c h3 h4 => by
      rcases (by omega : c = 0 ∨ c = 1 ∨ c = 2 ∨ c = 3 ∨ c = 4 ∨ c = 5) with rfl | rfl | rfl | rfl | rfl | rfl <;>
        revert h3 h4 <;> decide, by decide, by decide⟩

theorem witness_RepairStaysInRange :
    (1 ≤ 1 ∧ 1 ≤ 1) ∧ (1 ≤ 3 ∧ 3 ≤ 3) ∧ ((1 : Nat) ≤ 1 ∧ 1 ≤ 1 ∧ 65535 ≤ 65535) ∧ ((1 : Nat) ≤ 30000 ∧ 30000 ≤ 52000) := by
  decide

/-- A writer at the arbiter: the burst threshold is 4 and the urgent one 24. -/
theorem witness_ListWriterLevel :
    (up.lw.state = .unchained)
      ∧ (({ writer 0 [] with state := .loading } : ListWriter).state = .loading)
      ∧ (writer 0 (List.replicate 24 (.marker 0))).state = .filling
      ∧ up.cu.standing.urgent ≤ (writer 0 (List.replicate 24 (.marker 0))).queue.length
      ∧ (writer 0 (List.replicate 23 (.marker 0))).queue.length < up.cu.standing.urgent
      ∧ up.cu.standing.burst ≤ (writer 0 (List.replicate 4 (.record (record 1 false)))).queue.length
      ∧ (QueueEntry.marker 0 ∈ (writer 0 [.marker 0]).queue)
      ∧ (writer 0 (List.replicate 3 (.record (record 1 false)))).queue.length < up.cu.standing.burst
      ∧ (∀ v, QueueEntry.marker v ∉ (writer 0 (List.replicate 3 (.record (record 1 false)))).queue) := by decide

/-- Running with the port free, an access asking, a report staged and refresh owed. -/
def contended : State := { lively with pending := [], mc := { lively.mc with debt := 5 } }

theorem witness_GrantFollowsRank :
    (up.mc.phase = .running ∧ up.mc.port = none
        ∧ ∀ r ∈ [Requester.refresh, .reportWriter, .listWriter, .upstream], up.rankOf r = none)
      ∧ (contended.mc.phase = .running ∧ contended.mc.port = none
        ∧ ([Requester.upstream, .reportWriter, .refresh, .listWriter].map contended.rankOf)
            = [some 4, some 5, some 7, none]) := by decide

theorem witness_GrantsMade :
    (contended.mc.phase = .running ∧ contended.mc.port = none ∧ contended.upstream = some (accessOf contended)
        ∧ contended.winner = some .upstream ∧ contended.reportLevel = .normal ∧ contended.mc.promoReport = false
        ∧ 32 ≤ contended.mc.passedReport + 1 ∧ contended.listLevel = .none)
      ∧ (({ contended with mc := { contended.mc with passedReport := 30 } } : State).mc.passedReport + 1 < 32)
      ∧ ({ contended with upstream := none } : State).winner = some .reportWriter
      ∧ ({ up with lw := { writer 0 [] with state := .loading } } : State).winner = some .listWriter
      ∧ (let l := writer 64 [.record (record 1 false), .marker 0];
        ({ up with lw := l } : State).winner = some .listWriter ∧ l.copy = some ⟨0x300020, 0x310000, 96⟩
          ∧ l.filled + 32 ≤ 96 ∧ ¬l.filled + 64 ≤ 96)
      ∧ ({ up with lw := writer 64 [.marker 0] } : State).winner = some .listWriter
      ∧ ({ up with mc := { up.mc with debt := 1 } } : State).winner = some .refresh := by decide

/-- The part with the port at a List Writer operation. -/
def listing (op : ListOp) (w : ListWriter) : State := { up with lw := w, mc := { up.mc with port := some (.list op) } }

/-- The hypotheses the List Writer statements share. -/
abbrev Lists (s : State) (op : ListOp) : Prop :=
  s.mc.port = some (.list op) ∧ (s.bt.restartPending = false ∧ s.bt.closePending = false) ∧ s.lw.current = some 0x300000

/-- Memory with a descriptor of a capacity at 0x0030_0000. -/
def descriptorOf (capacity : Nat) : Memory := Memory.writeBytes [] 0x300004 (le32 0x310000 ++ le32 capacity)

theorem witness_DescriptorLoad :
    Lists (listing .load { writer 0 [] with state := .loading }) .load
      ∧ (let d : DescriptorCopy := ⟨(descriptorOf 64).read32 0x300000, (descriptorOf 64).read32 0x300004,
            (descriptorOf 64).read32 0x300008⟩;
        d.buffer % 32 = 0 ∧ d.capacity % 32 = 0 ∧ 64 ≤ d.capacity ∧ d.buffer + d.capacity ≤ up.mc.size)
      ∧ ¬64 ≤ (descriptorOf 32).read32 0x300008 := by decide

theorem witness_RecordWrite :
    let r := record 42 true;
    let s := listing (.recordWrite r) (writer 32 [.record r]);
    Lists s (.recordWrite r) ∧ s.lw.queue = [.record r] ∧ s.lw.copy = some ⟨0x300020, 0x310000, 96⟩ := by decide

theorem witness_DescriptorClose :
    (let s := listing .closeFull (writer 96 [.record (record 42 false)]);
      Lists s .closeFull ∧ s.lw.copy = some ⟨0x300020, 0x310000, 96⟩ ∧ 0x300020 ≠ 0 ∧ 0x300020 % 32 = 0
        ∧ 0x300020 < s.mc.size)
      ∧ (let s := listing (.closeFrameEnd 7) { writer 0 [.marker 7] with copy := some ⟨0, 0x310000, 96⟩ };
        Lists s (.closeFrameEnd 7) ∧ s.lw.copy = some ⟨0, 0x310000, 96⟩) := by decide

theorem witness_RejectedClose :
    (∀ next ∈ [0x300020, 0x03FFFFE0, 0, 0x300000, 0x04000000],
      ∀ w ∈ [writer 96 [], ListWriter.powerOn],
        let s := listing .rejectedClose
          { w with state := .loading, current := some 0x300000, copy := some ⟨next, 1, 32⟩, rejectPending := true };
        Lists s .rejectedClose ∧ s.lw.copy = some ⟨next, 1, 32⟩) := by decide

theorem witness_PlanEntriesWritten :
    ∃ entries : List (SlotId × PlanEntry), 0x03FFF000 + 4096 = 0x04000000 ∧ (entries.map Prod.fst).Nodup :=
  ⟨[(0, .none), (7, .none)], by decide, by decide⟩

/-- The part with the port at a report writer grant. -/
def reporting (carries : Bool) (r : ReportUnit) : State :=
  { up with cu := { up.cu with standing := ring }, ru := r,
            mc := { up.mc with port := some (.report [(0, .none)] carries) } }

theorem witness_ReportWriterGrant :
    (let s := reporting false (ruAt 1 0);
      s.mc.port = some (.report [(0, .none)] false) ∧ (s.bt.restartPending = false ∧ s.bt.closePending = false)
        ∧ 0x03FFF000 + 4096 = s.mc.size ∧ s.ru.ringFull s.cu.standing.slotCount = false)
      ∧ (let s := reporting true { ruAt 15 0 with staging := [.listStall 0 0] };
        s.mc.port = some (.report [(0, .none)] true) ∧ s.ru.staging = [.listStall 0 0] ∧ s.cu.standing.slotCount ≠ 0
          ∧ s.ru.unread < s.cu.standing.slotCount) := by decide

theorem witness_StagingAndDrops :
    (let r : ReportUnit := { ruAt 0 0 with staging := List.replicate 7 (.listStall 0 0) };
      r.staging.length < 8 ∧ r.ringFull 16 = false)
      ∧ (let r : ReportUnit := { ruAt 0 0 with staging := List.replicate 8 (.listStall 0 0) };
        r.staging.length = 8 ∧ r.ringFull 16 = false ∧ r.counters.get 9 ≠ 49151
          ∧ (0x200 : BitVec 14).getLsbD 9 = true ∧ (0 : BitVec 14).getLsbD 9 = false)
      ∧ ((ruAt 16 0).staging = [] ∧ (ruAt 16 0).ringFull 16 = true) := by decide

theorem witness_CountersCount :
    ((1 : BitVec 14).getLsbD 0 = true)
      ∧ ((0 : BitVec 14).getLsbD 0 = false ∧ (BitVec.toNat (49150#16)) + 1 < 49152 ∧ 49152 ≤ BitVec.toNat (49152#16))
      ∧ (BitVec.toNat (49151#16) < 49152 ∧ 49152 ≤ BitVec.toNat (49151#16) + 1) := by decide

theorem witness_TimerExpiries :
    (up.mc.refreshTimer = some 0 ∧ up.mc.debt < 8)
      ∧ (let s : State := { up with mc := { up.mc with debt := 8, port := some .refresh } };
        8 ≤ s.mc.debt ∧ s.mc.port = some .refresh ∧ (s.bt.restartPending = false ∧ s.bt.closePending = false))
      ∧ ({ up with ru := { up.ru with timer := some 5000 } } : State).ru.timer = some 5000 := by decide

theorem witness_StartupEnds :
    (State.reset.mc.phase = .startup ∧ State.reset.iu.halfA.state = .empty ∧ State.reset.upstream = none)
      ∧ (after (.upstreamAccess (.read 0x04000000 8)) State.reset).upstream
          = some ⟨.read 0x04000000 8, .startupHeld, 0, [], [], false, false, false, State.reset.viewNow, none⟩
      ∧ (∀ i < 8, zoneOf 0x04000000 (wordAddress (.read 0x04000000 8) i) = .unbacked)
      ∧ zoneOf 0x04000000 (wordAddress (.read 0x03FFFFFC 8) 0) ≠ .unbacked := by decide

theorem witness_LocateWindowsDisjoint :
    (1 ≤ (locateInputs 72).params.frameLength ∧ 1 ≤ (locateInputs 72).strip.ks)
      ∧ (∀ fs : List SurveyFrame, ∃ (kept : List SurveyFrame) (dropped : Nat), fs.foldl Trimming.next ⟨[], 0⟩ = ⟨kept.reverse, dropped⟩)
      ∧ ∀ k : LocateInputs, ∃ converts : SurveyFrame → Bool, ∀ f, converts f = true ↔ k.Converts f :=
  ⟨by decide, fun fs => ⟨(fs.foldl Trimming.next ⟨[], 0⟩).kept.reverse, (fs.foldl Trimming.next ⟨[], 0⟩).dropped, by simp⟩,
    fun k => by classical exact ⟨fun f => decide (k.Converts f), fun f => by simp⟩⟩

/-- Each case of a trimming, by the rows of the frame before and of the next: what is kept, latest first, and dropped (R70). -/
theorem test_trimming :
    [((0, 5), (6, 9)), ((0, 5), (7, 6)), ((0, 5), (4, 9)), ((0, 5), (5, 5)), ((6, 7), (0, 9)), ((6, 7), (0, 3))].map (fun c =>
        let t := Trimming.next ⟨[⟨c.1.1, c.1.2, false, false⟩], 0⟩ ⟨c.2.1, c.2.2, false, false⟩
        (t.kept.map (fun f => (f.top, f.bottom)), t.dropped))
      = [([(6, 9), (0, 5)], 0), ([(0, 5)], 1), ([(5, 9), (0, 4)], 0), ([(0, 5)], 1), ([(4, 9)], 1), ([], 2)] := by decide

/-- The worked row at its first and last columns, a listed column among them, and an IR offset below column 0. -/
theorem witness_RunsAreMaximal :
    (workedRow.cleanup ∈ [CleanupState.full, .denseOnly] ∧ workedRow.Registers 0 1 ∧ workedRow.Registers 11 11
        ∧ Classification.Registers { workedRow with dx := -1 } 0 0 ∧ workedRow.left + 6 ∈ workedRow.columns
        ∧ workedRow.left + 5 ∉ workedRow.columns)
      ∧ ({ workedRow with cleanup := .off } : Classification).cleanup ∈ [CleanupState.off, .opaqueFilm] := by
  unfold Classification.Registers; decide

/-- A locate operation in flight with slot 0 HELD and no row in the profile. -/
def locating : State :=
  let s := inPass .locating (slot .held none 0)
  { s with fl := { s.fl with locating := some ⟨[], strip.params, strip, 4096⟩ } }

theorem witness_LocateEnd :
    locating.fl.locating = some ⟨[], strip.params, strip, 4096⟩ ∧ locating.iu.strip = some strip
      ∧ (locating.fl.slots.get 0).state = .held ∧ (locating.fl.slots.get 7).state ≠ .held
      ∧ locating.ru.staging.length < 8 ∧ locating.ru.ringFull locating.cu.standing.slotCount = false := by decide

/-- A classification of frame row 0 of slot 0, all clean, in flight over its half. -/
def classifyingRow (k : Classification) (newest : Nat) : State :=
  let s := inPass .capturing (slot .active (some newest) 0)
  { s with bt := { s.bt with classifying := some k }, iu := { s.iu with halfA := ⟨.classifying, 10, 0, [], 0⟩ } }

/-- A row of four clean values, and one of a single run. -/
def plainRow (v : Nat) : Classification :=
  { workedRow with slot := 0, values := [52000, v, 52000, 52000], width := 4, torn := 0, columns := [] }

theorem witness_RowClassificationEnd :
    (let s := classifyingRow (plainRow 52000) 0;
      s.bt.classifying = some (plainRow 52000) ∧ (s.bt.restartPending = false ∧ s.bt.closePending = false)
        ∧ (s.fl.slots.get (plainRow 52000).slot).state = .active ∧ (plainRow 52000).runs = [] ∧ s.bt.openTable = []
        ∧ s.bt.frameEnd = none ∧ s.iu.pass = .capturing ∧ s.upstream = none
        ∧ activeSlot s.fl.slots = some (plainRow 52000).slot ∧ 0 + 1 < (s.fl.slots.get 0).height
        ∧ s.iu.tracker.hasCompleted (10 + (0 + 1)) = false ∧ s.iu.halfA.state = .classifying
        ∧ s.iu.halfA.row = 10 + 0)
      ∧ ((classifyingRow (plainRow 1000) 8).fl.slots.get 0).newest = some 8
      ∧ 0 + ((classifyingRow (plainRow 1000) 8).fl.slots.get 0).bandLines ≤ 8
      ∧ 7 < 0 + ((classifyingRow (plainRow 1000) 7).fl.slots.get 0).bandLines ∧ (plainRow 1000).runs.length = 1 := by
  decide

/-- The end of row y of slot 0 in a pass, the row in half A, the next in half B, with a span table, a tracker and a port. -/
def endingRow (y : Nat) (pass : PassState) (tracker : Option Nat) (port : Option PortOp) : State :=
  let s := classifyingRow { plainRow 1000 with row := y } y
  { s with iu := { s.iu with pass := pass, halfA := ⟨.classifying, 10 + y, 0, [], 0⟩,
                             halfB := ⟨.waiting, 10 + (y + 1), 0, [9], 1⟩,
                             tracker := ⟨tracker, 0, false, true, 0, 0⟩ }
           mc := { s.mc with port := port } }

/-- Row 0 with the next row ready in half B, row 0 of a draining frame that ends short, and the bottom row. -/
theorem witness_RowClassificationEnd_next :
    (∀ s ∈ [endingRow 0 .capturing (some 12) none, endingRow 0 .draining (some 11) none,
            endingRow 9 .capturing (some 20) none],
        activeSlot s.fl.slots = some 0 ∧ s.bt.frameEnd = none ∧ (s.bt.restartPending = false ∧ s.bt.closePending = false))
      ∧ (endingRow 0 .capturing (some 12) none).iu.tracker.hasCompleted (10 + (0 + 1)) = true
      ∧ 0 + 1 < (slot .active (some 0) 0).height
      ∧ ((endingRow 0 .capturing (some 12) none).iu.halfA.HoldsRow (10 + 0)
        ∧ (endingRow 0 .capturing (some 12) none).iu.halfB.HoldsRow (10 + (0 + 1)))
      ∧ (endingRow 0 .draining (some 11) none).iu.tracker.hasCompleted (10 + (0 + 1)) = false
      ∧ 9 + 1 = (slot .active (some 0) 0).height :=
  ⟨by decide, by decide, by decide, ⟨by unfold IrHalf.HoldsRow; decide, by unfold IrHalf.HoldsRow; decide⟩, by decide, by decide⟩

/-- A pending RESTART and a pending CLOSE_STRIP at the row's end, the port free or taken; and a row hold. -/
theorem witness_RowClassificationEnd_pending :
    (∀ port ∈ [none, some PortOp.refresh], ∀ b ∈ [(true, false), (false, true)],
      let s := endingRow 0 .capturing (some 12) port;
      let t : State := { s with bt := { s.bt with restartPending := b.1, closePending := b.2 } };
      t.bt.classifying = some { plainRow 1000 with row := 0 } ∧ (t.fl.slots.get 0).state = .active
        ∧ activeSlot t.fl.slots = some 0 ∧ t.bt.frameEnd = none ∧ t.mc.port = port
        ∧ (t.bt.restartPending = true ∨ t.bt.closePending = true) ∧ t.ru.ringFull t.cu.standing.slotCount = false)
      ∧ (let s := serving (endingRow 0 .capturing (some 12) none) (.write 0x20000310 [full 0]);
        let t : State := { s with upstream := s.upstream.map fun a => { a with phase := .rowHeld } };
        t.upstream = some (accessOf t) ∧ (accessOf t).phase = .rowHeld ∧ t.iu.halfA.state ≠ .empty
          ∧ t.iu.halfA.row = 10 + 0) := by decide

/-- A run that opens a blemish, joins one, joins two, and is untracked by position; and closings of each kind. -/
theorem witness_RowClassificationEnd_tracking :
    (let b := fun k => OpenBlemish.opened k ⟨5, 7, 3⟩ ⟨10, 40, 100, 32, false⟩;
      let t : Tracking := ⟨[b 0, b 1], [⟨5, 7, 0⟩, ⟨9, 9, 1⟩], [], 2, 0⟩;
      [(⟨12, 12, 1⟩ : Run), ⟨4, 4, 1⟩, ⟨8, 8, 1⟩].map (fun r => (t.touched r).map (·.key)) = [[], [0], [0, 1]]
        ∧ (t.take 257 ⟨8, 8, 1⟩ ⟨11, 40, 100, 32, false⟩).untracked = 1)
      ∧ (let b := OpenBlemish.opened 0 ⟨5, 7, 3⟩ ⟨10, 40, 100, 32, false⟩;
        [(4, (⟨[], some 7, 0, 0, 0⟩ : Listing)), (3, ⟨[], some 7, 0, 0, 0⟩), (3, ⟨[], none, 0, 0, 0⟩),
            (3, ⟨List.replicate 32 (.marker 0), some 4294967295, 0, 0, 0⟩)].map
          (fun c => ((c.2.close c.1 0 0 false b).listed, (c.2.close c.1 0 0 false b).unlisted,
            (c.2.close c.1 0 0 false b).nextSerial))
          = [(0, 0, some 7), (1, 0, some 8), (0, 1, none), (0, 1, none)]) := by decide

theorem witness_RowClassificationEnd_wideRuns :
    ([⟨4, 9, 9⟩, ⟨5, 0, 3⟩, ⟨5, 6, 8⟩] : List WideRun).Pairwise WideRun.NotAfter := by
  unfold WideRun.NotAfter; decide

/-- A frame end in flight for slot 0, with a holding queue and a start queue. -/
def endingFrame (pass : PassState) (queued : Nat) (starts : List SlotId) : State :=
  let s := inPass pass (slot .active (some 9) 10)
  { s with
    bt := { s.bt with frameEnd := some ⟨0, true⟩ }
    lw := { s.lw with queue := List.replicate queued (.marker 0) }
    iu := { s.iu with startQueue := starts } }

theorem witness_FrameEndComplete :
    (∀ s ∈ [endingFrame .draining 32 [], endingFrame .draining 31 [], endingFrame .capturing 0 [1]],
        s.bt.frameEnd = some ⟨0, true⟩ ∧ s.bt.classifying = none
          ∧ (∀ v : SlotId, v ≠ 0 → (s.fl.slots.get v).state ≠ .active) ∧ s.ru.staging.length < 8
          ∧ s.ru.ringFull s.cu.standing.slotCount = false)
      ∧ (endingFrame .draining 32 []).lw.queue.length = 32 ∧ (endingFrame .draining 31 []).lw.queue.length < 32
      ∧ (endingFrame .draining 31 []).iu.startQueue = []
      ∧ (endingFrame .capturing 0 [1]).iu.startQueue = [1] ∧ (endingFrame .capturing 0 [1]).iu.pass = .capturing
      ∧ (endingFrame .capturing 0 [1]).iu.tracker.hasCompleted
          (((endingFrame .capturing 0 [1]).fl.slots.get 1).top
            + ((endingFrame .capturing 0 [1]).fl.slots.get 1).classified) = false := by decide

/-- A frame end in flight with slot 1 in the start queue, its row 0 ready or not, in half B, a CLOSE_STRIP pending or not. -/
def nextFrame (pass : PassState) (current : Nat) (pending : Bool) : State :=
  let s := endingFrame pass 0 [1]
  { s with fl := { s.fl with slots := s.fl.slots.set 1 { slot .planned (some 0) 0 with top := 20, bottom := 29 } }
           iu := { s.iu with tracker := ⟨some current, 0, false, true, 0, 0⟩, halfB := ⟨.waiting, 20, 1, [9], 1⟩ }
           bt := { s.bt with closePending := pending } }

theorem witness_FrameEndComplete_next :
    (∀ pass ∈ [PassState.capturing, .draining], ∀ c ∈ [20, 21], ∀ pending ∈ [true, false],
        let s := nextFrame pass c pending;
        s.bt.frameEnd = some ⟨0, true⟩ ∧ s.bt.classifying = none ∧ (∀ v : SlotId, v ≠ 0 → (s.fl.slots.get v).state ≠ .active)
          ∧ s.iu.startQueue = [1] ∧ s.iu.pass = pass ∧ s.bt.closePending = pending
          ∧ (s.fl.slots.get 1).classified < (s.fl.slots.get 1).height
          ∧ s.iu.tracker.hasCompleted ((s.fl.slots.get 1).top + (s.fl.slots.get 1).classified) = decide (c = 21))
      ∧ (nextFrame .draining 21 false).iu.halfB.state ≠ .empty ∧ (nextFrame .draining 21 false).iu.halfB.row = 20 + 0 := by
  decide

/-- In DRAINING the next slot's ready row is classified, an unready one ends its frame with CUT, and with none left the pass is
PLANNED, pending CLOSE_STRIP or not (R53, R54, R92). -/
theorem test_draining_goes_on :
    let t := fun c pending => after .frameEndComplete (nextFrame .draining c pending)
    (t 21 false).bt.classifying.map (fun k => (k.slot, k.row, k.values, k.torn)) = some (1, 0, [9], 1)
      ∧ (t 21 true).bt.classifying = none ∧ (t 20 true).bt.frameEnd = some ⟨1, true⟩
      ∧ (t 20 false).bt.frameEnd = some ⟨1, true⟩
      ∧ (let s := endingFrame .draining 0 [];
          (after .frameEndComplete { s with bt := { s.bt with closePending := true } }).iu.pass) = .planned := by decide

/-! ### Posts -/

/-- A post is one of its command, by kind and by what tells rows of one kind apart. -/
theorem posts_of (s : State) (c : Instr) (k : Byte) (h : postKind c = some k ∧ s.cu.posted = some k)
    (d : (c = .setPlan → (s.cu.shadow.read 0x000).getLsbD 0 = false)
      ∧ (c = .setPlanRing → (s.cu.shadow.read 0x000).getLsbD 0 = true)
      ∧ (c = .setFramePlan → s.cu.shadow.read 0x001 ≠ 1) ∧ (c = .setFrameRelease → s.cu.shadow.read 0x001 = 1)
      ∧ (c = .chain → s.cu.shadow.read32 0x000 ≠ 0) ∧ (c = .chainDetach → s.cu.shadow.read32 0x000 = 0)) :
    s.Posts c := ⟨⟨k, h⟩, d⟩

/-- A post is taken when nothing of R22 bars it. -/
theorem takes_of (s : State) (c : Instr) (k : Byte) (h : postKind c = some k ∧ s.cu.posted = some k)
    (d : (c = .setPlan → (s.cu.shadow.read 0x000).getLsbD 0 = false)
      ∧ (c = .setPlanRing → (s.cu.shadow.read 0x000).getLsbD 0 = true)
      ∧ (c = .setFramePlan → s.cu.shadow.read 0x001 ≠ 1) ∧ (c = .setFrameRelease → s.cu.shadow.read 0x001 = 1)
      ∧ (c = .chain → s.cu.shadow.read32 0x000 ≠ 0) ∧ (c = .chainDetach → s.cu.shadow.read32 0x000 = 0))
    (b : s.bt.restartPending = false ∧ s.iu.pass ≠ .locating ∧ s.bt.classifying = none ∧ s.bt.frameEnd = none) :
    s.TakesPost c := ⟨posts_of s c k h d, b.1, fun _ => b.2⟩

/-- The power-on settings as a SET_PLAN record, with a flag byte, a mode byte and a ring of 16 at 0x0020_0000. -/
def planRecord (flag mode : Byte) : Memory :=
  Memory.writeBytes [] 0 ([flag, mode, 1, 0] ++ le16 0 ++ le16 0 ++ le16 16 ++ [0, 0] ++ le32 0x200000 ++ le16 128
    ++ le16 230 ++ [32, 4, 24, 0] ++ le16 1 ++ le16 4096)

/-- The small strip as an OPEN_STRIP record (R207). -/
def stripRecord : Memory :=
  Memory.writeBytes [] 0 ([0, 0] ++ le16 2 ++ le32 16 ++ le16 4 ++ [0, 0] ++ le32 0x100000 ++ le16 8 ++ [0, 0] ++ le32 64
    ++ le32 40 ++ [2, 1, 0, 0] ++ le16 0 ++ le16 3 ++ [0, 0, 0, 0] ++ le32 0x200000 ++ le32 0x10000 ++ le16 8 ++ [0, 0]
    ++ le32 64 ++ le16 5 ++ [1, 0] ++ le16 8 ++ le16 0 ++ [0, 0])

/-- A SET_FRAME record with an action byte and a slot byte: rows 20 to 29, columns 2 to 5. -/
def frameRecord (v action : Byte) : Memory :=
  Memory.writeBytes [] 0 ([v, action, 0, 0] ++ le32 20 ++ le32 29 ++ le16 2 ++ le16 5 ++ le32 0x200000 ++ le16 8 ++ [0, 0]
    ++ le32 64 ++ le16 0 ++ [0, 0])

/-- A record refused at its first field. -/
def badRecord : Memory := [(0, 255), (1, 255)]

theorem witness_PostRefused :
    ((posting 0 [] .stripOpen up).cu.posted = some 0 ∧ (posting 0x0F [] .stripOpen up).cu.posted = some 0x0F
        ∧ 0x0E < (0x0F : Byte).toNat)
      ∧ ((posting 2 [] .locating up).Posts .openStrip ∧ (posting 2 [] .locating up).iu.pass = .locating)
      ∧ ((posting 0x0D [] .stripOpen { up with bt := { up.bt with restartPending := true } }).Posts .clearFault
        ∧ (posting 0x0D [] .stripOpen { up with bt := { up.bt with restartPending := true } }).bt.restartPending = true)
      ∧ ((posting 7 [] .capturing (classifyingRow (plainRow 0) 0)).Posts .endPass
        ∧ (posting 7 [] .capturing (classifyingRow (plainRow 0) 0)).bt.classifying ≠ none)
      ∧ ((posting 7 [] .capturing (endingFrame .capturing 0 [])).Posts .endPass
        ∧ (posting 7 [] .capturing (endingFrame .capturing 0 [])).bt.classifying = none
        ∧ (posting 7 [] .capturing (endingFrame .capturing 0 [])).bt.frameEnd ≠ none)
      ∧ (posting 2 [] .surveying up).TakesPost .openStrip ∧ (posting 6 [] .surveying up).TakesPost .beginCapture
      ∧ (posting 5 [(1, 1)] .capturing up).TakesPost .setFrameRelease ∧ (posting 4 [] .stripOpen up).TakesPost .relocate
      ∧ (posting 7 [] .planned up).TakesPost .endPass ∧ (posting 8 [] .stripClosed up).TakesPost .closeStrip
      ∧ (posting 9 [] .draining up).TakesPost .setColumns
      ∧ ((posting 6 [] .planned up).TakesPost .beginCapture
        ∧ ∀ v, ((posting 6 [] .planned up).fl.slots.get v).state ≠ .planned)
      ∧ ((posting 1 [(0, 1)] .stripOpen { up with ru := ruAt 1 0 }).TakesPost .setPlanRing
        ∧ (posting 1 [(0, 1)] .stripOpen { up with ru := ruAt 1 0 }).ru.produced
            ≠ (posting 1 [(0, 1)] .stripOpen { up with ru := ruAt 1 0 }).ru.taken)
      ∧ ((posting 10 [(0, 32)] .stripOpen { up with lw := writer 0 [] }).TakesPost .chain)
      ∧ (posting 10 [] .stripOpen up).TakesPost .chainDetach :=
  ⟨by decide, ⟨posts_of _ _ 2 (by decide) (by decide), rfl⟩, ⟨posts_of _ _ 13 (by decide) (by decide), rfl⟩,
    ⟨posts_of _ _ 7 (by decide) (by decide), by decide⟩,
    ⟨posts_of _ _ 7 (by decide) (by decide), by decide, by decide⟩,
    takes_of _ _ 2 (by decide) (by decide) (by decide), takes_of _ _ 6 (by decide) (by decide) (by decide),
    takes_of _ _ 5 (by decide) (by decide) (by decide), takes_of _ _ 4 (by decide) (by decide) (by decide),
    takes_of _ _ 7 (by decide) (by decide) (by decide), takes_of _ _ 8 (by decide) (by decide) (by decide),
    takes_of _ _ 9 (by decide) (by decide) (by decide),
    ⟨takes_of _ _ 6 (by decide) (by decide) (by decide), by decide⟩,
    ⟨takes_of _ _ 1 (by decide) (by decide) (by decide), by decide⟩,
    takes_of _ _ 10 (by decide) (by decide) (by decide), takes_of _ _ 10 (by decide) (by decide) (by decide)⟩

/-- The records above are good, and a bad one is named by its first bad field. -/
theorem witness_FieldsChecked :
    firstBad (setPlanChecks up.mc.size { up.cu with shadow := planRecord 0 0 }) = none
      ∧ firstBad (setPlanChecks up.mc.size { up.cu with shadow := planRecord 1 1 }) = none
      ∧ firstBad (setPlanChecks up.mc.size { up.cu with shadow := badRecord }) = some 1
      ∧ firstBad (openStripChecks up.mc.size { up.cu with shadow := stripRecord }) = none
      ∧ firstBad (openStripChecks up.mc.size { up.cu with shadow := badRecord }) = some 0 := by decide

/-- A SET_FRAME record that meets slot 0's rows, one at the last capture row, one past it, and each later field at its ends. -/
theorem witness_FieldsChecked_frame :
    ([(0, [7]), (0, [8]), (1, [1]), (1, [2]), (4, le32 19), (4, le32 39 ++ le32 39), (4, le32 40 ++ le32 40),
        (8, le32 40), (0x0C, le16 7 ++ le16 7), (0x0C, le16 8), (0x0E, le16 8), (0x10, le32 0x200010), (0x14, le16 7),
        (0x14, le16 4096), (0x14, le16 4097), (0x18, le32 32), (0x18, le32 48), (0x10, le32 0x03FFEE00),
        (0x10, le32 0x03FFEE20), (0x1E, [3]), (0x1E, [4])].map
      fun f : Nat × List Byte => firstBad (setFramePlanChecks up.mc.size (some strip)
        (inPass .stripOpen (slot .planned none 0)).fl.slots ((frameRecord 7 0).writeBytes f.1 f.2)))
      = [none, some 0, none, some 1, some 8, none, some 4, some 8, none, some 12, some 14, some 16, some 20, none, some 20,
          none, some 24, none, some 24, none, some 30] := by decide

/-- A post of SET_PLAN under settings with N 2 and T 100. -/
def planning (m : Memory) : State :=
  posting 1 m .stripOpen
    { up with cu := { up.cu with standing := { ring with coalesceCount := 2, coalesceTime := 100 } } }

theorem witness_SettingsReplaced :
    ((planning (planRecord 0 1)).TakesPost .setPlan
        ∧ firstBad (setPlanChecks (planning (planRecord 0 1)).mc.size (planning (planRecord 0 1)).cu) = none
        ∧ (planning (planRecord 0 1)).cu.standing.attentionMode = .take)
      ∧ ((planning (planRecord 0 0)).TakesPost .setPlan
        ∧ firstBad (setPlanChecks (planning (planRecord 0 0)).mc.size (planning (planRecord 0 0)).cu) = none
        ∧ (planning (planRecord 0 0)).cu.standing.coalesceCount ≠ 1)
      ∧ ((planning [(1, 255)]).TakesPost .setPlan
        ∧ firstBad (setPlanChecks (planning [(1, 255)]).mc.size (planning [(1, 255)]).cu) = some 1)
      ∧ ((planning (planRecord 1 0)).TakesPost .setPlanRing
        ∧ (planning (planRecord 1 0)).ru.produced = (planning (planRecord 1 0)).ru.taken
        ∧ firstBad (setPlanChecks (planning (planRecord 1 0)).mc.size (planning (planRecord 1 0)).cu) = none
        ∧ (planning (planRecord 1 0)).ru.staging.length < 8)
      ∧ (let s : State := { planning (planRecord 1 0) with ru := { up.ru with staging := List.replicate 8 (.listStall 0 0) } };
        s.TakesPost .setPlanRing ∧ s.ru.produced = s.ru.taken ∧ firstBad (setPlanChecks s.mc.size s.cu) = none
          ∧ s.ru.staging.length = 8 ∧ (BitVec.ofNat 14 (s.cu.shadow.read16 0x006)).getLsbD 9 = false
          ∧ s.ru.counters.get 9 ≠ 49151)
      ∧ ((planning badRecord).TakesPost .setPlanRing
        ∧ firstBad (setPlanChecks (planning badRecord).mc.size (planning badRecord).cu) = some 1)
      ∧ ((posting 9 [(0, 16)] .stripOpen up).TakesPost .setColumns
        ∧ ((posting 9 [(0, 16)] .stripOpen up).cu.shadow.read 0).toNat ≤ 16)
      ∧ ((posting 9 [(0, 17)] .stripOpen up).TakesPost .setColumns
        ∧ 16 < ((posting 9 [(0, 17)] .stripOpen up).cu.shadow.read 0).toNat) :=
  ⟨⟨takes_of _ _ 1 (by decide) (by decide) (by decide), by decide, by decide⟩,
    ⟨takes_of _ _ 1 (by decide) (by decide) (by decide), by decide, by decide⟩,
    ⟨takes_of _ _ 1 (by decide) (by decide) (by decide), by decide⟩,
    ⟨takes_of _ _ 1 (by decide) (by decide) (by decide), by decide, by decide, by decide⟩,
    ⟨takes_of _ _ 1 (by decide) (by decide) (by decide), by decide, by decide, by decide, by decide, by decide⟩,
    ⟨takes_of _ _ 1 (by decide) (by decide) (by decide), by decide⟩,
    ⟨takes_of _ _ 9 (by decide) (by decide) (by decide), by decide⟩,
    ⟨takes_of _ _ 9 (by decide) (by decide) (by decide), by decide⟩⟩

theorem witness_OpenStrip :
    ((posting 2 stripRecord .stripClosed up).TakesPost .openStrip
        ∧ firstBad (openStripChecks up.mc.size (posting 2 stripRecord .stripClosed up).cu) = none)
      ∧ ((posting 2 badRecord .planned up).TakesPost .openStrip
        ∧ firstBad (openStripChecks up.mc.size (posting 2 badRecord .planned up).cu) = some 0) :=
  ⟨⟨takes_of _ _ 2 (by decide) (by decide) (by decide), by decide⟩,
    ⟨takes_of _ _ 2 (by decide) (by decide) (by decide), by decide⟩⟩

/-- A locate parameter record (R208). -/
def locateRecord (minGap : Byte) (frameLength nominal : Nat) : Memory :=
  Memory.writeBytes [] 0 (le16 5 ++ [minGap, 0] ++ le16 frameLength ++ le16 nominal ++ [0])

theorem witness_PassCommands :
    (posting 3 [] .stripOpen up).TakesPost .beginSurvey
      ∧ ((posting 6 [] .planned (inPass .planned (slot .planned none 0))).TakesPost .beginCapture
        ∧ ((posting 6 [] .planned (inPass .planned (slot .planned none 0))).fl.slots.get 0).state = .planned)
      ∧ (posting 4 (locateRecord 64 2048 256) .planned (inPass .planned (slot .vacant none 0))).TakesPost .relocate
      ∧ ([locateRecord 0 8 0, locateRecord 65 8 0, locateRecord 1 7 0, locateRecord 64 2049 0, locateRecord 1 8 257,
            locateRecord 64 2048 256].map fun m => firstBad (relocateChecks m))
          = [some 2, some 2, some 4, some 4, some 6, none]
      ∧ ((posting 7 [] .surveying (inPass .surveying (slot .vacant none 0))).TakesPost .endPass
        ∧ (posting 7 [] .surveying (inPass .surveying (slot .vacant none 0))).iu.tracker.current = none
        ∧ (posting 7 [] .surveying (inPass .surveying (slot .vacant none 0))).iu.pairing = none
        ∧ (posting 7 [] .surveying (inPass .surveying (slot .vacant none 0))).fl.params = some strip.params)
      ∧ ((posting 7 [] .surveying (surveyRow 1 none)).TakesPost .endPass
        ∧ (posting 7 [] .surveying (surveyRow 1 none)).iu.tracker.current = some 2
        ∧ (posting 7 [] .surveying (surveyRow 1 none)).iu.tracker.complete = false ∧ 2 + 1 < strip.surveyRows)
      ∧ ((posting 7 [] .capturing (inPass .capturing (slot .planned none 0))).TakesPost .endPass
        ∧ (posting 7 [] .capturing (inPass .capturing (slot .planned none 0))).iu.startQueue = []
        ∧ ∀ v, ((posting 7 [] .capturing (inPass .capturing (slot .planned none 0))).fl.slots.get v).state ≠ .active)
      ∧ ((posting 7 [] .capturing (inPass .capturing (slot .active (some 3) 4))).TakesPost .endPass
        ∧ activeSlot (posting 7 [] .capturing (inPass .capturing (slot .active (some 3) 4))).fl.slots = some 0
        ∧ (posting 7 [] .capturing (inPass .capturing (slot .active (some 3) 4))).iu.tracker.hasCompleted (10 + 4)
            = false) :=
  ⟨takes_of _ _ 3 (by decide) (by decide) (by decide),
    ⟨takes_of _ _ 6 (by decide) (by decide) (by decide), by decide⟩,
    takes_of _ _ 4 (by decide) (by decide) (by decide), by decide,
    ⟨takes_of _ _ 7 (by decide) (by decide) (by decide), by decide, by decide, by decide⟩,
    ⟨takes_of _ _ 7 (by decide) (by decide) (by decide), by decide, by decide, by decide⟩,
    ⟨takes_of _ _ 7 (by decide) (by decide) (by decide), by decide, by decide⟩,
    ⟨takes_of _ _ 7 (by decide) (by decide) (by decide), by decide, by decide⟩⟩

/-- END_PASS with a pending word 0, and in CAPTURING with row 14 open: ready for the ACTIVE slot, or not yet reached by it. -/
theorem witness_PassCommands_endPass :
    (let s := posting 7 [] .surveying (surveyRow 1 (some ⟨2, 1, true, 7⟩));
        s.TakesPost .endPass ∧ s.iu.pairing = some ⟨2, 1, true, 7⟩ ∧ ∃ u, s.SettledTorn ⟨2, 1, true, 7⟩ u)
      ∧ (let s := posting 7 [] .capturing { pairingRow (some ⟨10, 2, true, 5⟩) 7 with bt := up.bt };
        s.TakesPost .endPass ∧ s.iu.pairing = some ⟨10, 2, true, 5⟩ ∧ ∃ u, s.SettledTorn ⟨10, 2, true, 5⟩ u)
      ∧ ∀ n ∈ [4, 5],
        let p := captureRow 14 (some 4)
        let s := posting 7 [] .capturing { p with fl := { p.fl with slots := p.fl.slots.set 0 (slot .active (some 4) n) } };
        s.TakesPost .endPass ∧ s.iu.tracker.current = some 14 ∧ s.iu.tracker.complete = false ∧ s.iu.strip = some strip
          ∧ activeSlot s.fl.slots = some 0 ∧ (∃ w, s.RowClosed w)
          ∧ (⟨some 14, 0, true, true, 0, 0⟩ : RowTracker).hasCompleted (10 + n) = decide (n = 4) := by
  refine ⟨⟨takes_of _ _ 7 (by decide) (by decide) (by decide), by decide, settledTorn_exists _ _⟩,
    ⟨takes_of _ _ 7 (by decide) (by decide) (by decide), by decide, settledTorn_exists _ _⟩, ?_⟩
  simp only [List.forall_mem_cons, List.not_mem_nil, false_imp_iff, implies_true, and_true]
  exact ⟨⟨takes_of _ _ 7 (by decide) (by decide) (by decide), by decide, by decide, by decide, by decide, rowClosed_exists _,
      by decide⟩,
    ⟨takes_of _ _ 7 (by decide) (by decide) (by decide), by decide, by decide, by decide, by decide, rowClosed_exists _,
      by decide⟩⟩

/-- SET_FRAME posted over the small strip, whose slot 0 is planned over rows 10 to 19. -/
def framing (m : Memory) : State := posting 5 m .stripOpen (inPass .stripOpen (slot .planned none 0))

theorem witness_SetFrame :
    ((framing (frameRecord 7 0)).TakesPost .setFramePlan
        ∧ firstBad (setFramePlanChecks (framing (frameRecord 7 0)).mc.size (framing (frameRecord 7 0)).iu.strip
            (framing (frameRecord 7 0)).fl.slots (frameRecord 7 0)) = none
        ∧ (frameRecord 7 0).read16 0x01C = 0
        ∧ (framing (frameRecord 7 0)).fl.profile.length ≤ (frameRecord 7 0).read32 4 * strip.ks / strip.kc)
      ∧ ((framing (frameRecord 8 0)).TakesPost .setFramePlan
        ∧ firstBad (setFramePlanChecks (framing (frameRecord 8 0)).mc.size (framing (frameRecord 8 0)).iu.strip
            (framing (frameRecord 8 0)).fl.slots (frameRecord 8 0)) = some 0)
      ∧ ((framing (frameRecord 7 1)).TakesPost .setFrameRelease ∧ ((frameRecord 7 1).read 0).toNat = 7)
      ∧ ((framing (frameRecord 8 1)).TakesPost .setFrameRelease ∧ 7 < ((frameRecord 8 1).read 0).toNat) :=
  ⟨⟨takes_of _ _ 5 (by decide) (by decide) (by decide), by decide, by decide, by decide⟩,
    ⟨takes_of _ _ 5 (by decide) (by decide) (by decide), by decide⟩,
    ⟨takes_of _ _ 5 (by decide) (by decide) (by decide), by decide⟩,
    ⟨takes_of _ _ 5 (by decide) (by decide) (by decide), by decide⟩⟩

theorem witness_CloseStrip :
    ((posting 8 [] .capturing (classifyingRow (plainRow 0) 0)).TakesPost .closeStrip
        ∧ (posting 8 [] .capturing (classifyingRow (plainRow 0) 0)).iu.pass ≠ .stripClosed
        ∧ (accessOf (posting 8 [] .capturing (classifyingRow (plainRow 0) 0))).phase = .serving
        ∧ (posting 8 [] .capturing (classifyingRow (plainRow 0) 0)).bt.classifying ≠ none)
      ∧ ((posting 8 [] .planned (inPass .planned (slot .planned none 0))).TakesPost .closeStrip
        ∧ (posting 8 [] .planned (inPass .planned (slot .planned none 0))).bt.classifying = none
        ∧ (posting 8 [] .planned (inPass .planned (slot .planned none 0))).bt.closePending = false
        ∧ ∀ v, ((posting 8 [] .planned (inPass .planned (slot .planned none 0))).fl.slots.get v).state ≠ .active)
      ∧ ((posting 8 [] .capturing (inPass .capturing (slot .active (some 3) 4))).TakesPost .closeStrip
        ∧ (posting 8 [] .capturing (inPass .capturing (slot .active (some 3) 4))).bt.frameEnd = none
        ∧ activeSlot (posting 8 [] .capturing (inPass .capturing (slot .active (some 3) 4))).fl.slots = some 0) :=
  ⟨⟨⟨posts_of _ _ 8 (by decide) (by decide), by decide, fun h => absurd h (by unfold BusySubject; decide)⟩,
      by decide, by decide, by decide⟩,
    ⟨takes_of _ _ 8 (by decide) (by decide) (by decide), by decide, by decide, by decide⟩,
    ⟨takes_of _ _ 8 (by decide) (by decide) (by decide), by decide, by decide⟩⟩

theorem witness_Restart :
    ((posting 14 [] .capturing (classifyingRow (plainRow 0) 0)).TakesPost .restart
        ∧ (posting 14 [] .capturing (classifyingRow (plainRow 0) 0)).bt.classifying ≠ none
        ∧ (accessOf (posting 14 [] .capturing (classifyingRow (plainRow 0) 0))).phase = .serving)
      ∧ ((posting 14 [] .locating readMode).TakesPost .restart
        ∧ (posting 14 [] .locating readMode).bt.classifying = none) :=
  ⟨⟨⟨posts_of _ _ 14 (by decide) (by decide), by decide, fun h => absurd h (by unfold BusySubject; decide)⟩,
      by decide, by decide⟩,
    ⟨⟨posts_of _ _ 14 (by decide) (by decide), by decide, fun h => absurd h (by unfold BusySubject; decide)⟩, by decide⟩⟩

theorem witness_ChainCommands :
    (∀ m ∈ [Memory.writeBytes [] 0 (le32 0x03FFFFE0), Memory.writeBytes [] 0 (le32 0x04000000), [(0, 16)]],
        (posting 10 m .stripOpen up).TakesPost .chain ∧ (posting 10 m .stripOpen up).lw.state = .unchained)
      ∧ ([Memory.writeBytes [] 0 (le32 0x03FFFFE0), Memory.writeBytes [] 0 (le32 0x04000000), [(0, 16)]].map
            fun m => decide (m.read32 0 % 32 = 0 ∧ m.read32 0 < up.mc.size)) = [true, false, false]
      ∧ (∀ w ∈ [writer 64 [], { writer 0 [] with state := .stalled }],
          (posting 10 [] .stripOpen { up with lw := w }).TakesPost .chainDetach
            ∧ (posting 10 [] .stripOpen { up with lw := w }).lw.current = some 0x300000) := by
  refine ⟨?_, by decide, ?_⟩
  · simp only [List.forall_mem_cons, List.not_mem_nil, false_imp_iff, implies_true, and_true]
    exact ⟨⟨takes_of _ _ 10 (by decide) (by decide) (by decide), by decide⟩,
      ⟨takes_of _ _ 10 (by decide) (by decide) (by decide), by decide⟩,
      ⟨takes_of _ _ 10 (by decide) (by decide) (by decide), by decide⟩⟩
  · simp only [List.forall_mem_cons, List.not_mem_nil, false_imp_iff, implies_true, and_true]
    exact ⟨⟨takes_of _ _ 10 (by decide) (by decide) (by decide), by decide⟩,
      ⟨takes_of _ _ 10 (by decide) (by decide) (by decide), by decide⟩⟩

/-- A probe of slot 7, row 9, column 5. -/
def probeRecord (v : Byte) : Memory := Memory.writeBytes [] 0 ([v, 0, 0, 0] ++ le32 9 ++ le16 5)

theorem witness_LookupsAndClears :
    ((posting 11 (probeRecord 8) .stripOpen up).TakesPost .probeSpan ∧ 7 < ((probeRecord 8).read 0).toNat)
      ∧ ((posting 11 (probeRecord 7) .stripOpen { up with bt := { up.bt with spans := [⟨7, 9, 5, 5, true⟩] } }).TakesPost
            .probeSpan
        ∧ ((probeRecord 7).read 0).toNat = 7 ∧ (probeRecord 7).read32 4 = 9 ∧ (probeRecord 7).read16 8 = 5)
      ∧ ((posting 12 [] .stripOpen up).TakesPost .publishCounters
        ∧ (posting 12 [] .stripOpen up).ru.ringFull (posting 12 [] .stripOpen up).cu.standing.slotCount = false
        ∧ (posting 12 [] .stripOpen up).ru.staging.length < 8)
      ∧ (posting 13 [] .stripOpen (lockedAt 0 0)).TakesPost .clearFault :=
  ⟨⟨takes_of _ _ 11 (by decide) (by decide) (by decide), by decide⟩,
    ⟨takes_of _ _ 11 (by decide) (by decide) (by decide), by decide⟩,
    ⟨takes_of _ _ 12 (by decide) (by decide) (by decide), by decide⟩,
    takes_of _ _ 13 (by decide) (by decide) (by decide)⟩

end Sys2Proof.Tests
end

/-! # Memory and the bulletin shadow keep their canonical form (R7, R20). -/

namespace Sys2Proof.Machine

/-! ## The canonical form of memory and the bulletin shadow -/

/-- The canonical form speaks of memory and the shadow alone. -/
theorem State.MemoryCanonical.of_eq {s t : State} (h : s.MemoryCanonical) (hm : t.mem = s.mem)
    (hc : t.cu.shadow = s.cu.shadow) : t.MemoryCanonical := by
  unfold State.MemoryCanonical
  rw [hm, hc]
  exact h

theorem State.storeCapture_mem_wf {p : IntakePlace} {b : Beat} {late : Bool} {s : State} (h : s.mem.wf = true) :
    (s.storeCapture p b late).mem.wf = true := by
  unfold State.storeCapture
  split
  · exact h
  · dsimp only
    split
    · split
      · exact Memory.writeBeat_wf _ _ _ h
      · exact h
    · simpa using Memory.writeBeat_wf _ _ _ h

theorem State.intakeWord_mem_wf {pass : PassState} {r : StripRecord} {p : IntakePlace} {b : Beat} {s : State}
    (h : s.mem.wf = true) : (s.intakeWord pass r p b).mem.wf = true := by
  have hmoved : ∀ (c : Bool) (x : State), x.mem = s.mem →
      (if c then x.countLate else x.moveTracker p.row).mem.wf = true := by
    intro c x hx
    cases c <;> simpa [hx] using h
  unfold State.intakeWord
  dsimp only
  rw [State.settleOwn_mem]
  split
  · exact Memory.writeBeat_wf _ _ _ (hmoved _ _ (State.pairWord_mem ..))
  · exact State.storeCapture_mem_wf (hmoved _ _ (State.pairWord_mem ..))
  all_goals exact hmoved _ _ (State.pairWord_mem ..)

theorem State.intakeWriteEffect_mem_wf {w : WordItem} {s : State} (h : s.mem.wf = true) :
    (s.intakeWriteEffect w).mem.wf = true := by
  unfold State.intakeWriteEffect
  dsimp only
  rw [State.wordWritten_mem]
  split
  · split
    · simpa using h
    · split
      · exact h
      · exact State.intakeWord_mem_wf h
  · simpa using h

/-- CU keeps the shadow canonical, whatever it is handed (R20, R21). -/
theorem State.commandSnoop_canonical {offset : Nat} {b : Beat} {s : State} (h : s.MemoryCanonical) :
    (s.commandSnoop offset b).MemoryCanonical := by
  unfold State.commandSnoop
  split
  · exact ⟨h.1, Memory.writeBeat_wf _ _ _ h.2⟩
  · split
    · split
      · exact h
      · exact h.of_eq (by simp) (by simp)
    · exact h

theorem State.runCommandUnit_canonical {s : State} (h : s.MemoryCanonical) : s.runCommandUnit.MemoryCanonical := by
  unfold State.runCommandUnit
  split
  · split
    · exact State.commandSnoop_canonical h
    · exact h
  · exact h

theorem State.watchedWordEffect_canonical {s : State} (h : s.MemoryCanonical) :
    s.watchedWordEffect.MemoryCanonical := by
  unfold State.watchedWordEffect
  split
  · exact State.runCommandUnit_canonical (h.of_eq (by simp) (by simp))
  · exact h

/-- A pending RESTART empties the shadow, a pending CLOSE_STRIP leaves it (R34, R60). -/
theorem State.restartEffect_canonical {s : State} (h : s.MemoryCanonical) : s.restartEffect.MemoryCanonical := by
  refine ⟨by simpa using h.1, ?_⟩
  simp [State.restartEffect, Memory.wf, Memory.risingFrom]

theorem State.closeStripEffect_shadow (s : State) : s.closeStripEffect.cu.shadow = s.cu.shadow := by
  unfold State.closeStripEffect
  simp only [State.endRowHold_cu, State.vacateWhere_cu]
  split
  · rfl
  · split
    · exact congrArg CommandUnit.shadow (State.beginFrameEnd_cu ..)
    · rfl

theorem State.closeStripEffect_canonical {s : State} (h : s.MemoryCanonical) : s.closeStripEffect.MemoryCanonical :=
  h.of_eq (by simp) (State.closeStripEffect_shadow s)

theorem State.pendingEffects_canonical {s : State} (h : s.MemoryCanonical) : s.pendingEffects.MemoryCanonical := by
  unfold State.pendingEffects
  split
  · split
    · exact State.restartEffect_canonical h
    · split
      · exact State.closeStripEffect_canonical h
      · exact h
  · exact h

theorem State.finishOperation_canonical {s : State} (h : s.MemoryCanonical) : s.finishOperation.MemoryCanonical :=
  State.pendingEffects_canonical (s := { s with mc := { s.mc with port := none } }) h

theorem State.endClassification_canonical {k : Classification} {s : State} (h : s.MemoryCanonical) :
    (s.endClassification k).MemoryCanonical := by
  have hended : (State.endFrameIfLast k ((s.recordRow k).emptyHalf k)).MemoryCanonical := h.of_eq (by simp) (by simp)
  unfold State.endClassification
  dsimp only
  split
  · exact State.pendingEffects_canonical hended
  · exact hended.of_eq (by simp) (by simp)

theorem State.writeCloseBytes_canonical {bs : List Byte} {s : State} (h : s.MemoryCanonical) :
    (s.writeCloseBytes bs).MemoryCanonical := ⟨Memory.writeBytes_wf _ _ _ h.1, h.2⟩

theorem State.writeClose_canonical {c : CloseStatus} {v : Option SlotId} {s : State} (h : s.MemoryCanonical) :
    (s.writeClose c v).MemoryCanonical := State.writeCloseBytes_canonical h

theorem State.followNext_canonical {s : State} (h : s.MemoryCanonical) : s.followNext.MemoryCanonical :=
  h.of_eq (by simp) (by simp)

theorem State.closeRejected_canonical {s : State} (h : s.MemoryCanonical) : s.closeRejected.MemoryCanonical := by
  have hclosed := State.writeCloseBytes_canonical (bs := closeBytes 0 .rejected none none none) h
  unfold State.closeRejected
  dsimp only
  split
  · exact hclosed.of_eq (by simp) (by simp)
  · exact State.followNext_canonical hclosed

theorem State.detachChain_canonical {s : State} (h : s.MemoryCanonical) : s.detachChain.MemoryCanonical := by
  unfold State.detachChain
  dsimp only
  cases s.lw.state
  case filling => exact (State.writeClose_canonical (c := .detached) (v := none) h).of_eq rfl rfl
  all_goals exact h

theorem writePlanEntries_wf {size : Nat} {entries : List (SlotId × PlanEntry)} {m : Memory} (h : m.wf = true) :
    (writePlanEntries size entries m).wf = true := by
  unfold writePlanEntries
  induction entries generalizing m with
  | nil => exact h
  | cons e rest ih => exact ih (Memory.writeBytes_wf _ _ _ h)

theorem State.writeReport_canonical {x : Report} {s : State} (h : s.MemoryCanonical) :
    (s.writeReport x).MemoryCanonical :=
  ⟨Memory.writeBytes_wf _ _ _ (Memory.writeBytes_wf _ _ _ h.1), h.2⟩

theorem State.reportOperation_canonical {entries : List (SlotId × PlanEntry)} {carries : Bool} {s : State}
    (h : s.MemoryCanonical) : (s.reportOperation entries carries).MemoryCanonical := by
  have hplanned : State.MemoryCanonical { s with mem := writePlanEntries s.mc.size entries s.mem } :=
    ⟨writePlanEntries_wf h.1, h.2⟩
  have hended : ∀ t : State, t.MemoryCanonical → t.drainRing.MemoryCanonical := fun t ht => ht.of_eq rfl rfl
  unfold State.reportOperation
  refine hended _ ?_
  dsimp only
  split
  · split
    · exact State.writeReport_canonical hplanned
    · exact hplanned
  · exact hplanned

theorem State.closeStripTaken_canonical {s : State} (h : s.MemoryCanonical) : s.closeStripTaken.MemoryCanonical := by
  unfold State.closeStripTaken
  split
  · exact h.of_eq rfl rfl
  · exact (State.closeStripEffect_canonical h).of_eq rfl rfl

theorem State.restartTaken_canonical {s : State} (h : s.MemoryCanonical) : s.restartTaken.MemoryCanonical := by
  unfold State.restartTaken
  split
  · exact h
  · exact State.restartEffect_canonical h

/-- Every effect keeps the canonical form. -/
theorem State.memoryCanonical_kept : KeptByEffects State.MemoryCanonical where
  settle _ h := h
  queue _ _ h := h
  tick _ h := h
  abandon _ h := ⟨rfl, h.2⟩
  powerOn _ _ := ⟨rfl, rfl⟩
  startup _ h := h
  present _ _ h := h
  offerHeld _ h := h
  complete _ _ h := h
  finish _ h := State.finishOperation_canonical h
  grant _ _ h _ := h.of_eq (by simp) (by simp)
  plainWrite _ _ h := ⟨Memory.writeBeat_wf _ _ _ h.1, h.2⟩
  plainRead _ _ h := h.of_eq (by simp) (by simp)
  bulletinWrite s w h := State.runCommandUnit_canonical
    (s := State.wordWritten (s.bulletinHandOvers w.address) { s with mem := s.mem.writeBeat w.address w.beat })
    ⟨Memory.writeBeat_wf _ _ _ h.1, h.2⟩
  takenCount _ h := h.of_eq (by simp) (by simp)
  watchedWord _ h := State.watchedWordEffect_canonical h
  unbacked _ _ h := h.of_eq (by simp) (by simp)
  intakeWrite _ _ h := ⟨State.intakeWriteEffect_mem_wf h.1, by simpa using h.2⟩
  wordRead _ _ h := h
  viewRead _ _ h := h.of_eq (by simp) (by simp)
  wordWritten _ _ h := h
  locate _ _ h := h.of_eq (by simp) (by simp)
  classification _ _ h := State.endClassification_canonical h
  frameEnd _ _ h _ := h.of_eq (by simp) (by simp)
  load _ h := h.of_eq (by simp) (by simp)
  closeRejected _ h := State.closeRejected_canonical h
  writeRecord _ _ h := ⟨Memory.writeBytes_wf _ _ _ h.1, h.2⟩
  closeFull _ h := State.followNext_canonical (State.writeClose_canonical h)
  closeFrameEnd s v h := State.followNext_canonical
    ((State.writeClose_canonical (c := .frameEnd) (v := some v) h).of_eq rfl rfl)
  report _ _ _ h := State.reportOperation_canonical h
  refreshExpires _ h := h.of_eq (by simp) (by simp)
  retire _ h := h
  timerExpires _ h := h
  takePosted _ h := h
  stageAck _ _ _ _ h := h
  settings _ h _ _ := h
  ring _ h _ _ := h
  openStrip _ h _ := h.of_eq (by simp) (by simp [State.openStripEffect, State.takePosted])
  beginSurvey _ h := h
  relocate _ h := h.of_eq (by simp) (by simp)
  setFramePlan _ h := h
  setFrameRelease _ h := h
  beginCapture _ h := h
  endPass _ h := h.of_eq (by simp) (by simp)
  closeStrip _ h := State.closeStripTaken_canonical h
  columns _ h _ := h
  attach _ _ h := h.of_eq (by simp) (by simp)
  detach _ h := State.detachChain_canonical h
  publish _ h := h.of_eq (by simp) (by simp)
  clearFault _ h := h
  restart _ h := State.restartTaken_canonical h

/-- Settles O4: every effect keeps memory and the shadow canonical, so every step does. -/
theorem stepKeepsMemoryCanonical : Obligations.StepKeepsMemoryCanonical :=
  fun _ _ hs he => State.memoryCanonical_kept.step hs he

end Sys2Proof.Machine

/-! # Every command answers a next state and keeps the queue. -/

namespace Sys2Proof.Machine

/-! ## Every command answers -/

/-- Outcome `o` is a next state whose queue is that of `s`. -/
def AnswersKeepingQueue (s : State) (o : Host.Outcome State Fault Refusal) : Prop :=
  ∃ t, o = .next t ∧ t.pending = s.pending

theorem occurs_answers {c : Bool} {after s : State} (h : after.pending = s.pending) :
    AnswersKeepingQueue s (occurs c after s) := by
  cases c
  · exact ⟨s, occurs_false .., rfl⟩
  · exact ⟨_, occurs_true .., h⟩

theorem serve_answers {fits : WordItem → Bool} {effect : WordItem → State → State} {s : State}
    (h : ∀ w, (effect w s).pending = s.pending) : AnswersKeepingQueue s (serve fits effect s) := by
  unfold serve
  split
  · exact occurs_answers (h _)
  · exact occurs_answers rfl

theorem State.post_pending {kind : Nat} {c : PostChecks} {carry : State → State} {s : State}
    (h : (carry s.takePosted).pending = s.pending) : (s.post kind c carry).pending = s.pending := by
  rcases State.post_cases kind c carry s with ⟨o, d, -, he⟩ | ⟨-, he⟩
  · rw [he]; rfl
  · rw [he, h]

/-- A post answers with the queue kept when carrying it out keeps the queue. -/
theorem post_answers {cond : Bool} {kind : Nat} {c : PostChecks} {carry : State → State} {s : State}
    (h : (carry s.takePosted).pending = s.pending) : AnswersKeepingQueue s (occurs cond (s.post kind c carry) s) :=
  occurs_answers (State.post_pending h)

@[simp] theorem carryDone_pending (kind : Nat) (effect : State → State) (s : State) :
    (carryDone kind effect s).pending = (effect s).pending := rfl

@[simp] theorem carryAccepted_pending (kind : Nat) (effect : State → State) (s : State) :
    (carryAccepted kind effect s).pending = (effect s).pending := rfl

theorem execUpstreamAccess_answers {req : UpstreamReq} (s : State) (h : req.wellFormed = true) :
    AnswersKeepingQueue s (execUpstreamAccess req s) := by
  unfold execUpstreamAccess
  rw [if_pos h]
  refine occurs_answers ?_
  split <;> rfl

theorem execAccessComplete_answers (s : State) : AnswersKeepingQueue s (execAccessComplete s) := by
  unfold execAccessComplete
  split
  · refine occurs_answers ?_
    split
    · simp
    · rfl
  · exact occurs_answers rfl

/-- Every command but a presentation answers, and keeps the queue. -/
theorem exec_answers (c : Instr) (s : State) (h : c.wellFormed = true) : AnswersKeepingQueue s (exec c s) := by
  cases c with
  | resetNAssert => exact ⟨_, rfl, rfl⟩
  | resetNRelease a b => exact ⟨_, rfl, rfl⟩
  | sdramStartupEnd => exact occurs_answers rfl
  | upstreamAccess req => exact execUpstreamAccess_answers s h
  | grantDecision =>
    simp only [exec, execGrantDecision]
    split
    · exact occurs_answers (by simp)
    · exact occurs_answers rfl
  | accessComplete => exact execAccessComplete_answers s
  | plainWrite => exact serve_answers (by simp)
  | plainRead => exact serve_answers (by simp)
  | bulletinWrite => exact serve_answers (by simp)
  | takenCountWrite => exact occurs_answers (by simp)
  | watchedWordWrite => exact occurs_answers (by simp)
  | unbackedAccess => exact serve_answers (by simp)
  | intakeWrite => exact serve_answers (by simp)
  | intakeRead => exact serve_answers fun _ => rfl
  | viewRead => exact serve_answers (by simp)
  | viewWrite => exact serve_answers (by simp)
  | locateEnd =>
    simp only [exec, execLocateEnd]
    split <;> exact occurs_answers (by simp)
  | rowClassificationEnd =>
    simp only [exec, execRowClassificationEnd]
    split <;> exact occurs_answers (by simp)
  | frameEndComplete =>
    simp only [exec, execFrameEndComplete]
    split <;> exact occurs_answers (by simp)
  | unknownCommand => exact occurs_answers rfl
  | setPlan | setPlanRing | openStrip | beginSurvey | relocate | setFramePlan | setFrameRelease | beginCapture
  | endPass | closeStrip | setColumns | chain | chainDetach | probeSpan | publishCounters | clearFault | restart =>
    exact post_answers (by simp)
  | descriptorLoad | rejectedClose => exact occurs_answers (by simp)
  | recordWrite =>
    simp only [exec, execRecordWrite]
    split <;> exact occurs_answers (by simp)
  | descriptorClose =>
    simp only [exec, execDescriptorClose]
    split <;> exact occurs_answers (by simp)
  | reportWriterGrant =>
    simp only [exec, execReportWriterGrant]
    split <;> exact occurs_answers (by simp)
  | coalescingTimerExpiry => exact occurs_answers rfl
  | refreshTimerExpiry => exact occurs_answers (by simp)
  | refreshOperation => exact occurs_answers (by simp)

theorem upstreamReq_wellFormed_iff (r : UpstreamReq) : r.wellFormed = true ↔ 1 ≤ r.wordCount ∧ r.wordCount ≤ 8 := by
  simp [UpstreamReq.wellFormed]

theorem instr_wellFormed_of_wordCount {c : Instr}
    (h : ∀ req, c = .upstreamAccess req → 1 ≤ req.wordCount ∧ req.wordCount ≤ 8) : c.wellFormed = true := by
  cases c with
  | upstreamAccess req => exact (upstreamReq_wellFormed_iff req).mpr (h req rfl)
  | _ => rfl

/-- Settles O2: each command is one event, or the presentation of an access, which is refused outside 1 to 8 words. -/
theorem execAnswersNext : Obligations.ExecAnswersNext := by
  refine fun c s => ⟨fun h => exec_answers c s (instr_wellFormed_of_wordCount h), ?_⟩
  rintro req rfl hcount
  have hbad : req.wellFormed = false := by
    rw [Bool.eq_false_iff, Ne, upstreamReq_wellFormed_iff]
    omega
  simp [exec, execUpstreamAccess, hbad]

end Sys2Proof.Machine

/-! # Addresses and zones, the presentation of an access, the start-up and the pins (R1 to R6, R184 to R186). -/

namespace Sys2Proof.Machine

/-! ## Settling -/

/-- What a command's event leaves is what its effect leaves, settled. -/
theorem State.settles_of_eq {a b : State} (h : a = b) : b.Settles a.settleRequests :=
  h ▸ State.settleRequests_settles a

/-! ## Addresses and zones -/

theorem wordAddress_eq (req : UpstreamReq) (i : Nat) :
    wordAddress req i = (requestAddress req - requestAddress req % 4 + 4 * i) % 2 ^ 30 := by
  have hword : requestAddress req / 4 * 4 = requestAddress req - requestAddress req % 4 := by omega
  simp [wordAddress, hword]

section Zones
variable {size a : Nat}

theorem zoneOf_eq : zoneOf size a = if 0x30000000 ≤ a then .view else if 0x20000000 ≤ a then .intake
    else if size ≤ a then .unbacked else if size ≤ a + 4096 then .bulletin else .plain := rfl

theorem zoneOf_view (h : 0x30000000 ≤ a) : zoneOf size a = .view := if_pos h

theorem zoneOf_intake (lo : 0x20000000 ≤ a) (hi : a < 0x30000000) : zoneOf size a = .intake := by
  rw [zoneOf_eq, if_neg (by omega), if_pos lo]

theorem zoneOf_unbacked (lo : size ≤ a) (hi : a < 0x20000000) : zoneOf size a = .unbacked := by
  rw [zoneOf_eq, if_neg (by omega), if_neg (by omega), if_pos lo]

/-- The five zones cover the addresses in rising order (R3). -/
theorem zoneOf_cases :
    a + 4096 < size ∧ zoneOf size a = .plain
      ∨ size ≤ a + 4096 ∧ a < size ∧ zoneOf size a = .bulletin
      ∨ size ≤ a ∧ a < 0x20000000 ∧ zoneOf size a = .unbacked
      ∨ 0x20000000 ≤ a ∧ a < 0x30000000 ∧ zoneOf size a = .intake
      ∨ 0x30000000 ≤ a ∧ zoneOf size a = .view := by
  rw [zoneOf_eq]
  split_ifs <;> simp <;> omega

end Zones

/-- Settles O13: the zones cover the addresses in rising order, so each is told by its two ends. -/
theorem addressPlan : Obligations.AddressPlan := by
  refine ⟨wordAddress_eq, fun size a _ hs ha => ?_⟩
  rcases zoneOf_cases (size := size) (a := a) with h | h | h | h | h <;> simp [h] <;> omega

/-! ## Presentation -/

theorem allUnbacked_iff {size : Nat} {r : UpstreamReq} :
    allUnbacked size r = true ↔ ∀ i < r.wordCount, zoneOf size (wordAddress r i) = .unbacked := by
  simp [allUnbacked]

theorem State.admittedPhase_of_unbacked {s : State} {r : UpstreamReq}
    (h : ∀ i < r.wordCount, zoneOf s.mc.size (wordAddress r i) = .unbacked) : s.admittedPhase r = .serving :=
  if_pos (allUnbacked_iff.mpr h)

theorem State.admittedPhase_of_backed {s : State} {r : UpstreamReq}
    (h : ∃ i < r.wordCount, zoneOf s.mc.size (wordAddress r i) ≠ .unbacked) :
    s.admittedPhase r = if s.holdsAccess r then .rowHeld else .asking := by
  obtain ⟨i, hi, hz⟩ := h
  exact if_neg fun hall => hz (allUnbacked_iff.mp hall i hi)

/-- The access that a presentation leaves at the port: offered to IU at once when the part runs (R6). -/
def State.presented (s : State) (r : UpstreamReq) : Access :=
  ⟨r, if s.isRunning then s.admittedPhase r else .startupHeld, 0, [], [], false, false, false, s.viewNow, none⟩

theorem execUpstreamAccess_next {s : State} {req : UpstreamReq} (free : s.upstream = none) (up : s.mc.phase ≠ .inReset)
    (hw : req.wellFormed = true) :
    exec (.upstreamAccess req) s
      = .next (State.settleRequests { s with upstream := some (s.presented req), completion := none }) := by
  simp only [exec, execUpstreamAccess, hw, free, if_true]
  cases hrun : s.isRunning
  · simp [occurs, up, State.present, State.presented, hrun]
  · simp [occurs, up, State.present, State.presented, hrun, State.offerHeld]
    rfl

/-- Settles O14: the presented access by the phase of the part and the zones of its words. -/
theorem accessPresented : Obligations.AccessPresented := by
  intro s req free up lo hi
  have hw := (upstreamReq_wellFormed_iff req).mpr ⟨lo, hi⟩
  refine ⟨_, s.presented req, execUpstreamAccess_next free up hw, State.settleRequests_settles _, rfl, ?_, ?_, ?_, ?_⟩
  · intro hstart
    simp [State.presented, State.isRunning, hstart]
  · exact fun _ => rfl
  · intro hrun hall
    simp [State.presented, State.isRunning, hrun, State.admittedPhase_of_unbacked hall]
  · intro hrun hsome
    simp [State.presented, State.isRunning, hrun, State.admittedPhase_of_backed hsome]

/-! ## The end of the start-up and the pins -/

theorem State.holdsAccess_of_halfEmpty {s : State} (h : s.iu.halfA.state = .empty) (r : UpstreamReq) :
    s.holdsAccess r = false := by
  simp [State.holdsAccess, IntakeUnit.noHalfFree, h]

/-- The offer of the held access leaves a state without one as it is. -/
theorem State.offerHeld_none {s : State} (h : s.upstream = none) : s.offerHeld = s := by
  cases s; cases h; rfl

theorem State.offerHeld_some {s : State} {a : Access} (h : s.upstream = some a) :
    s.offerHeld = { s with upstream := some { a with phase := s.admittedPhase a.req, view := s.viewNow } } := by
  simp [State.offerHeld, h]

theorem State.startupEnded_some {s : State} {a : Access} (h : s.upstream = some a) :
    s.startupEnded = { s with
      mc := { s.mc with phase := .running, refreshTimer := some 0 }
      upstream := some { a with phase := s.admittedPhase a.req, view := s.viewNow } } :=
  State.offerHeld_some (s := { s with mc := { s.mc with phase := .running, refreshTimer := some 0 } }) h

/-- Settles O45: the held access is offered to IU, which holds nothing while half A is EMPTY. -/
theorem startupEnds : Obligations.StartupEnds := by
  intro s hstart hempty
  refine ⟨s.startupEnded.settleRequests, ?_, ?_⟩
  · simp [exec, execSdramStartupEnd, hstart, occurs]
  rintro up rfl
  refine ⟨fun hnone => State.settles_of_eq (State.offerHeld_none hnone), fun a ha => ⟨fun hall => ?_, fun hsome => ?_⟩⟩
  · rw [← State.admittedPhase_of_unbacked hall]
    exact State.settles_of_eq (State.startupEnded_some ha)
  · have hasks := State.admittedPhase_of_backed hsome
    rw [State.holdsAccess_of_halfEmpty hempty] at hasks
    refine State.settles_of_eq ((State.startupEnded_some ha).trans ?_)
    rw [hasks]
    rfl

/-- Settles O44: the two pins' events are one equation each. -/
theorem resetPins : Obligations.ResetPins := by
  constructor
  · intro s size1 size0
    exact ⟨State.powerOn (strapSize size1 size0) s.pending, rfl, rfl, rfl, rfl, rfl, rfl, rfl, rfl, rfl, rfl, rfl, rfl⟩
  · intro s
    rfl

end Sys2Proof.Machine

/-! # Counting, faults, and the word in service (R10, R15, R16). -/

namespace Sys2Proof.Machine

/-! ## Counting, staging and faults -/

/-- A count of one event crosses the mark at 49,151 alone (R181). -/
theorem ReportUnit.crosses_one_eq_false {mask : BitVec 14} {c : CounterId} {r : ReportUnit}
    (h : r.counters.get c ≠ 49151) : r.crosses mask c 1 = false := by
  have hne : (r.counters.get c).toNat ≠ 49151 := fun he => h (BitVec.eq_of_toNat_eq he)
  simp only [ReportUnit.crosses, Config.counterMark, Bool.and_eq_false_iff, decide_eq_false_iff_not]
  omega

/-- A masked counter crosses nothing (R180). -/
theorem ReportUnit.crosses_masked {mask : BitVec 14} {c : CounterId} {n : Nat} {r : ReportUnit}
    (h : mask.getLsbD c.val = true) : r.crosses mask c n = false := by
  simp [ReportUnit.crosses, h]

theorem State.count_masked {s : State} {c : CounterId} (h : s.cu.standing.countMask.getLsbD c.val = true) :
    s.count c = s := by
  rw [State.count, State.countBy_of_not_crossing (ReportUnit.crosses_masked h), ReportUnit.raise_masked h]

theorem State.count_unmasked {s : State} {c : CounterId} (h : s.cu.standing.countMask.getLsbD c.val = false)
    (hne : s.ru.counters.get c ≠ 49151) :
    s.count c = { s with ru := { s.ru with counters := s.ru.counters.set c.val (s.ru.counters.get c + 1) } } := by
  rw [State.count, State.countBy_of_not_crossing (ReportUnit.crosses_one_eq_false hne), ReportUnit.raise_unmasked h]
  rfl

/-- Every report staged in `b` that is no COUNTERS report is staged in `a`. -/
def ReportUnit.AddsCountersOnly (a b : ReportUnit) : Prop :=
  ∀ x ∈ b.staging, x ∈ a.staging ∨ x.kindCode = 6

theorem ReportUnit.AddsCountersOnly.trans {a b c : ReportUnit} (hab : a.AddsCountersOnly b)
    (hbc : b.AddsCountersOnly c) : a.AddsCountersOnly c := fun x hx =>
  (hbc x hx).elim (hab x) .inr

theorem ReportUnit.addsCountersOnly_of_staging {a b : ReportUnit} (h : b.staging = a.staging) :
    a.AddsCountersOnly b := fun _ hx => .inl (h ▸ hx)

theorem ReportUnit.addsCountersOnly_push {mask : BitVec 14} {cause : Option CounterId} {r q : ReportUnit} :
    r.AddsCountersOnly (r.push (q.countersReport mask cause)) := by
  intro x hx
  rcases List.mem_append.mp hx with hx | hx
  · exact .inl hx
  · rw [List.mem_singleton.mp hx]
    exact .inr rfl

@[simp] theorem ReportUnit.raise_staging (mask : BitVec 14) (c : CounterId) (n : Nat) (r : ReportUnit) :
    (r.raise mask c n).staging = r.staging := by
  unfold ReportUnit.raise
  split <;> rfl

@[simp] theorem ReportUnit.dropLast_staging (mask : BitVec 14) (r : ReportUnit) :
    (r.dropLast mask).staging = r.staging := ReportUnit.raise_staging mask reportDrop 1 r

theorem ReportUnit.addsCountersOnly_drop {mask : BitVec 14} {r : ReportUnit} : r.AddsCountersOnly (r.drop mask) := by
  have hlast : r.AddsCountersOnly (r.dropLast mask) := ReportUnit.addsCountersOnly_of_staging (by simp)
  unfold ReportUnit.drop
  dsimp only
  split
  · split
    · exact hlast.trans ReportUnit.addsCountersOnly_push
    · exact ReportUnit.addsCountersOnly_of_staging (by simp)
  · exact hlast

theorem ReportUnit.addsCountersOnly_enqueue {mask m : BitVec 14} {cause : Option CounterId} {r q : ReportUnit} :
    r.AddsCountersOnly (r.enqueue mask (q.countersReport m cause)) := by
  unfold ReportUnit.enqueue
  split
  · exact ReportUnit.addsCountersOnly_push
  · exact ReportUnit.addsCountersOnly_drop

theorem ReportUnit.addsCountersOnly_drain {mask : BitVec 14} {slots fuel : Nat} {r : ReportUnit} :
    r.AddsCountersOnly (r.drain mask slots fuel) := by
  induction fuel generalizing r with
  | zero => exact ReportUnit.addsCountersOnly_of_staging rfl
  | succ fuel ih =>
    unfold ReportUnit.drain
    split
    · exact ReportUnit.addsCountersOnly_of_staging rfl
    · rename_i x rest hs
      split
      · have htail : r.AddsCountersOnly { r with staging := rest } := fun y hy => .inl (hs ▸ List.mem_cons_of_mem x hy)
        exact htail.trans (ReportUnit.addsCountersOnly_drop.trans ih)
      · exact ReportUnit.addsCountersOnly_of_staging rfl

/-- A count stages no report but COUNTERS reports (R181). -/
theorem State.addsCountersOnly_count (c : CounterId) (s : State) : s.ru.AddsCountersOnly (s.count c).ru := by
  have hraised : s.ru.AddsCountersOnly (s.ru.raise s.cu.standing.countMask c 1) :=
    ReportUnit.addsCountersOnly_of_staging (by simp)
  unfold State.count State.countBy
  dsimp only
  split
  · exact hraised.trans (ReportUnit.addsCountersOnly_enqueue.trans ReportUnit.addsCountersOnly_drain)
  · exact hraised

/-- Settles O22: the cases of R15 and R16 by the lock, and then by what the count of FAULT_MISSED meets. -/
theorem faultRaised : Obligations.FaultRaised := by
  refine fun s f => ⟨fun hu => ?_, fun hu hq hr => ?_, fun hl => ⟨?_, fun r hr => ?_⟩, fun hl hm => ?_,
    fun hl hm hne => ?_⟩
  · rw [State.raiseFault_unlocked f hu, State.stage_fault]
  · rw [State.raiseFault_unlocked f hu]
    exact State.stage_of_room hq hr
  · rw [State.raiseFault_locked f hl, State.count_fault]
  · rw [State.raiseFault_locked f hl] at hr
    exact (State.addsCountersOnly_count faultMissed s _ hr).resolve_right (nofun)
  · rw [State.raiseFault_locked f hl, State.count_masked hm]
  · rw [State.raiseFault_locked f hl]
    exact State.count_unmasked hm hne

/-! ## The word in service -/

section Service
variable {s : State} {a : Access} {w : WordItem}

/-- The word in service is the access's next word (R5, R6). -/
theorem State.wordInService_eq (ha : s.upstream = some a) (hw : s.wordInService = some w) :
    w = s.wordAt a a.served := by
  simp only [State.wordInService, ha] at hw
  split at hw
  · exact (Option.some.inj hw).symm
  · exact absurd hw nofun

theorem State.zone_of_wordInService (hw : s.wordInService = some w) : w.zone = zoneOf s.mc.size w.address := by
  cases ha : s.upstream with
  | none => simp [State.wordInService, ha] at hw
  | some a =>
    rw [State.wordInService_eq ha hw]
    rfl

theorem State.wordWritten_some (ha : s.upstream = some a) (handed : List HandOver) :
    s.wordWritten handed = { s with upstream := some (a.wroteWord handed) } := by
  simp [State.wordWritten, ha, Access.wroteWord]

theorem State.wordRead_some (ha : s.upstream = some a) (value : Word) :
    s.wordRead value = { s with upstream := some (a.readWord value) } := by
  simp [State.wordRead, ha, Access.readWord]

theorem State.accessView_some (ha : s.upstream = some a) : s.accessView = a.view := by
  simp [State.accessView, ha]

/-- Counting does not look at the access. -/
theorem State.count_withUpstream (c : CounterId) (u : Option Access) :
    State.count c { s with upstream := u } = { s.count c with upstream := u } := by
  unfold State.count State.countBy
  dsimp only
  split <;> rfl

/-- Nor does a fault. -/
theorem State.raiseFault_withUpstream (f : FaultRecord) (u : Option Access) :
    State.raiseFault f { s with upstream := u } = { s.raiseFault f with upstream := u } := by
  unfold State.raiseFault
  dsimp only
  split
  · exact State.count_withUpstream ..
  · rfl

/-- An access that has raised its fault raises no other (R15). -/
theorem State.wordFault_again (ha : s.upstream = some a) (hf : a.faulted = true) (kind : FaultKind)
    (slot : Option SlotId) : s.wordFault kind slot w = s := by
  simp [State.wordFault, ha, hf]

/-- The first faulting word of an access raises its fault (R15). -/
theorem State.wordFault_first (ha : s.upstream = some a) (hf : a.faulted = false) (kind : FaultKind)
    (slot : Option SlotId) :
    s.wordFault kind slot w =
      { s.raiseFault ⟨false, kind, BitVec.ofNat 32 w.address, if w.isWrite then .write else .read, w.position,
          a.view.pass, slot⟩ with upstream := some { a with faulted := true } } := by
  simp only [State.wordFault, ha, hf]
  exact State.raiseFault_withUpstream ..

/-! ## Unbacked words -/

theorem State.unbackedEffect_again (ha : s.upstream = some a) (hf : a.faulted = true) :
    s.unbackedEffect w = { s with upstream := some (if w.isWrite then a.wroteWord [] else a.readWord 0) } := by
  simp only [State.unbackedEffect, State.wordFault_again ha hf]
  cases w.isWrite
  · exact State.wordRead_some ha 0
  · exact State.wordWritten_some ha []

theorem State.unbackedEffect_first (ha : s.upstream = some a) (hf : a.faulted = false) :
    s.unbackedEffect w =
      { s.raiseFault ⟨false, .unbacked, BitVec.ofNat 32 w.address, if w.isWrite then .write else .read, w.position,
          a.view.pass, none⟩ with
        upstream := some (if w.isWrite then Access.wroteWord { a with faulted := true } []
          else Access.readWord { a with faulted := true } 0) } := by
  simp only [State.unbackedEffect, State.wordFault_first ha hf]
  cases w.isWrite
  · exact State.wordRead_some rfl 0
  · exact State.wordWritten_some rfl []

end Service

/-- Settles O23: the word is in the UNBACKED zone, and its access has raised a fault or not. -/
theorem unbackedWord : Obligations.UnbackedWord := by
  intro s a w ha hw lo hi
  have hzone : w.zone = .unbacked := (State.zone_of_wordInService hw).trans (zoneOf_unbacked lo (by omega))
  refine ⟨_, serve_next hw (decide_eq_true hzone), State.unbackedEffect_mem .., fun hf => ?_, fun hf => ?_⟩
  · exact State.settles_of_eq (State.unbackedEffect_again ha hf)
  · exact State.settles_of_eq (State.unbackedEffect_first ha hf)

end Sys2Proof.Machine

/-! # Intake and view words (R12 to R14). -/

namespace Sys2Proof.Machine

/-! ## Intake words -/

theorem intakeFrame_none {pass : PassState} {strip : Option StripRecord} (hs : pass ≠ .surveying)
    (hc : pass ≠ .capturing) : intakeFrame pass strip = none := by
  cases pass
  case surveying => exact absurd rfl hs
  case capturing => exact absurd rfl hc
  all_goals rfl

section Intake
variable {s : State} {a : Access} {w : WordItem} {o : Nat}

theorem zone_of_intake (hw : s.wordInService = some w) (hadd : w.address = 0x20000000 + o) (ho : o < 0x10000000) :
    w.zone = .intake :=
  (State.zone_of_wordInService hw).trans (zoneOf_intake (by omega) (by omega))

theorem intakeOffset_of_eq {address : Nat} (hadd : address = 0x20000000 + o) (ho : o < 0x10000000) :
    intakeOffset address = o := by
  simp only [intakeOffset]
  omega

/-- The pass and the strip of a view have an intake frame in SURVEYING and CAPTURING alone, by the strip (R11). -/
def AccessView.Frames (v : AccessView) (f : IntakeFrame) : Prop :=
  ∃ r, v.strip = some r ∧ intakeFrame v.pass v.strip = some f

theorem AccessView.frames_of_surveying {v : AccessView} {r : StripRecord} (hp : v.pass = .surveying)
    (hr : v.strip = some r) : v.Frames ⟨r.surveyPitch, r.surveyWidth, r.surveyRows⟩ :=
  ⟨r, hr, by rw [hp, hr]; rfl⟩

theorem AccessView.frames_of_capturing {v : AccessView} {r : StripRecord} (hp : v.pass = .capturing)
    (hr : v.strip = some r) : v.Frames ⟨r.capturePitch, r.captureWidth, r.captureRows⟩ :=
  ⟨r, hr, by rw [hp, hr]; rfl⟩

/-- Outside the two passes an INTAKE write raises INTAKE_IDLE (R12). -/
theorem State.intakeWriteEffect_idle (ha : s.upstream = some a) (hs : a.view.pass ≠ .surveying)
    (hc : a.view.pass ≠ .capturing) :
    s.intakeWriteEffect w = (s.wordFault .intakeIdle none w).wordWritten [] := by
  simp only [State.intakeWriteEffect, State.accessView_some ha, intakeFrame_none hs hc]

/-- A word at or above the declared rows is counted and dropped (R12). -/
theorem State.intakeWriteEffect_overrun {f : IntakeFrame} (ha : s.upstream = some a) (hf : a.view.Frames f)
    (hrow : f.rows ≤ (f.place (intakeOffset w.address)).row) :
    s.intakeWriteEffect w = s.countOverrun.wordWritten [] := by
  obtain ⟨r, hr, hf⟩ := hf
  simp only [State.intakeWriteEffect, State.accessView_some ha, hf]
  simp only [hr, hrow, if_true]

/-- A word beyond the declared width of a declared row is padding (R12). -/
theorem State.intakeWriteEffect_padding {f : IntakeFrame} (ha : s.upstream = some a) (hf : a.view.Frames f)
    (hrow : (f.place (intakeOffset w.address)).row < f.rows) (hcol : f.width ≤ (f.place (intakeOffset w.address)).col) :
    s.intakeWriteEffect w = s.wordWritten [] := by
  obtain ⟨r, hr, hf⟩ := hf
  simp only [State.intakeWriteEffect, State.accessView_some ha, hf]
  simp only [hr, hcol, if_true, if_neg (Nat.not_le.mpr hrow)]

theorem State.countOverrun_again (ha : s.upstream = some a) (hc : a.overCounted = true) : s.countOverrun = s := by
  simp [State.countOverrun, ha, hc]

theorem State.countOverrun_first (ha : s.upstream = some a) (hc : a.overCounted = false) :
    s.countOverrun = { s.count rowOverrun with upstream := some { a with overCounted := true } } := by
  simp only [State.countOverrun, ha, hc]
  exact State.count_withUpstream ..

end Intake

/-- Settles O24: R12's cases in their order, with the frame of the access's pass. -/
theorem intakeWriteDropped : Obligations.IntakeWriteDropped := by
  intro s a w o ha hw hwrite hadd ho
  have hzone := zone_of_intake hw hadd ho
  refine ⟨_, serve_next hw (by simp [hzone, hwrite]), fun hs hc => ⟨fun hf => ?_, fun hf => ?_⟩,
    fun pitch width rows hpass => ?_⟩
  · refine State.settles_of_eq ?_
    rw [State.intakeWriteEffect_idle ha hs hc, State.wordFault_again ha hf, State.wordWritten_some ha]
  · refine State.settles_of_eq ?_
    rw [State.intakeWriteEffect_idle ha hs hc, State.wordFault_first ha hf, State.wordWritten_some rfl]
    simp [hwrite]
  · have hframe : a.view.Frames ⟨pitch, width, rows⟩ := by
      rcases hpass with ⟨r, hp, hr, rfl, rfl, rfl⟩ | ⟨r, hp, hr, rfl, rfl, rfl⟩
      · exact AccessView.frames_of_surveying hp hr
      · exact AccessView.frames_of_capturing hp hr
    have hoff := intakeOffset_of_eq hadd ho
    refine ⟨fun hrow hc => ?_, fun hrow hc => ?_, fun hrow hcol => ?_⟩
    · refine State.settles_of_eq ?_
      rw [State.intakeWriteEffect_overrun ha hframe (by rwa [hoff]), State.countOverrun_again ha hc,
        State.wordWritten_some ha]
    · refine State.settles_of_eq ?_
      rw [State.intakeWriteEffect_overrun ha hframe (by rwa [hoff]), State.countOverrun_first ha hc,
        State.wordWritten_some rfl]
    · refine State.settles_of_eq ?_
      rw [State.intakeWriteEffect_padding ha hframe (by rwa [hoff]) (by rwa [hoff]), State.wordWritten_some ha]

section IntakeValue
variable {s : State} {a : Access} {r : StripRecord} {address o : Nat}

theorem State.intakeValue_idle (ha : s.upstream = some a) (hs : a.view.pass ≠ .surveying)
    (hc : a.view.pass ≠ .capturing) : s.intakeValue address = 0 := by
  simp only [State.intakeValue, State.accessView_some ha, intakeFrame_none hs hc]

/-- In SURVEYING an intake read finds the survey word of a declared place (R13, R49). -/
theorem State.intakeValue_surveying (ha : s.upstream = some a) (hp : a.view.pass = .surveying)
    (hr : a.view.strip = some r) (ho : intakeOffset address = o) :
    s.intakeValue address = if o / r.surveyPitch < r.surveyRows ∧ o % r.surveyPitch / 8 < r.surveyWidth then
        s.mem.readWord (r.surveyBase + o / r.surveyPitch * r.surveyPitch + o % r.surveyPitch / 8 * 8 + o % 8 / 4 * 4)
      else 0 := by
  simp only [State.intakeValue, State.accessView_some ha, hp, hr, ho, intakeFrame, IntakeFrame.declares,
    IntakeFrame.place, Bool.and_eq_true, decide_eq_true_eq]

/-- In CAPTURING an intake read beyond the declared rows or width finds nothing (R13). -/
theorem State.intakeValue_undeclared (ha : s.upstream = some a) (hp : a.view.pass = .capturing)
    (hr : a.view.strip = some r) (ho : intakeOffset address = o)
    (hout : r.captureRows ≤ o / r.capturePitch ∨ r.captureWidth ≤ o % r.capturePitch / 8) :
    s.intakeValue address = 0 := by
  have hdecl : ¬(o / r.capturePitch < r.captureRows ∧ o % r.capturePitch / 8 < r.captureWidth) := by omega
  simp only [State.intakeValue, State.accessView_some ha, hp, hr, ho, intakeFrame, IntakeFrame.declares,
    IntakeFrame.place, Bool.and_eq_true, decide_eq_true_eq, if_neg hdecl]

/-- Nor does one of a place that no slot routes (R13, R51). -/
theorem State.intakeValue_unrouted (ha : s.upstream = some a) (hp : a.view.pass = .capturing)
    (hr : a.view.strip = some r) (ho : intakeOffset address = o)
    (hroute : routeOf s.fl.slots (o / r.capturePitch) (o % r.capturePitch / 8) = none) :
    s.intakeValue address = 0 := by
  simp only [State.intakeValue, State.accessView_some ha, hp, hr, ho, intakeFrame, IntakeFrame.place, hroute, ite_self]

/-- An intake read of a declared, routed place finds the band word where the row is resident (R13, R51). -/
theorem State.intakeValue_routed {v : SlotId} (ha : s.upstream = some a) (hp : a.view.pass = .capturing)
    (hr : a.view.strip = some r) (ho : intakeOffset address = o) (hrow : o / r.capturePitch < r.captureRows)
    (hcol : o % r.capturePitch / 8 < r.captureWidth)
    (hroute : routeOf s.fl.slots (o / r.capturePitch) (o % r.capturePitch / 8) = some v) :
    s.intakeValue address = if (s.slot v).isResident (o / r.capturePitch - (s.slot v).top) then
        s.mem.readWord ((s.slot v).bandAddress ((o / r.capturePitch - (s.slot v).top) % (s.slot v).bandLines)
          (o % r.capturePitch / 8 - (s.slot v).left) (o % 8 / 4))
      else 0 := by
  simp only [State.intakeValue, State.accessView_some ha, hp, hr, ho, intakeFrame, IntakeFrame.declares,
    IntakeFrame.place, hroute, hrow, hcol, decide_true, Bool.and_self, if_true]

end IntakeValue

/-- Settles O28: the value by the access's pass. -/
theorem intakeRead : Obligations.IntakeRead := by
  intro s a w o ha hw hread hadd ho
  have hzone := zone_of_intake hw hadd ho
  have hoff := intakeOffset_of_eq hadd ho
  refine ⟨_, s.intakeValue w.address, serve_next hw (by simp [hzone, hread]),
    State.settles_of_eq (State.wordRead_some ha _), fun hs hc => State.intakeValue_idle ha hs hc,
    fun r hp hr => State.intakeValue_surveying ha hp hr hoff, fun r hp hr => ?_⟩
  refine ⟨fun hout => ?_, ?_⟩
  · rcases hout with hrow | hcol | hroute
    · exact State.intakeValue_undeclared ha hp hr hoff (.inl hrow)
    · exact State.intakeValue_undeclared ha hp hr hoff (.inr hcol)
    · exact State.intakeValue_unrouted ha hp hr hoff hroute
  · rintro v x hrow hcol hroute rfl
    exact State.intakeValue_routed ha hp hr hoff hrow hcol hroute

/-! ## View words -/

section View
variable {s : State} {a : Access} {w : WordItem} {v : SlotId} {o : Nat}

theorem slotOfByte_val (v : SlotId) : slotOfByte v.val = v := by
  apply Fin.ext
  simp [slotOfByte, Fin.ofNat, Nat.mod_eq_of_lt v.isLt]

/-- The decode of a view address from its window and offset (R14). -/
theorem AccessView.place_of_eq (view : AccessView) {address : Nat}
    (hadd : address = 0x30000000 + v.val * 0x02000000 + o) (ho : o < 0x02000000) :
    view.place address = ⟨v, o / (view.slots.get v).bandPitch, o % (view.slots.get v).bandPitch / 8, o % 8 / 4⟩ := by
  have hv := v.isLt
  have hslot : viewOffset address / Config.windowBytes = v.val := by simp only [viewOffset, Config.windowBytes]; omega
  have hoff : viewOffset address % Config.windowBytes = o := by simp only [viewOffset, Config.windowBytes]; omega
  simp only [AccessView.place, hslot, hoff, slotOfByte_val]

/-- A VACANT slot answers zero and raises VIEW_VACANT (R14). -/
theorem State.viewReadEffect_vacant (ha : s.upstream = some a) {p : ViewPlace} (hp : a.view.place w.address = p)
    (hv : (a.view.slots.get p.slot).state = .vacant) :
    s.viewReadEffect w = (s.wordFault .viewVacant (some p.slot) w).wordRead 0 := by
  simp only [State.viewReadEffect, State.accessView_some ha, hp, hv, if_true]

/-- Beyond the band lines or the width a view word is zero (R14). -/
theorem State.viewReadEffect_outside (ha : s.upstream = some a) {p : ViewPlace} (hp : a.view.place w.address = p)
    (hv : (a.view.slots.get p.slot).state ≠ .vacant)
    (hout : (a.view.slots.get p.slot).bandLines ≤ p.line ∨ (a.view.slots.get p.slot).width ≤ p.column) :
    s.viewReadEffect w = s.wordRead 0 := by
  simp only [State.viewReadEffect, State.accessView_some ha, hp, if_neg hv, if_pos hout]

/-- Within them it is the word of the pixel's computation (R14, R126). -/
theorem State.viewReadEffect_inside (ha : s.upstream = some a) {p : ViewPlace} (hp : a.view.place w.address = p)
    (hv : (a.view.slots.get p.slot).state ≠ .vacant) (hline : p.line < (a.view.slots.get p.slot).bandLines)
    (hcol : p.column < (a.view.slots.get p.slot).width) :
    s.viewReadEffect w = (s.compute p).wordRead ((s.compute p).computedWord p) := by
  have hin : ¬((a.view.slots.get p.slot).bandLines ≤ p.line ∨ (a.view.slots.get p.slot).width ≤ p.column) := by omega
  simp only [State.viewReadEffect, State.accessView_some ha, hp, if_neg hv, if_neg hin]

/-- The computation the access has kept is of the place (R126). -/
def Access.Keeps (a : Access) (p : ViewPlace) (k : Computation) : Prop :=
  a.computation = some k ∧ k.slot = p.slot ∧ k.line = p.line ∧ k.column = p.column

theorem State.compute_again (ha : s.upstream = some a) {p : ViewPlace} {k : Computation} (hk : a.Keeps p k) :
    s.compute p = s := by
  obtain ⟨hk, hslot, hline, hcol⟩ := hk
  simp [State.compute, ha, hk, hslot, hline, hcol]

/-- The event of a computation counted, if it has one (R147). -/
def State.countedEvent (event : Option CounterId) (s : State) : State :=
  match event with
  | some c => s.count c
  | none => s

/-- A computation not yet kept is made, kept and its event counted (R126, R147). -/
theorem State.compute_first (ha : s.upstream = some a) {p : ViewPlace} (hk : ∀ k, ¬a.Keeps p k) :
    s.compute p =
      { s.countedEvent (mend s.mem a.view p.slot p.line p.column).event with
        upstream := some { a with
          computation := some ⟨p.slot, p.line, p.column, (mend s.mem a.view p.slot p.line p.column).pixel⟩ } } := by
  unfold State.compute
  rw [ha]
  dsimp only
  rw [if_neg]
  · cases (mend s.mem a.view p.slot p.line p.column).event with
    | none => rfl
    | some c => exact State.count_withUpstream c _
  · cases hc : a.computation with
    | none => exact Bool.false_ne_true
    | some k =>
      have hother := hk k
      simp only [Access.Keeps, hc, true_and] at hother
      simpa [and_assoc] using hother

theorem State.computedWord_of_upstream (ha : s.upstream = some a) {p : ViewPlace} {k : Computation}
    (hk : a.computation = some k) : s.computedWord p = k.pixel.word p.word := by
  simp [State.computedWord, ha, hk]

/-- A view word within an occupied slot's band whose pixel the access has computed (R126). -/
theorem State.viewReadEffect_again (ha : s.upstream = some a) {p : ViewPlace} (hp : a.view.place w.address = p)
    (hv : (a.view.slots.get p.slot).state ≠ .vacant) (hline : p.line < (a.view.slots.get p.slot).bandLines)
    (hcol : p.column < (a.view.slots.get p.slot).width) {k : Computation} (hk : a.Keeps p k) :
    s.viewReadEffect w = { s with upstream := some (a.readWord (k.pixel.word p.word)) } := by
  rw [State.viewReadEffect_inside ha hp hv hline hcol, State.compute_again ha hk,
    State.computedWord_of_upstream ha hk.1, State.wordRead_some ha]

/-- One whose pixel it has not (R126, R147). -/
theorem State.viewReadEffect_first (ha : s.upstream = some a) {p : ViewPlace} (hp : a.view.place w.address = p)
    (hv : (a.view.slots.get p.slot).state ≠ .vacant) (hline : p.line < (a.view.slots.get p.slot).bandLines)
    (hcol : p.column < (a.view.slots.get p.slot).width) (hk : ∀ k, ¬a.Keeps p k) {m : MendResult}
    (hm : mend s.mem a.view p.slot p.line p.column = m) :
    s.viewReadEffect w = { s.countedEvent m.event with
      upstream := some (Access.readWord { a with computation := some ⟨p.slot, p.line, p.column, m.pixel⟩ }
        (m.pixel.word p.word)) } := by
  rw [State.viewReadEffect_inside ha hp hv hline hcol, State.compute_first ha hk, hm,
    State.computedWord_of_upstream rfl rfl, State.wordRead_some rfl]

end View

/-- Settles O29: R14's cases by the slot's state, the place and the computation kept. -/
theorem viewWords : Obligations.ViewWords := by
  constructor
  · rintro s a w v o line col x ha hw hread hadd ho rfl rfl rfl
    have hv := v.isLt
    have hzone : w.zone = .view := (State.zone_of_wordInService hw).trans (zoneOf_view (by omega))
    have hp := a.view.place_of_eq hadd ho
    refine ⟨_, serve_next hw (by simp [hzone, hread]), State.viewReadEffect_mem .., fun hvac hf => ?_,
      fun hvac hf => ?_, fun hocc hout => ?_, fun hocc hline hcol => ⟨fun k hk hslot hkl hkc => ?_, fun hnone => ?_⟩⟩
    · refine State.settles_of_eq ?_
      rw [State.viewReadEffect_vacant ha hp hvac, State.wordFault_again ha hf, State.wordRead_some ha]
    · refine State.settles_of_eq ?_
      rw [State.viewReadEffect_vacant ha hp hvac, State.wordFault_first ha hf, State.wordRead_some rfl]
      simp [hread]
    · refine State.settles_of_eq ?_
      rw [State.viewReadEffect_outside ha hp hocc hout, State.wordRead_some ha]
    · exact State.settles_of_eq (State.viewReadEffect_again ha hp hocc hline hcol ⟨hk, hslot, hkl, hkc⟩)
    · exact State.settles_of_eq
        (State.viewReadEffect_first ha hp hocc hline hcol (fun k hk => hnone k hk.1 hk.2) rfl)
  · intro s a w ha hw hwrite hadd
    have hzone : w.zone = .view := (State.zone_of_wordInService hw).trans (zoneOf_view hadd)
    exact ⟨_, serve_next hw (by simp [hzone, hwrite]), State.settles_of_eq (State.wordWritten_some ha [])⟩

end Sys2Proof.Machine

/-! # Plain and bulletin words, and what CU does with them (R5, R7, R8, R20, R21). -/

namespace Sys2Proof.Machine

/-! ## Words in memory -/

/-- A byte of a word that memory holds is the byte at its place (R199). -/
theorem Memory.readWord_byte (m : Memory) (a k : Nat) (hk : k < 4) :
    (m.readWord a).toNat / 256 ^ k % 256 = (m.read (a + k)).toNat := by
  have h0 := (m.read a).isLt
  have h1 := (m.read (a + 1)).isLt
  have h2 := (m.read (a + 2)).isLt
  have h3 := (m.read (a + 3)).isLt
  have hword : (m.readWord a).toNat = (m.read a).toNat + 256 * (m.read (a + 1)).toNat
      + 65536 * (m.read (a + 2)).toNat + 16777216 * (m.read (a + 3)).toNat := by
    rw [Memory.readWord, wordOf, BitVec.toNat_ofNat]
    exact Nat.mod_eq_of_lt (by omega)
  rw [hword]
  have : k = 0 ∨ k = 1 ∨ k = 2 ∨ k = 3 := by omega
  rcases this with rfl | rfl | rfl | rfl
  · simp only [Nat.add_zero, Nat.pow_zero, Nat.div_one]; omega
  all_goals omega

/-- The memory after a beat is written holds that beat. -/
theorem Memory.holdsBeat_writeBeat {m : Memory} {a : Nat} {b : Beat} : m.HoldsBeat (m.writeBeat a b) a b :=
  Memory.read_writeBeat m a b

/-! ## Plain words -/

theorem ListWriter.watchedWord_eq_some {w : ListWriter} {a : Nat} :
    w.watchedWord = some a ↔ w.state ≠ .unchained ∧ w.current = some a := by
  cases hs : w.state <;> simp [ListWriter.watchedWord, hs]

theorem State.offersListWriter_eq (s : State) (a : Nat) :
    s.offersListWriter a = if s.lw.state ≠ .unchained ∧ s.lw.current = some a then [.listWriter] else [] := by
  simp only [State.offersListWriter, ListWriter.watchedWord_eq_some]

theorem State.plainWriteEffect_eq {s : State} {a : Access} (ha : s.upstream = some a) (w : WordItem) :
    s.plainWriteEffect w = { s with
      mem := s.mem.writeBeat w.address w.beat
      upstream := some (a.wroteWord (s.offersListWriter w.address)) } :=
  State.wordWritten_some (s := { s with mem := s.mem.writeBeat w.address w.beat }) ha _

/-- A read of the newest written slot in READ mode acknowledges (R178). -/
theorem ReportUnit.acknowledgeRead_newest {r : ReportUnit} {st : Settings} {a n : Nat}
    (hmode : st.attentionMode = .read) (hn : r.newest = some n) (lo : st.ringBase + 32 * n ≤ a)
    (hi : a < st.ringBase + 32 * n + 32) :
    r.acknowledgeRead st a = { r with attention := false, timer := none, ackThrough := r.produced } := by
  simp [ReportUnit.acknowledgeRead, ReportUnit.release, hmode, hn, lo, hi]

/-- Any other read leaves the Report Unit as it is (R178). -/
theorem ReportUnit.acknowledgeRead_other {r : ReportUnit} {st : Settings} {a : Nat}
    (h : st.attentionMode = .take ∨ r.newest = none
      ∨ ∃ n, r.newest = some n ∧ ¬(st.ringBase + 32 * n ≤ a ∧ a < st.ringBase + 32 * n + 32)) :
    r.acknowledgeRead st a = r := by
  cases hmode : st.attentionMode with
  | take => simp [ReportUnit.acknowledgeRead, hmode]
  | read =>
    rcases h with ht | hn | ⟨n, hn, hout⟩
    · rw [hmode] at ht; cases ht
    · simp [ReportUnit.acknowledgeRead, hmode, hn]
    · simp [ReportUnit.acknowledgeRead, hmode, hn, if_neg hout]

/-- What a word read by PLAIN_READ does to the Report Unit: a PLAIN word is offered to it, a BULLETIN word is not
(R178). -/
def State.ruAfterRead (s : State) (w : WordItem) : ReportUnit :=
  if w.zone = .plain then s.ru.acknowledgeRead s.cu.standing w.address else s.ru

theorem State.plainReadEffect_eq {s : State} {a : Access} (ha : s.upstream = some a) (w : WordItem) :
    s.plainReadEffect w = { s with
      upstream := some (a.readWord (s.mem.readWord w.address))
      ru := s.ruAfterRead w } := by
  rw [State.plainReadEffect, State.wordRead_some ha]
  cases hz : w.zone <;> simp [State.ruAfterRead, hz]

/-- Settles O17: the write reaches memory, the read is of memory, and a PLAIN read is offered to RU. -/
theorem plainWords : Obligations.PlainWords := by
  intro s a w ha hw
  constructor
  · intro hzone hwrite
    refine ⟨_, serve_next hw (by simp [hzone, hwrite]), State.settles_of_eq ?_, ?_⟩
    · rw [State.plainWriteEffect_eq ha, State.offersListWriter_eq]
      rfl
    · rw [State.plainWriteEffect_eq ha]
      exact Memory.holdsBeat_writeBeat
  · intro hzone hread
    refine ⟨_, s.mem.readWord w.address, s.ruAfterRead w, serve_next hw (by simp [hzone, hread]),
      State.settles_of_eq (State.plainReadEffect_eq ha w), fun k hk => Memory.readWord_byte _ _ k hk,
      fun n hplain hmode hn lo hi => ?_, fun hother => ?_⟩
    · rw [State.ruAfterRead, if_pos hplain]
      exact ReportUnit.acknowledgeRead_newest hmode hn lo hi
    · unfold State.ruAfterRead
      rcases hother with hb | hother
      · rw [if_neg (by rw [hb]; nofun)]
      · split
        · exact ReportUnit.acknowledgeRead_other hother
        · rfl

/-! ## What CU does with a word -/

section Snoop
variable {s : State} {offset : Nat} {b : Beat}

theorem beat_isFull_iff {b : Beat} : b.isFull = true ↔ b.enables = 0xF#4 := beq_iff_eq

/-- A post word posts: full, with bytes 1 to 3 zero (R21). -/
def PostWord (b : Beat) : Prop := b.enables = 0xF#4 ∧ b.data.toNat < 256

theorem not_postWord {b : Beat} (h : b.enables ≠ 0xF#4 ∨ 256 ≤ b.data.toNat) : ¬PostWord b :=
  fun hp => h.elim (· hp.1) fun hb => absurd hp.2 (Nat.not_lt.mpr hb)

theorem State.commandSnoop_record (h : offset < 0x100) :
    s.commandSnoop offset b = { s with cu := { s.cu with shadow := s.cu.shadow.writeBeat offset b } } := if_pos h

theorem State.commandSnoop_post (h : offset = 0x100) (hb : PostWord b) :
    s.commandSnoop offset b = { s with cu := { s.cu with posted := some (BitVec.ofNat 8 b.data.toNat) } } := by
  have hfull := beat_isFull_iff.mpr hb.1
  simp [State.commandSnoop, h, hfull, hb.2, Word.byte]

theorem State.commandSnoop_reject (h : offset = 0x100) (hb : ¬PostWord b) :
    s.commandSnoop offset b = s.count bulletinReject := by
  have hfull : (b.isFull && decide (b.data.toNat < 256)) = false := by
    rw [Bool.eq_false_iff]
    intro hp
    simp only [Bool.and_eq_true, beat_isFull_iff, decide_eq_true_eq] at hp
    exact hb hp
  simp [State.commandSnoop, h, hfull]

theorem State.commandSnoop_beyond (h : 0x100 < offset) : s.commandSnoop offset b = s := by
  rw [State.commandSnoop, if_neg (by omega), if_neg (by omega)]

end Snoop

/-- CU acts on the last word served when its hand-over is the next (R5). -/
theorem State.runCommandUnit_next {s : State} {a : Access} {rest : List HandOver} (ha : s.upstream = some a)
    (hh : a.handed = .commandUnit :: rest) :
    s.runCommandUnit = State.commandSnoop (s.bulletinOffset (wordAddress a.req (a.served - 1)))
      (requestBeat a.req (a.served - 1)) { s with upstream := some { a with handed := rest } } := by
  simp [State.runCommandUnit, State.wordHanded, ha, hh, State.wordAt]

theorem State.runCommandUnit_idle {s : State} {a : Access} (ha : s.upstream = some a)
    (hh : a.handed.head? ≠ some .commandUnit) : s.runCommandUnit = s := by
  rcases ho : a.handed with _ | ⟨_ | _ | _, rest⟩
  case cons.commandUnit => rw [ho] at hh; exact absurd rfl hh
  all_goals simp [State.runCommandUnit, State.wordHanded, ha, ho]

theorem State.bulletinOffset_of_eq {s : State} {address offset : Nat} (hs : 4096 ≤ s.mc.size)
    (h : address + 4096 = s.mc.size + offset) : s.bulletinOffset address = offset := by
  have hbase := bulletinBase_add hs
  simp only [State.bulletinOffset]
  omega

/-! ## Bulletin writes -/

section Bulletin
variable {s : State} {a : Access} {w : WordItem} {offset : Nat}

/-- The state as a BULLETIN write has reached memory and its hand-overs `handed` are to be acted on. -/
def State.bulletinStored (s : State) (a : Access) (w : WordItem) (handed : List HandOver) : State :=
  { s with mem := s.mem.writeBeat w.address w.beat, upstream := some (a.wroteWord handed) }

theorem State.bulletinWriteEffect_eq (ha : s.upstream = some a) :
    s.bulletinWriteEffect w = (s.bulletinStored a w (s.bulletinHandOvers w.address)).runCommandUnit := by
  rw [State.bulletinWriteEffect, State.wordWritten_some (s := { s with mem := s.mem.writeBeat w.address w.beat }) ha]
  rfl

/-- CU acts on the word just stored when it comes first (R5). -/
theorem State.bulletinStored_snooped (hw : w = s.wordAt a a.served) (rest : List HandOver) :
    (s.bulletinStored a w (.commandUnit :: rest)).runCommandUnit
      = State.commandSnoop (s.bulletinOffset w.address) w.beat (s.bulletinStored a w rest) := by
  subst hw
  rw [State.runCommandUnit_next rfl rfl]
  simp only [Access.wroteWord, Nat.add_sub_cancel]
  rfl

/-- A write of the watched word waits for LW (R5). -/
theorem State.bulletinWriteEffect_watched (ha : s.upstream = some a) (ho : s.bulletinOffset w.address = offset)
    (hl : s.lw.state ≠ .unchained ∧ s.lw.current = some w.address) :
    s.bulletinWriteEffect w = s.bulletinStored a w
      (.listWriter :: ((if offset < 0x108 then [.commandUnit] else [])
        ++ if offset = 0x104 then [.reportUnit] else [])) := by
  rw [State.bulletinWriteEffect_eq ha, State.bulletinHandOvers, State.offersListWriter_eq, if_pos hl, ho]
  simp only [List.cons_append, List.nil_append]
  exact State.runCommandUnit_idle rfl nofun

/-- In the command record, at the post word and at the taken count CU acts at once unless LW waits (R5, R8). -/
theorem State.bulletinWriteEffect_snooped (ha : s.upstream = some a) (hw : w = s.wordAt a a.served)
    (ho : s.bulletinOffset w.address = offset) (hl : ¬(s.lw.state ≠ .unchained ∧ s.lw.current = some w.address))
    (hin : offset < 0x108) :
    s.bulletinWriteEffect w = State.commandSnoop offset w.beat
      (s.bulletinStored a w (if offset = 0x104 then [.reportUnit] else [])) := by
  rw [State.bulletinWriteEffect_eq ha, State.bulletinHandOvers, State.offersListWriter_eq, if_neg hl, ho, if_pos hin]
  simp only [List.cons_append, List.nil_append]
  rw [State.bulletinStored_snooped hw, ho]

/-- Elsewhere in the bulletin nothing more happens (R8). -/
theorem State.bulletinWriteEffect_elsewhere (ha : s.upstream = some a) (ho : s.bulletinOffset w.address = offset)
    (hl : ¬(s.lw.state ≠ .unchained ∧ s.lw.current = some w.address)) (hout : 0x108 ≤ offset) :
    s.bulletinWriteEffect w = s.bulletinStored a w [] := by
  rw [State.bulletinWriteEffect_eq ha, State.bulletinHandOvers, State.offersListWriter_eq, if_neg hl, ho,
    if_neg (by omega), if_neg (by omega)]
  exact State.runCommandUnit_idle rfl nofun

theorem State.bulletinWriteEffect_mem (ha : s.upstream = some a) :
    (s.bulletinWriteEffect w).mem = s.mem.writeBeat w.address w.beat := by
  rw [State.bulletinWriteEffect_eq ha, State.runCommandUnit_mem]
  rfl

end Bulletin

/-- Settles O18: the hand-overs by the watched word, and CU's part by the offset. -/
theorem bulletinWrite : Obligations.BulletinWrite := by
  intro s a w offset ha hw hzone hwrite hs hoff
  have ho := State.bulletinOffset_of_eq hs hoff
  have hword := State.wordInService_eq ha hw
  have hmem : (s.bulletinWriteEffect w).settleRequests.mem = s.mem.writeBeat w.address w.beat :=
    State.bulletinWriteEffect_mem ha
  refine ⟨_, serve_next hw (by simp [hzone, hwrite]), ?_, fun hl hc => ?_, fun hl => ?_⟩
  · rw [hmem]
    exact Memory.holdsBeat_writeBeat
  · rw [hmem]
    exact State.settles_of_eq (State.bulletinWriteEffect_watched ha ho ⟨hl, hc⟩)
  · have hl : ¬(s.lw.state ≠ .unchained ∧ s.lw.current = some w.address) :=
      fun h => hl.elim h.1 (· h.2)
    have hsnoop := State.bulletinWriteEffect_snooped ha hword ho hl
    rw [hmem]
    refine ⟨fun hrec => ?_, fun hpost hfull hzero => ?_, fun hpost hbad => ?_, fun htaken => ?_, fun hout => ?_⟩
    · rw [State.commandSnoop_record hrec, if_neg (by omega)] at hsnoop
      rw [hsnoop (by omega)]
      exact ⟨State.settles_of_eq rfl, Memory.holdsBeat_writeBeat⟩
    · rw [State.commandSnoop_post hpost ⟨hfull, hzero⟩, if_neg (by omega)] at hsnoop
      exact State.settles_of_eq (hsnoop (by omega))
    · rw [State.commandSnoop_reject hpost (not_postWord hbad), if_neg (by omega)] at hsnoop
      exact State.settles_of_eq (hsnoop (by omega))
    · rw [State.commandSnoop_beyond (by omega), if_pos htaken] at hsnoop
      exact State.settles_of_eq (hsnoop (by omega))
    · exact State.settles_of_eq (State.bulletinWriteEffect_elsewhere ha ho hl hout)

end Sys2Proof.Machine

/-! # The watched word (R160, R161), and the posts that look up or clear (R17, R124, R182). -/

namespace Sys2Proof.Machine

/-! ## The watched word -/

section Watched
variable {s u : State} {b : Beat}

theorem State.watchedWrite_ignored (h : b.enables ≠ 0xF#4 ∨ b.data.toNat = 0 ∨ s.lw.state = .unchained) :
    s.watchedWrite b = s := by
  unfold State.watchedWrite
  dsimp only
  split
  · rename_i hb
    simp only [Bool.and_eq_true, beat_isFull_iff, decide_eq_true_eq] at hb
    simp [h.resolve_left (not_not_intro hb.1) |>.resolve_left hb.2]
  · rfl

/-- In LOADING and FILLING a full write of another value than 0 replaces the copy of next (R161). -/
theorem State.watchedWrite_attached (hb : b.enables = 0xF#4) (hv : b.data.toNat ≠ 0)
    (hs : s.lw.state = .loading ∨ s.lw.state = .filling) :
    s.watchedWrite b
      = { s with lw := { s.lw with copy := s.lw.copy.map fun d => { d with next := b.data.toNat } } } := by
  rcases hs with hs | hs <;> simp [State.watchedWrite, beat_isFull_iff.mpr hb, hv, hs]

/-- In STALLED it resumes the writer, or stalls it again (R161). -/
theorem State.watchedWrite_stalled (hb : b.enables = 0xF#4) (hv : b.data.toNat ≠ 0) (hs : s.lw.state = .stalled) :
    s.watchedWrite b = if usableAddress s.mc.size b.data.toNat then { s with lw := s.lw.goTo b.data.toNat }
      else s.stallOn (s.lw.current.getD 0) b.data.toNat := by
  simp [State.watchedWrite, beat_isFull_iff.mpr hb, hv, hs]

/-- The four cases of a write of the watched word (R160, R161). -/
theorem State.watchedWrite_cases (s : State) (b : Beat) :
    (b.enables ≠ 0xF#4 ∨ b.data.toNat = 0 ∨ s.lw.state = .unchained)
      ∨ b.enables = 0xF#4 ∧ b.data.toNat ≠ 0
        ∧ ((s.lw.state = .loading ∨ s.lw.state = .filling) ∨ s.lw.state = .stalled) := by
  by_cases hb : b.enables = 0xF#4
  · by_cases hv : b.data.toNat = 0
    · exact .inl (.inr (.inl hv))
    · cases s.lw.state <;> simp [hb, hv]
  · exact .inl (.inl hb)

theorem usableAddress_iff {size a : Nat} : usableAddress size a = true ↔ a ≠ 0 ∧ a % 32 = 0 ∧ a < size := by
  simp [usableAddress, multipleOf, and_assoc]

/-- What the manual says of a write of the watched word fixes its effect (R160, R161). -/
theorem State.LinkWritten.eq (h : s.LinkWritten b u) : u = s.watchedWrite b := by
  obtain ⟨hign, hnext, huse, hstall⟩ := h
  rcases s.watchedWrite_cases b with hi | ⟨hb, hv, hs | hs⟩
  · rw [hign hi, State.watchedWrite_ignored hi]
  · rw [hnext hb hv hs, State.watchedWrite_attached hb hv hs]
  · rw [State.watchedWrite_stalled hb hv hs]
    split
    · rename_i hu
      obtain ⟨-, hmul, hlt⟩ := usableAddress_iff.mp hu
      exact huse hb hv hs hmul hlt
    · rename_i hu
      rw [usableAddress_iff] at hu
      exact hstall hb hv hs (by omega)

/-- LW does not look at the access. -/
theorem State.watchedWrite_withUpstream (up : Option Access) :
    State.watchedWrite b { s with upstream := up } = { s.watchedWrite b with upstream := up } := by
  rcases s.watchedWrite_cases b with hi | ⟨hb, hv, hs | hs⟩
  · rw [State.watchedWrite_ignored hi]
    exact State.watchedWrite_ignored hi
  · rw [State.watchedWrite_attached hb hv hs]
    exact State.watchedWrite_attached hb hv hs
  · rw [State.watchedWrite_stalled hb hv hs, State.watchedWrite_stalled (s := { s with upstream := up }) hb hv hs]
    dsimp only
    split <;> rfl

theorem State.dropHandOver_some {a : Access} (ha : s.upstream = some a) :
    s.dropHandOver = { s with upstream := some { a with handed := a.handed.tail } } := by
  simp [State.dropHandOver, ha]

theorem State.nextHandOver_of_handed {a : Access} {h : HandOver} {rest : List HandOver} (ha : s.upstream = some a)
    (hh : a.handed = h :: rest) : s.nextHandOver h = true := by
  simp [State.nextHandOver, ha, hh]

/-- LW acts on the last word served, and then CU on the same word if it is next (R5). -/
theorem State.watchedWordEffect_eq {a : Access} {rest : List HandOver} (ha : s.upstream = some a)
    (hh : a.handed = .listWriter :: rest) :
    s.watchedWordEffect = State.runCommandUnit
      { s.watchedWrite (requestBeat a.req (a.served - 1)) with upstream := some { a with handed := rest } } := by
  have hword : s.wordHanded = some (s.wordAt a (a.served - 1)) := by simp [State.wordHanded, ha]
  simp only [State.watchedWordEffect, hword, State.dropHandOver_some ha, hh, List.tail_cons]
  exact congrArg State.runCommandUnit (State.watchedWrite_withUpstream _)

end Watched

/-- Settles O21: LW's part is what LinkWritten says, and CU's part is by the offset. -/
theorem watchedWordWrite : Obligations.WatchedWordWrite := by
  intro s u a rest b ha hh hb hlink
  have hu : s.watchedWrite (requestBeat a.req (a.served - 1)) = u := hb ▸ hlink.eq.symm
  have heff := State.watchedWordEffect_eq ha hh
  rw [hu] at heff
  refine ⟨s.watchedWordEffect.settleRequests, ?_, fun hidle => ?_, ?_⟩
  · simp [exec, execWatchedWordWrite, State.nextHandOver_of_handed ha hh, occurs]
  · exact State.settles_of_eq (heff.trans (State.runCommandUnit_idle rfl hidle))
  · rintro later offset rfl hsize hoff
    have hmc : u.mc = s.mc := by rw [← hu]; simp
    have hcu : u.cu = s.cu := by rw [← hu]; simp
    have ho : u.bulletinOffset (wordAddress a.req (a.served - 1)) = offset :=
      State.bulletinOffset_of_eq (by rwa [hmc]) (by rwa [hmc])
    have hsnoop : s.watchedWordEffect
        = State.commandSnoop offset b { u with upstream := some { a with handed := later } } := by
      rw [heff, State.runCommandUnit_next rfl rfl, hb, ← ho]
      rfl
    refine ⟨fun hrec => ?_, fun hpost hfull hzero => ?_, fun hpost hbad => ?_, fun hout => ?_⟩
    · rw [hsnoop, State.commandSnoop_record hrec, ← hcu]
      exact ⟨State.settles_of_eq rfl, Memory.holdsBeat_writeBeat⟩
    · exact State.settles_of_eq (hsnoop.trans (State.commandSnoop_post hpost ⟨hfull, hzero⟩))
    · exact State.settles_of_eq (hsnoop.trans (State.commandSnoop_reject hpost (not_postWord hbad)))
    · exact State.settles_of_eq (hsnoop.trans (State.commandSnoop_beyond hout))

/-! ## Posts that only look up or clear -/

section Posts
variable {s : State} {kind : Nat} {carry : State → State} {bad : Option Nat}

/-- A post subject to no busy and no state check, with its fields good, is carried out (R22). -/
theorem post_carried_next (hp : s.cu.posted = some (byteOf kind)) (hr : s.bt.restartPending = false)
    (hb : bad = none) :
    occurs (s.posts kind) (s.post kind ⟨false, none, bad⟩ carry) s = .next (carry s.takePosted).settleRequests := by
  have hn : s.refusalOf ⟨false, none, bad⟩ = none := State.refusalOf_eq_none.mpr ⟨hr, nofun, rfl, hb⟩
  rw [State.post_carried hn]
  simp [occurs, State.posts, hp]

/-- One with a bad field is malformed, the field named (R22, R24). -/
theorem post_malformed_next {field : Nat} (hp : s.cu.posted = some (byteOf kind)) (hr : s.bt.restartPending = false)
    (hb : bad = some field) :
    occurs (s.posts kind) (s.post kind ⟨false, none, bad⟩ carry) s
      = .next (s.takePosted.stageAck (byteOf kind) .refusedMalformed (BitVec.ofNat 32 field)).settleRequests := by
  have hn : s.refusalOf ⟨false, none, bad⟩ = some (.refusedMalformed, field) := by simp [State.refusalOf, hr, hb]
  rw [State.post_refused hn]
  simp [occurs, State.posts, hp]

/-- What TakesPost gives a post of kind `kind`. -/
theorem State.TakesPost.posted {c : Instr} (h : s.TakesPost c) (hk : postKind c = some (byteOf kind)) :
    s.cu.posted = some (byteOf kind) ∧ s.bt.restartPending = false := by
  obtain ⟨⟨⟨k, hc, hp⟩, -⟩, hr, -⟩ := h
  exact ⟨hp.trans (hc.symm.trans hk), hr⟩

end Posts

/-! ## PROBE_SPAN -/

section Probe

theorem probeSpanChecks_good {m : Memory} (h : (m.read 0).toNat ≤ 7) : firstBad (probeSpanChecks m) = none := by
  simp [probeSpanChecks, firstBad, rec8, h]

theorem probeSpanChecks_bad {m : Memory} (h : 7 < (m.read 0).toNat) : firstBad (probeSpanChecks m) = some 0 := by
  have : ¬(m.read 0).toNat ≤ 7 := Nat.not_le.mpr h
  simp [probeSpanChecks, firstBad, rec8, this]

/-- A span holds a column of a slot's row (R105). -/
def Span.HoldsAt (sp : Span) (v : SlotId) (row column : Nat) : Prop :=
  sp.slot = v ∧ sp.row = row ∧ sp.start ≤ column ∧ column ≤ sp.stop

variable {spans : List Span} {v : SlotId} {row column : Nat}

theorem spanAt_some {sp : Span} (h : spanAt spans v row column = some sp) :
    sp ∈ spans ∧ sp.HoldsAt v row column := by
  have hp := List.find?_some h
  simp only [Bool.and_eq_true, decide_eq_true_eq] at hp
  obtain ⟨⟨⟨hv, hr⟩, hl⟩, hu⟩ := hp
  exact ⟨List.mem_of_find?_eq_some h, hv, hr, hl, hu⟩

theorem spanAt_eq_none (h : ∀ sp ∈ spans, ¬sp.HoldsAt v row column) : spanAt spans v row column = none := by
  cases hs : spanAt spans v row column with
  | none => rfl
  | some sp => exact absurd (spanAt_some hs).2 (h sp (spanAt_some hs).1)

/-- The lookup finds the one span that holds the column (R105, R124). -/
theorem spanAt_eq_some {sp : Span} (hm : sp ∈ spans) (hh : sp.HoldsAt v row column)
    (hone : ∀ sp' ∈ spans, sp'.HoldsAt v row column → sp' = sp) : spanAt spans v row column = some sp := by
  cases hs : spanAt spans v row column with
  | none =>
    obtain ⟨hv, hr, hl, hu⟩ := hh
    have hno := List.find?_eq_none.mp hs sp hm
    simp [hv, hr, hl, hu] at hno
  | some sp' => exact congrArg some (hone sp' (spanAt_some hs).1 (spanAt_some hs).2)

theorem probeDetail_some {sp : Span} (hs : sp.start < 8192) (he : sp.stop < 8192) :
    probeDetail (some sp)
      = BitVec.ofNat 32 (sp.start + 65536 * sp.stop + (if sp.wide then 0x40000000 else 0) + 0x80000000) := by
  simp only [probeDetail, Nat.mod_eq_of_lt hs, Nat.mod_eq_of_lt he]
  cases sp.wide <;> rfl

end Probe

theorem execProbeSpan_malformed {s : State} (h : s.TakesPost .probeSpan) (hbad : 7 < (s.cu.shadow.read 0).toNat) :
    exec .probeSpan s = .next (s.takePosted.stageAck 0x0B .refusedMalformed 0).settleRequests :=
  let ⟨hp, hr⟩ := h.posted (kind := 0x0B) rfl
  post_malformed_next hp hr (probeSpanChecks_bad hbad)

theorem execProbeSpan_done {s : State} {v : SlotId} (h : s.TakesPost .probeSpan)
    (hv : v.val = (s.cu.shadow.read 0).toNat) :
    exec .probeSpan s = .next (s.takePosted.stageAck 0x0B .done
      (probeDetail (spanAt s.bt.spans v (s.cu.shadow.read32 4) (s.cu.shadow.read16 8)))).settleRequests := by
  obtain ⟨hp, hr⟩ := h.posted (kind := 0x0B) rfl
  have hprobe : s.takePosted.probe = spanAt s.bt.spans v (s.cu.shadow.read32 4) (s.cu.shadow.read16 8) := by
    simp only [State.probe, State.takePosted, rec8, ← hv, slotOfByte_val]
  have hnext := post_carried_next (carry := fun t => t.stageAck 0x0B .done (probeDetail t.probe)) hp hr
    (probeSpanChecks_good (m := s.cu.shadow) (by omega))
  rw [hprobe] at hnext
  exact hnext

/-! ## PUBLISH_COUNTERS -/

section Publish
variable {s : State}

/-- With room the COUNTERS report joins the queue and the counters are cleared (R182). -/
theorem State.publishEffect_of_room (hq : s.ru.staging.length < 8) (hr : s.ringHasRoom) :
    s.publishEffect = { s with ru := { s.ru with
      staging := s.ru.staging ++ [.counters none s.ru.counters s.cu.standing.countMask]
      counters := Vector.replicate 14 0 } } := by
  have hroom : s.ru.hasRoom = true := decide_eq_true hq
  simp only [State.publishEffect, hroom, if_true, State.drainRing]
  rw [ReportUnit.drain_of_not_full]
  · rfl
  · exact hr

/-- A drop away from the mark counts REPORT_DROP and sets LOST (R172). -/
theorem ReportUnit.drop_counted {mask : BitVec 14} {r : ReportUnit} (hm : mask.getLsbD 9 = false)
    (hne : r.counters.get 9 ≠ 49151) :
    r.drop mask = { r with lost := true, counters := r.counters.set 9 (r.counters.get 9 + 1) } := by
  have hx : r.crosses mask reportDrop 1 = false := ReportUnit.crosses_one_eq_false hne
  simp only [ReportUnit.drop, hx, Bool.false_eq_true, if_false, ReportUnit.dropLast]
  rw [ReportUnit.raise_unmasked hm]
  rfl

/-- Without room the COUNTERS report is dropped and the counters are kept (R182). -/
theorem State.publishEffect_of_full (hq : s.ru.staging.length = 8) (hm : s.cu.standing.countMask.getLsbD 9 = false)
    (hne : s.ru.counters.get 9 ≠ 49151) (hr : s.ringHasRoom) :
    s.publishEffect
      = { s with ru := { s.ru with lost := true, counters := s.ru.counters.set 9 (s.ru.counters.get 9 + 1) } } := by
  have hroom : s.ru.hasRoom = false := decide_eq_false (by rw [hq]; decide)
  simp only [State.publishEffect, hroom, Bool.false_eq_true, if_false, State.drainRing,
    ReportUnit.drop_counted hm hne]
  rw [ReportUnit.drain_of_not_full]
  exact hr

theorem execPublishCounters_next (h : s.TakesPost .publishCounters) :
    exec .publishCounters s = .next (s.takePosted.publishEffect.stageAck 0x0C .done 0).settleRequests :=
  let ⟨hp, hr⟩ := h.posted (kind := 0x0C) rfl
  post_carried_next hp hr rfl

theorem execClearFault_next (h : s.TakesPost .clearFault) :
    exec .clearFault s
      = .next (State.stageAck 0x0D .done 0
          { s.takePosted with fault := { s.fault with locked := false } }).settleRequests :=
  let ⟨hp, hr⟩ := h.posted (kind := 0x0D) rfl
  post_carried_next hp hr rfl

end Publish

/-- Settles O60: the lookup by the spans that hold the column, the publishing by the room, and the unlocking. -/
theorem lookupsAndClears : Obligations.LookupsAndClears := by
  rintro s u m rfl rfl
  refine ⟨fun htakes => ?_, fun htakes hring => ⟨_, execPublishCounters_next htakes, fun hq => ?_, fun hq hm hne => ?_⟩,
    fun htakes => ⟨_, execClearFault_next htakes, State.settles_of_eq rfl⟩⟩
  · by_cases hbad : 7 < (s.cu.shadow.read 0).toNat
    · refine ⟨_, execProbeSpan_malformed htakes hbad, fun _ => State.settles_of_eq rfl, fun v holds hv => ?_⟩
      have := v.isLt
      omega
    · have hlt : (s.cu.shadow.read 0).toNat < 8 := by omega
      refine ⟨_, execProbeSpan_done (v := ⟨_, hlt⟩) htakes rfl, fun h => absurd h hbad, fun v holds hv hholds => ?_⟩
      obtain rfl : v = ⟨_, hlt⟩ := Fin.ext hv
      refine ⟨fun hnone => ?_, fun sp hsp hone hstart hstop => ?_⟩
      · rw [spanAt_eq_none fun sp hm hh => hnone sp ((hholds sp).mpr ⟨hm, hh⟩)]
        exact State.settles_of_eq rfl
      · obtain ⟨hmem, hheld⟩ := (hholds sp).mp hsp
        rw [spanAt_eq_some hmem hheld fun sp' hm hh => hone sp' ((hholds sp').mpr ⟨hm, hh⟩),
          probeDetail_some hstart hstop]
        exact State.settles_of_eq rfl
  · rw [State.publishEffect_of_room (s := s.takePosted) hq hring]
    exact State.settles_of_eq rfl
  · rw [State.publishEffect_of_full (s := s.takePosted) hq hm hne hring]
    exact State.settles_of_eq rfl

end Sys2Proof.Machine

/-! # The grants of the port (R191 to R193). -/

namespace Sys2Proof.Machine

/-! ## Grants -/

section Grants
variable {s : State}

theorem execGrantDecision_next {r : Requester} (hw : s.winner = some r) (hrun : s.mc.phase = .running)
    (hport : s.mc.port = none) : exec .grantDecision s = .next (s.grant r).settleRequests := by
  simp [exec, execGrantDecision, hw, occurs, State.isRunning, hrun, hport]

/-- `passes` says whether a writer is passed over, and `promotes` whether it is promoted by that (R193). -/
structure PassedOver (level : RequestLevel) (count : Nat) (promoted passes promotes : Bool) : Prop where
  passes_iff : passes = true ↔ level = .normal ∧ promoted = false
  promotes_iff : promotes = true ↔ passes = true ∧ 32 ≤ count + 1

variable {level : RequestLevel} {count : Nat} {promoted passes promotes : Bool}

theorem PassedOver.passOver_eq (h : PassedOver level count promoted passes promotes) :
    passOver level count promoted = (count + bit passes, promoted || promotes) := by
  obtain ⟨hover, hnew⟩ := h
  unfold passOver
  split
  · rename_i hl
    obtain rfl : passes = true := hover.mpr hl
    have hdec : promotes = decide (32 ≤ count + 1) := by
      rw [Bool.eq_iff_iff, hnew, decide_eq_true_iff]
      exact and_iff_right rfl
    rw [hl.2, hdec]
    rfl
  · rename_i hl
    obtain rfl : passes = false := by rwa [Bool.eq_false_iff, Ne, hover]
    obtain rfl : promotes = false := by rw [Bool.eq_false_iff, Ne, hnew]; nofun
    rw [Bool.or_false]
    rfl

/-- A promotion is made of an unpromoted writer alone. -/
theorem PassedOver.promotion_eq (h : PassedOver level count promoted passes promotes) :
    ((promoted || promotes) && !promoted) = promotes := by
  cases promoted with
  | false => simp
  | true =>
    have hnew : promotes = false := by
      rw [Bool.eq_false_iff, Ne, h.promotes_iff, h.passes_iff]
      rintro ⟨⟨-, hp⟩, -⟩
      cases hp
    simp [hnew]

/-- The state of a grant to the upstream access, short of the count of WRITER_PROMOTE. -/
def State.upstreamGranted (s : State) (a : Access) (overR overL newR newL : Bool) : State :=
  { s with
    upstream := some { a with phase := .serving, view := s.viewNow }
    mc := { s.mc with
      port := some .upstream
      passedReport := s.mc.passedReport + bit overR
      promoReport := s.mc.promoReport || newR
      passedList := s.mc.passedList + bit overL
      promoList := s.mc.promoList || newL } }

theorem State.grantUpstream_eq {a : Access} {overR overL newR newL : Bool} (ha : s.upstream = some a)
    (hr : PassedOver s.reportLevel s.mc.passedReport s.mc.promoReport overR newR)
    (hl : PassedOver s.listLevel s.mc.passedList s.mc.promoList overL newL) :
    s.grantUpstream = if bit newR + bit newL = 0 then s.upstreamGranted a overR overL newR newL
      else (s.upstreamGranted a overR overL newR newL).countBy writerPromote (bit newR + bit newL) := by
  have hserved : s.beginService = { s with upstream := some { a with phase := .serving, view := s.viewNow } } := by
    simp [State.beginService, ha]
  simp only [State.grantUpstream, hr.passOver_eq, hl.passOver_eq, hr.promotion_eq, hl.promotion_eq, hserved]
  rfl

/-- The grant to the List Writer is for the operation it chooses (R164). -/
theorem State.grantList_eq {op : ListOp} (h : s.lw.chooseOp = some op) :
    s.grantList = { s with mc := { s.mc with port := some (.list op), passedList := 0, promoList := false } } := by
  simp [State.grantList, h]

theorem ListWriter.chooseOp_loading {w : ListWriter} (h : w.state = .loading) :
    w.chooseOp = some (if w.rejectPending then .rejectedClose else .load) := by
  simp [ListWriter.chooseOp, h]

theorem ListWriter.chooseOp_record {w : ListWriter} {r : BlemishRecord} {q : List QueueEntry} {d : DescriptorCopy}
    (h : w.state = .filling) (hq : w.queue = .record r :: q) (hd : w.copy = some d) :
    w.chooseOp
      = some (if w.filled + (if r.wide then 64 else 32) ≤ d.capacity then .recordWrite r else .closeFull) := by
  simp only [ListWriter.chooseOp, h, hq, hd, BlemishRecord.length, Option.map_some, Option.getD_some]
  exact (apply_ite some ..).symm

theorem ListWriter.chooseOp_marker {w : ListWriter} {v : SlotId} {q : List QueueEntry} (h : w.state = .filling)
    (hq : w.queue = .marker v :: q) : w.chooseOp = some (.closeFrameEnd v) := by
  simp [ListWriter.chooseOp, h, hq]

end Grants

/-- Settles O34: what each of the four grants leaves. -/
theorem grantsMade : Obligations.GrantsMade := by
  constructor
  · intro s a overR overL newR newL hrun hport ha hw hoverR hoverL hnewR hnewL
    refine ⟨_, execGrantDecision_next hw hrun hport, ?_⟩
    rintro served rfl
    have heq := State.grantUpstream_eq ha ⟨hoverR, hnewR⟩ ⟨hoverL, hnewL⟩
    refine ⟨?_, fun hnew => ?_⟩
    · rintro rfl rfl
      exact State.settles_of_eq heq
    · rw [if_neg (by rcases hnew with rfl | rfl <;> simp [bit])] at heq
      exact State.settles_of_eq heq
  · intro s hrun hport
    refine ⟨fun hw => ⟨_, execGrantDecision_next hw hrun hport, State.settles_of_eq rfl⟩, fun op hw hop => ?_,
      fun hw => ⟨_, execGrantDecision_next hw hrun hport, State.settles_of_eq rfl⟩⟩
    have hchosen : s.lw.chooseOp = some op := by
      rcases hop with ⟨hst, rfl⟩ | ⟨r, q, d, hst, hq, hd, rfl⟩ | ⟨v, q, hst, hq, rfl⟩
      · exact ListWriter.chooseOp_loading hst
      · exact ListWriter.chooseOp_record hst hq hd
      · exact ListWriter.chooseOp_marker hst hq
    exact ⟨_, execGrantDecision_next hw hrun hport, State.settles_of_eq (State.grantList_eq hchosen)⟩

end Sys2Proof.Machine

/-! # The end of an operation, with what is pending for it (R34, R60, R196). -/

namespace Sys2Proof.Machine

/-! ## What staging leaves of the Report Unit -/

/-- `b` is `a` but for the staging queue, the LOST mark and the counters. -/
def ReportUnit.SameLine (a b : ReportUnit) : Prop :=
  b = { a with staging := b.staging, lost := b.lost, counters := b.counters }

theorem ReportUnit.SameLine.trans {a b c : ReportUnit} (hab : a.SameLine b) (hbc : b.SameLine c) : a.SameLine c := by
  unfold ReportUnit.SameLine at *
  rw [hbc, hab]

theorem ReportUnit.SameLine.ringFull_eq {a b : ReportUnit} (h : a.SameLine b) (n : Nat) :
    b.ringFull n = a.ringFull n := by
  rw [h]
  rfl

theorem ReportUnit.sameLine_dropLast (mask : BitVec 14) (r : ReportUnit) : r.SameLine (r.dropLast mask) := by
  unfold ReportUnit.dropLast ReportUnit.raise
  split <;> rfl

theorem ReportUnit.sameLine_drop (mask : BitVec 14) (r : ReportUnit) : r.SameLine (r.drop mask) := by
  have hlast := ReportUnit.sameLine_dropLast mask r
  unfold ReportUnit.drop
  dsimp only
  split
  · split
    · exact hlast.trans rfl
    · exact hlast.trans (ReportUnit.sameLine_dropLast ..)
  · exact hlast

theorem ReportUnit.sameLine_enqueue (mask : BitVec 14) (x : Report) (r : ReportUnit) :
    r.SameLine (r.enqueue mask x) := by
  unfold ReportUnit.enqueue
  split
  · rfl
  · exact ReportUnit.sameLine_drop ..

theorem ReportUnit.sameLine_drain (mask : BitVec 14) (slots fuel : Nat) (r : ReportUnit) :
    r.SameLine (r.drain mask slots fuel) := by
  induction fuel generalizing r with
  | zero => rfl
  | succ fuel ih =>
    unfold ReportUnit.drain
    split
    · rfl
    · rename_i x rest _
      split
      · have htail : r.SameLine { r with staging := rest } := rfl
        exact htail.trans ((ReportUnit.sameLine_drop mask _).trans (ih _))
      · rfl

/-- Staging a report moves neither the ring's counts nor the attention line. -/
theorem State.sameLine_stage (x : Report) (s : State) : s.ru.SameLine (s.stage x).ru :=
  (ReportUnit.sameLine_enqueue ..).trans (ReportUnit.sameLine_drain ..)

/-! ## RESTART taking effect -/

theorem State.endRowHold_rowHeld {s : State} {a : Access} (ha : s.upstream = some a) (hh : a.phase = .rowHeld)
    (hp : s.iu.pass ≠ .capturing) : s.endRowHold.upstream = some { a with phase := .asking } := by
  simp [State.endRowHold, ha, hh, hp]

/-- The end of a row hold changes the access alone. -/
theorem State.endRowHold_eq (s : State) : s.endRowHold = { s with upstream := s.endRowHold.upstream } := by
  unfold State.endRowHold
  split
  · split <;> rfl
  · rfl

theorem ReportUnit.unread_eq_zero {r : ReportUnit} : r.unread = 0 ↔ r.produced = r.taken := by
  unfold ReportUnit.unread
  rw [← BitVec.toNat_zero (w := 32), BitVec.toNat_inj]
  exact sub_eq_zero

/-- The timer after a RESTART: in TAKE mode it restarts while reports are unread (R183). -/
theorem ReportUnit.restarted_timer (st : Settings) (r : ReportUnit) :
    (r.restarted st).timer
      = if st.attentionMode = .take ∧ r.produced ≠ r.taken ∧ st.coalesceTime ≠ 0 then some 0 else none := by
  unfold ReportUnit.restarted
  dsimp only
  cases st.attentionMode with
  | read => simp
  | take =>
    by_cases hu : r.produced = r.taken
    · simp [ReportUnit.unread_eq_zero, hu]
    · by_cases ht : st.coalesceTime = 0 <;> simp [ReportUnit.unread_eq_zero, hu, timerStart, ht]

theorem ReportUnit.restarted_ackThrough {st : Settings} (r : ReportUnit) (h : st.attentionMode = .read) :
    (r.restarted st).ackThrough = r.produced := by
  simp [ReportUnit.restarted, h]

/-- What a RESTART leaves of the Report Unit besides the timer and the acknowledged-through count (R183). -/
theorem ReportUnit.restarted_frame (st : Settings) (r : ReportUnit) :
    r.restarted st = ⟨[], false, r.produced, r.taken, (r.restarted st).ackThrough, r.newest, false,
      (r.restarted st).timer, Vector.replicate 14 0⟩ := by
  unfold ReportUnit.restarted
  dsimp only
  cases st.attentionMode with
  | read => rfl
  | take => dsimp only; split <;> rfl

/-- The state of a RESTART before its ACK is staged and the row hold ends. -/
def State.restartCleared (s : State) : State :=
  { s with
    fault := .powerOn
    cu := { s.cu with shadow := [], overrides := .none }
    iu := .powerOn
    fl := .powerOn
    bt := .powerOn
    lw := .powerOn
    ru := s.ru.restarted s.cu.standing
    mc := { s.mc with passedReport := 0, passedList := 0, promoReport := false, promoList := false } }

theorem State.restartEffect_eq (s : State) :
    s.restartEffect = (s.restartCleared.stage (.ack 0x0E .done .stripClosed false 0)).endRowHold := rfl

/-- A RESTART leaves every block but the Report Unit and the access as it clears them. -/
theorem State.restartEffect_blocks (s : State) :
    s.restartEffect = { s.restartCleared with ru := s.restartEffect.ru, upstream := s.restartEffect.upstream } := by
  rw [State.restartEffect_eq, State.endRowHold_eq]
  rfl

/-- The Report Unit after a RESTART, while the ring is not full: only the ACK is staged (R34). -/
theorem State.restartEffect_ru_of_room {s : State}
    (h : (s.ru.restarted s.cu.standing).ringFull s.cu.standing.slotCount = false) :
    s.restartEffect.ru
      = { s.ru.restarted s.cu.standing with staging := [.ack 0x0E .done .stripClosed false 0] } := by
  have hq : (s.ru.restarted s.cu.standing).staging = [] := by rw [ReportUnit.restarted_frame]
  have hlen : s.restartCleared.ru.staging.length < 8 := by
    rw [show s.restartCleared.ru.staging = [] from hq]
    decide
  rw [State.restartEffect_eq, State.endRowHold_ru, State.stage_of_room hlen h]
  simp [State.restartCleared, hq]

/-- The Report Unit after a RESTART, the staging apart (R183). -/
theorem State.sameLine_restartEffect (s : State) : (s.ru.restarted s.cu.standing).SameLine s.restartEffect.ru := by
  rw [State.restartEffect_eq, State.endRowHold_ru]
  exact State.sameLine_stage ..

theorem State.restartEffect_attention (s : State) : s.restartEffect.ru.attention = false := by
  rw [s.sameLine_restartEffect, ReportUnit.restarted_frame]

theorem State.restartEffect_produced (s : State) : s.restartEffect.ru.produced = s.ru.produced := by
  rw [s.sameLine_restartEffect, ReportUnit.restarted_frame]

theorem State.restartEffect_taken (s : State) : s.restartEffect.ru.taken = s.ru.taken := by
  rw [s.sameLine_restartEffect, ReportUnit.restarted_frame]

theorem State.restartEffect_timer (s : State) :
    s.restartEffect.ru.timer = if s.cu.standing.attentionMode = .take
      ∧ s.restartEffect.ru.produced ≠ s.restartEffect.ru.taken ∧ s.cu.standing.coalesceTime ≠ 0
      then some 0 else none := by
  rw [State.restartEffect_produced, State.restartEffect_taken, ← ReportUnit.restarted_timer, s.sameLine_restartEffect]

theorem State.restartEffect_ackThrough {s : State} (h : s.cu.standing.attentionMode = .read) :
    s.restartEffect.ru.ackThrough = s.restartEffect.ru.produced := by
  rw [State.restartEffect_produced, ← ReportUnit.restarted_ackThrough s.ru h, s.sameLine_restartEffect]

theorem State.restartEffect_ringFull (s : State) (n : Nat) :
    s.restartEffect.ru.ringFull n = (s.ru.restarted s.cu.standing).ringFull n :=
  s.sameLine_restartEffect.ringFull_eq n

/-! ## The slots that become VACANT -/

section Vacate

theorem slots_get_set (slots : Vector Slot 8) (v w : SlotId) (x : Slot) :
    (slots.set v.val x).get w = if w = v then x else slots.get w := by
  rw [Vector.get_eq_getElem, Vector.getElem_set, Vector.get_eq_getElem]
  simp only [Fin.ext_iff, eq_comm]

theorem State.forSlots_vacateSlot_slots (l : List SlotId) (s : State) (w : SlotId) :
    (State.forSlots State.vacateSlot l s).fl.slots.get w
      = if w ∈ l then Slot.vacantValues else s.fl.slots.get w := by
  induction l generalizing s with
  | nil => rfl
  | cons v rest ih =>
    rw [State.forSlots, ih]
    have hone : (s.vacateSlot v).fl.slots.get w = if w = v then Slot.vacantValues else s.fl.slots.get w :=
      slots_get_set ..
    rw [hone]
    by_cases hw : w ∈ rest <;> by_cases hv : w = v <;> simp [hw, hv]

theorem State.forSlots_vacateSlot_keepsFl (l : List SlotId) (s : State) :
    (State.forSlots State.vacateSlot l s).fl
      = { s.fl with slots := (State.forSlots State.vacateSlot l s).fl.slots } := by
  induction l generalizing s with
  | nil => rfl
  | cons v rest ih =>
    rw [State.forSlots, ih]
    rfl

theorem State.forSlots_vacateSlot_bt (l : List SlotId) (s : State) :
    (State.forSlots State.vacateSlot l s).bt
      = { s.bt with spans := s.bt.spans.filter fun sp => decide (sp.slot ∉ l) } := by
  induction l generalizing s with
  | nil => simp [State.forSlots]
  | cons v rest ih =>
    rw [State.forSlots, ih]
    simp [State.vacateSlot, State.retireSlot, retireSlotSpans, Bool.and_comm]

theorem mem_allSlots (v : SlotId) : v ∈ allSlots := by
  revert v
  decide

variable {s : State} {p : Slot → Bool}

theorem State.mem_chosenSlots {v : SlotId} :
    v ∈ (allSlots.filter fun w => p (s.slot w)) ↔ p (s.fl.slots.get v) = true := by
  simp [mem_allSlots, State.slot]

theorem State.vacateWhere_slots (v : SlotId) :
    (s.vacateWhere p).fl.slots.get v
      = if p (s.fl.slots.get v) = true then Slot.vacantValues else s.fl.slots.get v := by
  rw [State.vacateWhere, State.forSlots_vacateSlot_slots]
  simp only [State.mem_chosenSlots]

theorem State.vacateWhere_keepsFl : (s.vacateWhere p).fl = { s.fl with slots := (s.vacateWhere p).fl.slots } :=
  State.forSlots_vacateSlot_keepsFl ..

theorem State.vacateWhere_keepsBt :
    (s.vacateWhere p).bt
      = { s.bt with spans := s.bt.spans.filter fun sp => decide (¬p (s.fl.slots.get sp.slot) = true) } := by
  rw [State.vacateWhere, State.forSlots_vacateSlot_bt]
  simp only [State.mem_chosenSlots]

end Vacate

/-! ## CLOSE_STRIP taking effect -/

section Close
variable {s : State}

theorem activeSlot_eq_none {slots : Vector Slot 8} (h : ∀ v, (slots.get v).state ≠ .active) :
    activeSlot slots = none := by
  simp only [activeSlot, findSlot, List.find?_eq_none, decide_eq_true_eq]
  exact fun v _ => h v

/-- The first step of a frame end clears the open table and touches neither the spans nor what is pending (R119,
R120). -/
theorem State.beginFrameEnd_bt (v : SlotId) (s : State) :
    (s.beginFrameEnd v).bt = { s.bt with
      nextSerial := (s.beginFrameEnd v).bt.nextSerial
      tally := (s.beginFrameEnd v).bt.tally
      openTable := []
      previous := []
      frameEnd := some ⟨v, decide ((s.slot v).classified < (s.slot v).height)⟩ } := by
  simp [State.beginFrameEnd, State.closeBlemishes]

/-- The state of a CLOSE_STRIP after the ACTIVE slot's frame end, if any, has begun (R60). -/
def State.closeEnded (s : State) : State :=
  if s.bt.frameEnd.isSome then s
  else match activeSlot s.fl.slots with
    | some v => s.beginFrameEnd v
    | none => s

theorem State.closeEnded_of_idle (h : s.bt.frameEnd ≠ none ∨ ∀ v, (s.fl.slots.get v).state ≠ .active) :
    s.closeEnded = s := by
  unfold State.closeEnded
  split
  · rfl
  · rename_i hf
    rw [activeSlot_eq_none (h.resolve_left fun hn => hf (Option.isSome_iff_ne_none.mpr hn))]

theorem State.closeEnded_of_active {v : SlotId} (hf : s.bt.frameEnd = none) (hv : activeSlot s.fl.slots = some v) :
    s.closeEnded = s.beginFrameEnd v := by
  simp [State.closeEnded, hf, hv]

/-- Whether a frame end begins or not, a CLOSE_STRIP leaves the blocks it does not close. -/
theorem State.closeEnded_keeps (s : State) :
    s.closeEnded.cu = s.cu ∧ s.closeEnded.fl = s.fl ∧ s.closeEnded.mc = s.mc ∧ s.closeEnded.upstream = s.upstream := by
  unfold State.closeEnded
  split
  · exact ⟨rfl, rfl, rfl, rfl⟩
  · split
    · simp
    · exact ⟨rfl, rfl, rfl, rfl⟩

theorem State.closeEnded_keepsBt (s : State) :
    s.closeEnded.bt.spans = s.bt.spans ∧ s.closeEnded.bt.restartPending = s.bt.restartPending
      ∧ s.closeEnded.bt.classifying = s.bt.classifying := by
  unfold State.closeEnded
  split
  · exact ⟨rfl, rfl, rfl⟩
  · split
    · rw [State.beginFrameEnd_bt]
      exact ⟨rfl, rfl, rfl⟩
    · exact ⟨rfl, rfl, rfl⟩

/-- The state of a CLOSE_STRIP before the row hold ends. -/
def State.closeReleased (s : State) : State :=
  let released := s.closeEnded.vacateWhere fun x => decide (x.state = .planned)
  { released with
    iu := .powerOn
    cu := { released.cu with overrides := .none }
    fl := { released.fl with profile := [], params := none, locating := none }
    bt := { released.bt with closePending := false } }

theorem State.closeStripEffect_eq (s : State) : s.closeStripEffect = s.closeReleased.endRowHold := rfl

theorem State.closeReleased_cu (s : State) : s.closeReleased.cu = { s.cu with overrides := .none } := by
  obtain ⟨hcu, -⟩ := s.closeEnded_keeps
  simp [State.closeReleased, hcu]

theorem State.closeReleased_slots (s : State) (v : SlotId) :
    s.closeReleased.fl.slots.get v
      = if (s.fl.slots.get v).state = .planned then Slot.vacantValues else s.fl.slots.get v := by
  obtain ⟨-, hfl, -⟩ := s.closeEnded_keeps
  have h := State.vacateWhere_slots (s := s.closeEnded) (p := fun x => decide (x.state = .planned)) v
  rw [hfl] at h
  simp only [decide_eq_true_eq] at h
  exact h

theorem State.closeReleased_fl (s : State) :
    s.closeReleased.fl
      = { s.fl with slots := s.closeReleased.fl.slots, profile := [], params := none, locating := none } := by
  obtain ⟨-, hfl, -⟩ := s.closeEnded_keeps
  have h := State.vacateWhere_keepsFl (s := s.closeEnded) (p := fun x => decide (x.state = .planned))
  simp only [State.closeReleased]
  rw [h, hfl]

theorem State.closeReleased_bt (s : State) :
    s.closeReleased.bt = { s.closeEnded.bt with
      spans := s.bt.spans.filter fun sp => decide ((s.fl.slots.get sp.slot).state ≠ .planned)
      closePending := false } := by
  obtain ⟨-, hfl, -⟩ := s.closeEnded_keeps
  obtain ⟨hspans, -⟩ := s.closeEnded_keepsBt
  simp only [State.closeReleased, State.vacateWhere_keepsBt, hfl, hspans, decide_eq_true_eq]

end Close

/-! ## The completion of an operation -/

/-- `x` is `s` with the work of the operation at the port done, before the port is free: it leaves the blocks that a RESTART or
a CLOSE_STRIP reads, and an access on the row hold, as they are. -/
structure State.WorkDone (s x : State) : Prop where
  cu : x.cu = s.cu
  iu : x.iu = s.iu
  fl : x.fl = s.fl
  bt : x.bt = s.bt
  held : ∀ a, s.upstream = some a → a.phase = .rowHeld → x.upstream = some a

theorem State.workDone_of_upstream {s x : State} (hc : x.cu = s.cu) (hi : x.iu = s.iu) (hf : x.fl = s.fl)
    (hb : x.bt = s.bt) (hu : x.upstream = s.upstream) : s.WorkDone x :=
  ⟨hc, hi, hf, hb, fun _ ha _ => hu.trans ha⟩

section Complete
variable {s : State} {a : Access}

/-- The access at the port ended, with its completion signalled (R2). -/
def State.accessEnded (s : State) (a : Access) : State :=
  { s with upstream := none, completion := some ⟨!requestIsWrite a.req, a.data⟩ }

theorem execAccessComplete_next (ha : s.upstream = some a) (hph : a.phase = .serving) (hh : a.handed = [])
    (hp : s.cu.posted = none) (hn : a.served = a.req.wordCount) :
    exec .accessComplete s = .next (State.settleRequests
      (if s.mc.port = some .upstream then (s.accessEnded a).finishOperation else s.accessEnded a)) := by
  simp [exec, execAccessComplete, ha, hph, hh, hp, hn, occurs, State.accessEnded]

/-- Whichever operation completes, its work is done and then the port is free (R189, R196). -/
theorem State.EndsOperation.next {c : Instr} (h : s.EndsOperation c) :
    ∃ x, exec c s = .next x.finishOperation.settleRequests ∧ s.WorkDone x := by
  rcases h with ⟨rfl, hport, a, ha, hph, hh, hp, hn⟩ | ⟨rfl, entries, carries, hport⟩ | ⟨rfl, hport⟩ | ⟨rfl, hport⟩
    | ⟨rfl, r, hport⟩ | ⟨rfl, hport | ⟨v, hport⟩⟩ | ⟨rfl, hport⟩
  · refine ⟨s.accessEnded a, (execAccessComplete_next ha hph hh hp hn).trans (by rw [if_pos hport]),
      rfl, rfl, rfl, rfl, fun b hb hheld => ?_⟩
    obtain rfl : a = b := Option.some.inj (ha.symm.trans hb)
    rw [hph] at hheld
    cases hheld
  · exact ⟨s.reportOperation entries carries, by simp [exec, execReportWriterGrant, hport, occurs],
      State.workDone_of_upstream (by simp) (by simp) (by simp) (by simp) (by simp)⟩
  · exact ⟨s.loadDescriptor, by simp [exec, execDescriptorLoad, hport, occurs],
      State.workDone_of_upstream (by simp) (by simp) (by simp) (by simp) (by simp)⟩
  · exact ⟨s.closeRejected, by simp [exec, execRejectedClose, hport, occurs],
      State.workDone_of_upstream (by simp) (by simp) (by simp) (by simp) (by simp)⟩
  · exact ⟨s.writeRecord r, by simp [exec, execRecordWrite, hport, occurs],
      State.workDone_of_upstream (by simp) (by simp) (by simp) (by simp) (by simp)⟩
  · exact ⟨s.closeFull, by simp [exec, execDescriptorClose, hport, occurs],
      State.workDone_of_upstream (by simp) (by simp) (by simp) (by simp) (by simp)⟩
  · exact ⟨s.closeFrameEnd v, by simp [exec, execDescriptorClose, hport, occurs],
      State.workDone_of_upstream (by simp) (by simp) (by simp) (by simp) (by simp)⟩
  · exact ⟨{ s with mc := { s.mc with debt := s.mc.debt - 1 } }, by simp [exec, execRefreshOperation, hport, occurs],
      State.workDone_of_upstream rfl rfl rfl rfl rfl⟩

end Complete

section Effects
variable {s x y t : State}

/-- A RESTART that takes effect with the port free leaves R34's values. -/
theorem State.restartEffect_restartedBy (hport : y.mc.port = none) :
    y.RestartedBy y.restartEffect.settleRequests := by
  have hblocks := y.restartEffect_blocks
  have hru := State.settleRequests_ru y.restartEffect
  have hholds : y.HoldEnds y.restartEffect.settleRequests := by
    intro a ha hheld
    rw [State.settleRequests_upstream, State.restartEffect_eq]
    exact State.endRowHold_rowHeld ha hheld nofun
  refine ⟨(congrArg (·.mc.port) hblocks).trans hport, hholds, congrArg State.fault hblocks, congrArg State.cu hblocks,
    congrArg State.iu hblocks, congrArg State.fl hblocks, congrArg State.bt hblocks, congrArg State.lw hblocks, ?_, ?_,
    fun hread => ?_, fun hring => ?_⟩
  · rw [hru]
    exact y.restartEffect_attention
  · rw [hru]
    exact y.restartEffect_timer
  · rw [hru]
    exact State.restartEffect_ackThrough hread
  · rw [hru, State.restartEffect_ringFull] at hring
    rw [hru, State.restartEffect_ru_of_room hring, ReportUnit.restarted_frame]
    exact ⟨rfl, rfl, rfl⟩

/-- A CLOSE_STRIP that takes effect with the port free, nothing classified and no RESTART pending leaves R60's
values. -/
theorem State.closeStripEffect_closedBy (hport : y.mc.port = none) (hr : y.bt.restartPending = false)
    (hk : y.bt.classifying = none) : y.ClosedBy y.closeStripEffect.settleRequests := by
  obtain ⟨-, -, -, hup⟩ := y.closeEnded_keeps
  obtain ⟨-, hrestart, hclass⟩ := y.closeEnded_keepsBt
  have hholds : y.HoldEnds y.closeStripEffect.settleRequests := by
    intro a ha hheld
    rw [State.settleRequests_upstream, State.closeStripEffect_eq]
    exact State.endRowHold_rowHeld (by simpa [State.closeReleased, hup] using ha) hheld nofun
  have hbt : y.closeStripEffect.settleRequests.bt = y.closeReleased.bt := by simp [State.closeStripEffect_eq]
  have hfl : y.closeStripEffect.settleRequests.fl = y.closeReleased.fl := by simp [State.closeStripEffect_eq]
  have hcu : y.closeStripEffect.settleRequests.cu = y.closeReleased.cu := by simp [State.closeStripEffect_eq]
  have hiu : y.closeStripEffect.settleRequests.iu = y.closeReleased.iu := by simp [State.closeStripEffect_eq]
  refine ⟨?_, hholds, hcu.trans y.closeReleased_cu, hiu, ?_, ?_, ?_, ?_, ?_, ?_, fun hidle => ?_,
    fun v x hf hv hx => ?_⟩
  · rw [State.settleRequests_port, State.closeStripEffect_mc]
    exact hport
  · rw [hfl]
    exact y.closeReleased_fl
  · rw [hfl]
    exact y.closeReleased_slots
  · rw [hbt, State.closeReleased_bt]
  · rw [hbt, State.closeReleased_bt]
    exact hrestart.trans hr
  · rw [hbt, State.closeReleased_bt]
  · rw [hbt, State.closeReleased_bt]
    exact hclass.trans hk
  · rw [hbt, State.closeReleased_bt, State.closeEnded_of_idle hidle]
    exact ⟨rfl, rfl, rfl⟩
  · rw [hbt, State.closeReleased_bt, State.closeEnded_of_active hf hv, State.beginFrameEnd_bt, ← hx]
    exact ⟨rfl, rfl, rfl⟩

theorem State.WorkDone.portFreed (h : s.WorkDone x) : s.WorkDone { x with mc := { x.mc with port := none } } :=
  ⟨h.cu, h.iu, h.fl, h.bt, h.held⟩

theorem State.WorkDone.holdEnds (h : s.WorkDone x) (ht : x.HoldEnds t) : s.HoldEnds t :=
  fun a ha hheld => ht a (h.held a ha hheld) hheld

/-- What a RESTART leaves is told by the state before the operation's work as by that after it. -/
theorem State.WorkDone.restartedBy (h : s.WorkDone x) (ht : x.RestartedBy t) : s.RestartedBy t := by
  obtain ⟨hport, hholds, ht⟩ := ht
  rw [h.cu] at ht
  exact ⟨hport, h.holdEnds hholds, ht⟩

/-- And so is what a CLOSE_STRIP leaves. -/
theorem State.WorkDone.closedBy (h : s.WorkDone x) (ht : x.ClosedBy t) : s.ClosedBy t := by
  obtain ⟨hport, hholds, ht⟩ := ht
  rw [h.cu, h.fl, h.bt] at ht
  exact ⟨hport, h.holdEnds hholds, ht⟩

end Effects

/-- Settles O16: the access ends, and each operation's completion frees the port under what is pending. -/
theorem accessCompletes : Obligations.AccessCompletes := by
  constructor
  · rintro s a ha hph hh hp hn ⟨hr, hc⟩
    refine ⟨_, execAccessComplete_next ha hph hh hp hn, State.settles_of_eq ?_⟩
    split
    · exact State.finishOperation_of_nothing_pending (s := s.accessEnded a) hr hc
    · rfl
  · intro s c hends
    obtain ⟨x, hexec, hdone⟩ := hends.next
    have hfreed := hdone.portFreed
    refine ⟨fun hk hr => ⟨_, hexec, ?_⟩, fun hk hr hc => ⟨_, hexec, ?_⟩, fun hk => ⟨_, hexec, ?_⟩⟩
    · rw [← hdone.bt] at hk hr
      rw [State.finishOperation_of_restart hk hr]
      exact hfreed.restartedBy (State.restartEffect_restartedBy rfl)
    · rw [← hdone.bt] at hk hr hc
      rw [State.finishOperation_of_close hk hr hc]
      exact hfreed.closedBy (State.closeStripEffect_closedBy rfl hr hk)
    · rw [← hdone.bt] at hk
      rw [State.finishOperation_of_classifying hk]
      exact ⟨rfl, hdone.bt, hdone.iu, hdone.fl, hdone.cu⟩

end Sys2Proof.Machine

/-! # The field checks of the command records (R24, R206 to R208). -/

namespace Sys2Proof.Machine

/-! ## The first bad field -/

/-- A record has no bad field when every check passes (R24). -/
theorem firstBad_eq_none {fields : List (Nat × Bool)} : firstBad fields = none ↔ ∀ f ∈ fields, f.2 = true := by
  induction fields with
  | nil => simp [firstBad]
  | cons f rest ih =>
    obtain ⟨o, good⟩ := f
    cases good <;> simp [firstBad, ih]

/-- The field named is the first whose check fails (R24). -/
theorem firstBad_eq_some {fields : List (Nat × Bool)} {o : Nat} : firstBad fields = some o ↔
    ∃ before rest, fields = before ++ (o, false) :: rest ∧ ∀ f ∈ before, f.2 = true := by
  induction fields with
  | nil => simp [firstBad]
  | cons f rest ih =>
    obtain ⟨p, good⟩ := f
    cases good with
    | true =>
      refine ih.trans ⟨?_, ?_⟩
      · rintro ⟨before, after, rfl, h⟩
        exact ⟨(p, true) :: before, after, rfl, List.forall_mem_cons.mpr ⟨rfl, h⟩⟩
      · rintro ⟨before, after, heq, h⟩
        cases before with
        | nil => cases heq
        | cons g before =>
          obtain ⟨-, rfl⟩ := List.cons.inj heq
          exact ⟨before, after, rfl, (List.forall_mem_cons.mp h).2⟩
    | false =>
      refine ⟨fun h => ⟨[], rest, by rw [← show p = o from Option.some.inj h]; rfl, nofun⟩, ?_⟩
      rintro ⟨before, after, heq, h⟩
      cases before with
      | nil => cases heq; rfl
      | cons g before =>
        obtain ⟨rfl, -⟩ := List.cons.inj heq
        cases h _ List.mem_cons_self

/-- A list of checks stands in record order and says of each of its fields, where the fields before it are good, whether it is
good; at every other offset nothing could be bad. -/
structure ChecksFields (fields : List (Nat × Bool)) (good : Nat → Prop) : Prop where
  rising : (fields.map Prod.fst).Pairwise (· < ·)
  agrees : ∀ f ∈ fields, (∀ o < f.1, good o) → (f.2 = true ↔ good f.1)
  others : ∀ o, o ∉ fields.map Prod.fst → good o

section Checks
variable {fields : List (Nat × Bool)} {good : Nat → Prop}

/-- Where every check up to an offset passes, every field up to it is good. -/
theorem ChecksFields.good_of_passed (h : ChecksFields fields good) {o : Nat}
    (hpass : ∀ f ∈ fields, f.1 ≤ o → f.2 = true) : good o := by
  induction o using Nat.strong_induction_on with
  | _ o ih =>
    by_cases ho : o ∈ fields.map Prod.fst
    · obtain ⟨f, hf, rfl⟩ := List.mem_map.mp ho
      exact (h.agrees f hf fun o hlt => ih o hlt fun g hg hle => hpass g hg (hle.trans hlt.le)).mp (hpass f hf le_rfl)
    · exact h.others o ho

theorem ChecksFields.firstBad_eq_none (h : ChecksFields fields good) : firstBad fields = none ↔ ∀ o, good o := by
  rw [Machine.firstBad_eq_none]
  exact ⟨fun hall o => h.good_of_passed fun f hf _ => hall f hf,
    fun hall f hf => (h.agrees f hf fun o _ => hall o).mpr (hall _)⟩

/-- A record without a bad field is told by its checked fields (R24). -/
theorem ChecksFields.firstBad_eq_none_iff (h : ChecksFields fields good) :
    firstBad fields = none ↔ ∀ o ∈ fields.map Prod.fst, good o := by
  refine h.firstBad_eq_none.trans ⟨fun hall o _ => hall o, fun hall o => ?_⟩
  by_cases ho : o ∈ fields.map Prod.fst
  · exact hall o ho
  · exact h.others o ho

/-- The field named is the one of least offset that is not good (R24). -/
theorem ChecksFields.firstBad_eq_some (h : ChecksFields fields good) {o : Nat} :
    firstBad fields = some o ↔ ¬good o ∧ ∀ o' < o, good o' := by
  rw [Machine.firstBad_eq_some]
  constructor
  · rintro ⟨before, rest, rfl, hbefore⟩
    obtain ⟨-, hrest, -⟩ := List.pairwise_append.mp (List.pairwise_map.mp h.rising)
    have hbelow : ∀ o' < o, good o' := fun o' hlt => h.good_of_passed fun f hf hle => by
      rcases List.mem_append.mp hf with hf | hf
      · exact hbefore f hf
      · rcases List.mem_cons.mp hf with rfl | hf
        · exact absurd hlt hle.not_gt
        · exact absurd (hle.trans_lt hlt) ((List.pairwise_cons.mp hrest).1 f hf).not_gt
    exact ⟨fun hgood => absurd ((h.agrees (o, false) (by simp) hbelow).mpr hgood) Bool.false_ne_true, hbelow⟩
  · rintro ⟨hbad, hbelow⟩
    have hmem : o ∈ fields.map Prod.fst := by_contra fun hno => hbad (h.others o hno)
    obtain ⟨⟨p, passes⟩, hf, rfl⟩ := List.mem_map.mp hmem
    obtain rfl : passes = false := by
      rw [Bool.eq_false_iff]
      exact fun hpass => hbad ((h.agrees _ hf hbelow).mp hpass)
    obtain ⟨before, rest, rfl⟩ := List.append_of_mem hf
    obtain ⟨-, -, hacross⟩ := List.pairwise_append.mp (List.pairwise_map.mp h.rising)
    refine ⟨before, rest, rfl, fun f hmem => ?_⟩
    have hlt : f.1 < p := hacross f hmem _ List.mem_cons_self
    exact (h.agrees f (List.mem_append_left _ hmem) fun o ho => hbelow o (ho.trans hlt)).mpr (hbelow _ hlt)

/-- Checks that agree with their fields wherever they stand. -/
theorem ChecksFields.of_agrees (hrising : (fields.map Prod.fst).Pairwise (· < ·))
    (hagrees : ∀ f ∈ fields, (f.2 = true ↔ good f.1)) (hothers : ∀ o, o ∉ fields.map Prod.fst → good o) :
    ChecksFields fields good := ⟨hrising, fun f hf _ => hagrees f hf, hothers⟩

end Checks

theorem within_iff {lo hi n : Nat} : within lo hi n = true ↔ lo ≤ n ∧ n ≤ hi := by simp [within]

theorem multipleOf_iff {d n : Nat} : multipleOf d n = true ↔ n % d = 0 := by simp [multipleOf]

/-- Two bytes make at most 65,535 (R199). -/
theorem Memory.read16_le (m : Memory) (a : Nat) : m.read16 a ≤ 65535 := by
  have h0 := (m.read a).isLt
  have h1 := (m.read (a + 1)).isLt
  unfold Memory.read16
  omega

theorem rec8_le (m : Memory) (a : Nat) : rec8 m a ≤ 255 := by
  have := (m.read a).isLt
  unfold rec8
  omega

/-! ## SET_PLAN -/

theorem setPlanChecks_offsets (size : Nat) (c : CommandUnit) : (setPlanChecks size c).map Prod.fst =
    [0x001, 0x002, 0x008, 0x00C, 0x010, 0x012, 0x014, 0x015, 0x016, 0x018, 0x01A] := rfl

theorem setPlanChecks_checks (size : Nat) (c : CommandUnit) :
    ChecksFields (setPlanChecks size c) (SetPlanFieldGood size c) := by
  refine .of_agrees (by rw [setPlanChecks_offsets]; decide) ?_ fun o ho => ?_
  · have hcount : rec8 c.shadow 0x002 ≤ 255 := rec8_le ..
    have harea := c.shadow.read16_le 0x018
    have hfloor := c.shadow.read16_le 0x01A
    simp only [setPlanChecks, List.forall_mem_cons, SetPlanFieldGood, within_iff, ringCountOk, ringBaseOk, multipleOf_iff,
      Config.bulletinBytes, Bool.and_eq_true, Bool.or_eq_true, Bool.not_eq_true', decide_eq_true_eq,
      List.contains_iff_mem, Nat.succ_le_iff, and_assoc, hcount, harea, hfloor, and_true, true_and]
    refine ⟨Iff.rfl, Iff.rfl, ?_, ?_, Iff.rfl, Iff.rfl, Iff.rfl, nofun⟩ <;> rw [ringFlag] <;>
      cases (c.shadow.read 0).getLsbD 0 <;> simp [or_iff_not_imp_left]
  · rw [setPlanChecks_offsets] at ho
    unfold SetPlanFieldGood
    split <;> simp at ho ⊢

/-! ## OPEN_STRIP -/

theorem dxOfByte_iff {b : Nat} (h : b ≤ 255) : b ≤ 3 ∨ 0xFD ≤ b ↔ -3 ≤ dxOfByte b ∧ dxOfByte b ≤ 3 := by
  unfold dxOfByte
  split <;> omega

theorem overrideOk_iff {o : Option Nat} {lo hi : Nat} : overrideOk o lo hi = true ↔ ∀ x, o = some x → lo ≤ x ∧ x ≤ hi := by
  cases o <;> simp [overrideOk, within]

theorem overrideField_le {m : Memory} {presence value bound : Nat} (h : value ≤ bound) :
    ∀ x, overrideField m presence value = some x → x ≤ bound := by
  unfold overrideField
  split <;> simp [h]

theorem overridden_dense_iff (o : Overrides) (st : Settings) :
    (∀ x, o.tDense = some x → 1 ≤ x ∧ x ≤ 255)
        ∧ ((o.tFaint.isSome = true ∨ effectivePairOk st o = true) ∨ o.tDense.isNone = true)
      ↔ ∀ d, o.tDense = some d → 1 ≤ d ∧ d ≤ 255 ∧ (o.tFaint = none → d < st.tFaint) := by
  cases hd : o.tDense <;> cases hf : o.tFaint <;> simp [effectivePairOk, hd, hf, and_assoc]

theorem overridden_faint_iff (o : Overrides) (st : Settings) :
    (∀ x, o.tFaint = some x → 2 ≤ x ∧ x ≤ 256) ∧ (o.tFaint.isNone = true ∨ effectivePairOk st o = true)
      ↔ ∀ f, o.tFaint = some f → 2 ≤ f ∧ f ≤ 256 ∧ o.tDense.getD st.tDense < f := by
  cases hf : o.tFaint <;> simp [effectivePairOk, hf, and_assoc]

theorem openStripChecks_offsets (size : Nat) (c : CommandUnit) : (openStripChecks size c).map Prod.fst =
    [0x000, 0x002, 0x004, 0x008, 0x00C, 0x010, 0x014, 0x018, 0x01C, 0x01D, 0x020, 0x022, 0x024, 0x025, 0x028, 0x02C, 0x030,
      0x034, 0x03A, 0x03C, 0x03E, 0x042, 0x044, 0x046, 0x048, 0x04A] := rfl

theorem openStripChecks_checks (size : Nat) (c : CommandUnit) :
    ChecksFields (openStripChecks size c)
      (OpenStripFieldGood size c (openStripRecord c.shadow) (openStripOverrides c.shadow)) := by
  refine .of_agrees (by rw [openStripChecks_offsets]; decide) ?_ fun o ho => ?_
  · have hdx := dxOfByte_iff (rec8_le c.shadow 0x024)
    have harea : ∀ x, (openStripOverrides c.shadow).minArea = some x → x ≤ 65535 := overrideField_le (Memory.read16_le ..)
    have hfloor : ∀ x, (openStripOverrides c.shadow).irFloor = some x → x ≤ 65535 :=
      overrideField_le (Memory.read16_le ..)
    simp only [openStripChecks, List.forall_mem_cons, OpenStripFieldGood, within_iff, multipleOf_iff, overrideOk_iff,
      Config.bulletinBytes, Config.windowBytes, Bool.and_eq_true, Bool.or_eq_true, decide_eq_true_eq, and_assoc, Nat.zero_le,
      true_and]
    refine ⟨Iff.rfl, hdx, Iff.rfl, overridden_dense_iff .., overridden_faint_iff .., ?_, ?_, nofun⟩
    · exact forall₂_congr fun x hx => and_iff_left (harea x hx)
    · exact forall₂_congr fun x hx => and_iff_left (hfloor x hx)
  · rw [openStripChecks_offsets] at ho
    unfold OpenStripFieldGood
    split <;> simp at ho ⊢

/-! ## SET_FRAME -/

theorem Slot.isCurrent_iff {x : Slot} : x.isCurrent = true ↔ x.state ∈ [.planned, .active, .captured] := by
  unfold Slot.isCurrent
  cases x.state <;> simp

/-- No other window of the current generation shares a row with the record's (R80). -/
theorem overlapsOther_eq_false {slots : Vector Slot 8} {v : SlotId} {top bottom : Nat} :
    overlapsOther slots v top bottom = false ↔ ∀ u : SlotId, u ≠ v →
      (slots.get u).state ∈ [.planned, .active, .captured] → bottom < (slots.get u).top ∨ (slots.get u).bottom < top := by
  simp only [overlapsOther, List.any_eq_false, Bool.and_eq_true, decide_eq_true_eq, Slot.isCurrent_iff, mem_allSlots,
    forall_const, not_and, not_le]
  exact forall_congr' fun u => by grind

theorem ne_slotOfByte_iff {n : Nat} (h : n ≤ 7) (u : SlotId) : u ≠ slotOfByte n ↔ u.val ≠ n := by
  simp [slotOfByte, Fin.ext_iff, Nat.mod_eq_of_lt (Nat.lt_succ_of_le h)]

theorem setFramePlanChecks_offsets (size : Nat) (strip : Option StripRecord) (slots : Vector Slot 8) (m : Memory) :
    (setFramePlanChecks size strip slots m).map Prod.fst =
      [0x000, 0x001, 0x004, 0x008, 0x00C, 0x00E, 0x010, 0x014, 0x018, 0x01E] := rfl

theorem setFramePlanChecks_agrees {size : Nat} {r : StripRecord} {slots : Vector Slot 8} {m : Memory}
    (hslot : (m.read 0).toNat ≤ 7) :
    ∀ f ∈ setFramePlanChecks size (some r) slots m, (f.2 = true ↔ SetFrameFieldGood size r slots m f.1) := by
  have hother : ∀ u : SlotId, u ≠ slotOfByte (setFrameRecord m).slot ↔ u.val ≠ (m.read 0).toNat := ne_slotOfByte_iff hslot
  simp only [setFramePlanChecks, List.forall_mem_cons, SetFrameFieldGood, within_iff, multipleOf_iff,
    Config.bulletinBytes, Config.windowBytes, Bool.and_eq_true, decide_eq_true_eq, and_assoc, Bool.not_eq_true',
    overlapsOther_eq_false, Option.map_some, Option.getD_some, hother]
  exact ⟨Iff.rfl, Iff.rfl, Iff.rfl, Iff.rfl, Iff.rfl, Iff.rfl, Iff.rfl, Iff.rfl, Iff.rfl, Iff.rfl, nofun⟩

/-- A slot above 7 is named before the window is compared with the other slots' (R80). -/
theorem setFramePlanChecks_checks (size : Nat) (r : StripRecord) (slots : Vector Slot 8) (m : Memory) :
    ChecksFields (setFramePlanChecks size (some r) slots m) (SetFrameFieldGood size r slots m) where
  rising := by rw [setFramePlanChecks_offsets]; decide
  agrees f hf hbefore := by
    by_cases hslot : (m.read 0).toNat ≤ 7
    · exact setFramePlanChecks_agrees hslot f hf
    · obtain ⟨o, passes⟩ := f
      obtain rfl : o = 0 := by_contra fun hne => hslot (hbefore 0 (Nat.pos_of_ne_zero hne))
      have hpasses : passes = decide ((setFrameRecord m).slot ≤ 7) := by simpa [setFramePlanChecks] using hf
      exact Bool.eq_iff_iff.mp hpasses |>.trans decide_eq_true_iff
  others o ho := by
    rw [setFramePlanChecks_offsets] at ho
    unfold SetFrameFieldGood
    split <;> simp at ho ⊢

/-! ## What a record without a bad field holds -/

theorem setPlanChecks_good_iff {size : Nat} {c : CommandUnit} {m : Memory} (hm : m = c.shadow) :
    firstBad (setPlanChecks size c) = none ↔
      (m.read 1).toNat ≤ 1 ∧ 1 ≤ (m.read 2).toNat
      ∧ ((m.read 0).getLsbD 0 = true →
          m.read16 0x008 ∈ [0, 16, 32, 64, 128, 256, 512, 1024]
          ∧ (m.read16 0x008 ≠ 0 → m.read32 0x00C % 32 = 0 ∧ m.read32 0x00C + m.read16 0x008 * 32 + 4096 ≤ size))
      ∧ 1 ≤ m.read16 0x010 ∧ m.read16 0x010 < m.read16 0x012 ∧ m.read16 0x010 ≤ 255 ∧ m.read16 0x012 ≤ 256
      ∧ c.overrides.tDense.getD (m.read16 0x010) < c.overrides.tFaint.getD (m.read16 0x012)
      ∧ 1 ≤ (m.read 0x014).toNat ∧ (m.read 0x014).toNat ≤ 64 ∧ 1 ≤ (m.read 0x015).toNat
      ∧ (m.read 0x015).toNat ≤ 31 ∧ (m.read 0x015).toNat < (m.read 0x016).toNat ∧ (m.read 0x016).toNat ≤ 32
      ∧ 1 ≤ m.read16 0x018 ∧ 1 ≤ m.read16 0x01A := by
  subst hm
  rw [(setPlanChecks_checks size c).firstBad_eq_none_iff]
  simp only [setPlanChecks_offsets, List.forall_mem_cons, List.not_mem_nil, false_imp_iff,
    implies_true, and_true, SetPlanFieldGood]
  constructor
  · rintro ⟨hmode, hn, hcount, hbase, ⟨hdense, hdense'⟩, ⟨hlow, hfaint, hpair⟩, ⟨hw, hw'⟩, ⟨hb, hb'⟩, ⟨hu, hu'⟩, ha, hi⟩
    exact ⟨hmode, hn, fun hflag => ⟨hcount hflag, hbase hflag⟩, hdense, hlow, hdense', hfaint, hpair, hw, hw', hb, hb', hu,
      hu', ha, hi⟩
  · rintro ⟨hmode, hn, hring, hdense, hlow, hdense', hfaint, hpair, hw, hw', hb, hb', hu, hu', ha, hi⟩
    exact ⟨hmode, hn, fun hflag => (hring hflag).1, fun hflag => (hring hflag).2, ⟨hdense, hdense'⟩, ⟨hlow, hfaint, hpair⟩,
      ⟨hw, hw'⟩, ⟨hb, hb'⟩, ⟨hu, hu'⟩, ha, hi⟩

/-- The two threshold overrides are good together exactly when each lies in its range and, if there is one, the pair stays
apart (R30). -/
theorem overridden_pair_iff (o : Overrides) (st : Settings) :
    ((∀ d, o.tDense = some d → 1 ≤ d ∧ d ≤ 255 ∧ (o.tFaint = none → d < st.tFaint))
        ∧ ∀ f, o.tFaint = some f → 2 ≤ f ∧ f ≤ 256 ∧ o.tDense.getD st.tDense < f)
      ↔ (∀ x, o.tDense = some x → 1 ≤ x ∧ x ≤ 255) ∧ (∀ x, o.tFaint = some x → 2 ≤ x ∧ x ≤ 256)
        ∧ ((o.tDense ≠ none ∨ o.tFaint ≠ none) → o.tDense.getD st.tDense < o.tFaint.getD st.tFaint) := by
  cases o.tDense <;> cases o.tFaint <;> simp [and_assoc]

theorem openStripChecks_good_iff {size : Nat} {c : CommandUnit} {m : Memory} {r : StripRecord} {o : Overrides}
    (hm : m = c.shadow) (hr : r = openStripRecord m) (ho : o = openStripOverrides m) :
    firstBad (openStripChecks size c) = none ↔
        (m.read 0).toNat ≤ 1 ∧ 1 ≤ r.surveyWidth ∧ r.surveyWidth ≤ 8192
        ∧ r.surveyPitch % 8 = 0 ∧ r.surveyWidth * 8 ≤ r.surveyPitch
        ∧ 1 ≤ r.surveyRows ∧ r.surveyRows ≤ 4096 ∧ r.surveyRows * r.surveyPitch ≤ 0x10000000
        ∧ r.surveyBase % 32 = 0 ∧ r.surveyBase + r.surveyRows * r.surveyPitch + 4096 ≤ size
        ∧ 1 ≤ r.captureWidth ∧ r.capturePitch % 8 = 0 ∧ r.captureWidth * 8 ≤ r.capturePitch
        ∧ 1 ≤ r.captureRows ∧ r.captureRows * r.capturePitch ≤ 0x10000000
        ∧ 1 ≤ r.kc ∧ r.kc ≤ 16 ∧ 1 ≤ r.ks ∧ r.ks ≤ 16
        ∧ r.filmLeft ≤ r.filmRight ∧ r.filmRight < r.captureWidth ∧ r.filmRight - r.filmLeft + 1 ≤ 8192
        ∧ r.filmRight * r.ks / r.kc < r.surveyWidth ∧ -3 ≤ r.dx ∧ r.dx ≤ 3 ∧ (m.read 0x025).toNat ≤ 2
        ∧ r.bandAreaBase % 32 = 0 ∧ r.bandStride % 32 = 0 ∧ 8 ≤ r.bandLines ∧ r.bandLines ≤ 4096
        ∧ r.bandPitch % 32 = 0 ∧ (r.filmRight - r.filmLeft + 1) * 8 ≤ r.bandPitch
        ∧ r.bandLines * r.bandPitch ≤ 0x02000000
        ∧ r.bandAreaBase + 7 * r.bandStride + r.bandLines * r.bandPitch + 4096 ≤ size
        ∧ 1 ≤ r.params.minGap ∧ r.params.minGap ≤ 64 ∧ 8 ≤ r.params.frameLength ∧ r.params.frameLength ≤ 2048
        ∧ r.params.nominalGap ≤ 256
        ∧ (∀ x, o.tDense = some x → 1 ≤ x ∧ x ≤ 255) ∧ (∀ x, o.tFaint = some x → 2 ≤ x ∧ x ≤ 256)
        ∧ (∀ x, o.wMax = some x → 1 ≤ x ∧ x ≤ 64) ∧ (∀ x, o.minArea = some x → 1 ≤ x)
        ∧ (∀ x, o.irFloor = some x → 1 ≤ x)
        ∧ ((o.tDense ≠ none ∨ o.tFaint ≠ none) → o.tDense.getD c.standing.tDense < o.tFaint.getD c.standing.tFaint) := by
  subst hm hr ho
  have hpair := overridden_pair_iff (openStripOverrides c.shadow) c.standing
  have hleft : (openStripRecord c.shadow).filmLeft ≤ (openStripRecord c.shadow).filmRight →
      (openStripRecord c.shadow).filmRight < (openStripRecord c.shadow).captureWidth →
      (openStripRecord c.shadow).filmLeft < (openStripRecord c.shadow).captureWidth := lt_of_le_of_lt
  rw [(openStripChecks_checks size c).firstBad_eq_none_iff]
  simp only [openStripChecks_offsets, List.forall_mem_cons, List.not_mem_nil, false_imp_iff,
    implies_true, and_true, OpenStripFieldGood, and_assoc]
  grind

/-- Settles O52: each list of checks agrees with its record's fields in ascending offset, so the first check that fails names the
least bad field. -/
theorem fieldsChecked : Obligations.FieldsChecked :=
  ⟨fun _ _ => firstBad_eq_some, fun _ _ _ => setPlanChecks_good_iff, fun _ _ _ _ _ => openStripChecks_good_iff,
    fun size c _ => (setPlanChecks_checks size c).firstBad_eq_some,
    fun size c _ => (openStripChecks_checks size c).firstBad_eq_some,
    fun size r slots m => ⟨(setFramePlanChecks_checks size r slots m).firstBad_eq_none,
      fun _ => (setFramePlanChecks_checks size r slots m).firstBad_eq_some⟩⟩

end Sys2Proof.Machine

/-! # The standing settings, the overrides and the column mend list (R28 to R32). -/

namespace Sys2Proof.Machine

/-! ## What an effect does to the Command Unit's settings -/

/-- A property of the settings, the overrides and the column mend list that survives each thing a command does to them, each
under what the command has checked by then. -/
structure KeptBySettings (Q : CommandUnit → Prop) : Prop where
  snooped : ∀ c shadow posted, Q c → Q { c with shadow := shadow, posted := posted }
  cleared : ∀ c, Q c → Q { c with overrides := .none }
  powerOn : Q ⟨[], .powerOn, .none, [], none⟩
  plan : ∀ size c, Q c → firstBad (setPlanChecks size c) = none →
    Q { c with standing := setPlanSettings c.shadow c.standing }
  strip : ∀ size c, Q c → firstBad (openStripChecks size c) = none →
    Q { c with overrides := openStripOverrides c.shadow }
  columns : ∀ c, Q c → firstBad (setColumnsChecks c.shadow) = none → Q { c with columns := setColumnsList c.shadow }

/-- CU's snoop reaches the shadow and the posted kind alone (R20, R21). -/
theorem State.commandSnoop_cu (offset : Nat) (b : Beat) (s : State) :
    ∃ shadow posted, (s.commandSnoop offset b).cu = { s.cu with shadow := shadow, posted := posted } := by
  unfold State.commandSnoop
  split
  · exact ⟨_, _, rfl⟩
  · split
    · split
      · exact ⟨_, _, rfl⟩
      · exact ⟨s.cu.shadow, s.cu.posted, State.count_cu ..⟩
    · exact ⟨_, _, rfl⟩

theorem State.runCommandUnit_cu (s : State) :
    ∃ shadow posted, s.runCommandUnit.cu = { s.cu with shadow := shadow, posted := posted } := by
  unfold State.runCommandUnit
  split
  · split
    · exact State.commandSnoop_cu ..
    · exact ⟨_, _, rfl⟩
  · exact ⟨_, _, rfl⟩

theorem State.watchedWordEffect_cu (s : State) :
    ∃ shadow posted, s.watchedWordEffect.cu = { s.cu with shadow := shadow, posted := posted } := by
  unfold State.watchedWordEffect
  split
  · rename_i w _
    obtain ⟨shadow, posted, h⟩ := (s.dropHandOver.watchedWrite w.beat).runCommandUnit_cu
    exact ⟨shadow, posted, by rw [h, State.watchedWrite_cu, State.dropHandOver_cu]⟩
  · exact ⟨_, _, rfl⟩

theorem State.closeStripEffect_cu (s : State) : s.closeStripEffect.cu = { s.cu with overrides := .none } := by
  rw [State.closeStripEffect_eq, State.endRowHold_cu, State.closeReleased_cu]

theorem State.restartEffect_cu (s : State) :
    s.restartEffect.cu = { s.cu with shadow := [], overrides := .none } :=
  congrArg State.cu s.restartEffect_blocks

theorem State.openStripEffect_cu (s : State) :
    s.openStripEffect.cu = { s.cu with overrides := openStripOverrides s.cu.shadow } := by
  simp [State.openStripEffect]

section Kept
variable {Q : CommandUnit → Prop} (h : KeptBySettings Q)
include h

theorem KeptBySettings.closeStripEffect {s : State} (hs : Q s.cu) : Q s.closeStripEffect.cu := by
  rw [State.closeStripEffect_cu]
  exact h.cleared _ hs

theorem KeptBySettings.restartEffect {s : State} (hs : Q s.cu) : Q s.restartEffect.cu := by
  rw [State.restartEffect_cu]
  exact h.snooped _ _ _ (h.cleared _ hs)

theorem KeptBySettings.pendingEffects {s : State} (hs : Q s.cu) : Q s.pendingEffects.cu := by
  unfold State.pendingEffects
  split
  · split
    · exact h.restartEffect hs
    · split
      · exact h.closeStripEffect hs
      · exact hs
  · exact hs

theorem KeptBySettings.endClassification {s : State} {k : Classification} (hs : Q s.cu) :
    Q (s.endClassification k).cu := by
  have hended : (State.endFrameIfLast k ((s.recordRow k).emptyHalf k)).cu = s.cu := by simp
  unfold State.endClassification
  dsimp only
  split
  · exact h.pendingEffects (hended.symm ▸ hs)
  · simpa using hs

theorem KeptBySettings.bulletinWriteEffect {s : State} {w : WordItem} (hs : Q s.cu) : Q (s.bulletinWriteEffect w).cu := by
  obtain ⟨shadow, posted, hcu⟩ := State.runCommandUnit_cu
    (State.wordWritten (s.bulletinHandOvers w.address) { s with mem := s.mem.writeBeat w.address w.beat })
  rw [State.bulletinWriteEffect, hcu, State.wordWritten_cu]
  exact h.snooped _ _ _ hs

theorem KeptBySettings.watchedWordEffect {s : State} (hs : Q s.cu) : Q s.watchedWordEffect.cu := by
  obtain ⟨shadow, posted, hcu⟩ := s.watchedWordEffect_cu
  rw [hcu]
  exact h.snooped _ _ _ hs

theorem KeptBySettings.closeStripTaken {s : State} (hs : Q s.cu) : Q s.closeStripTaken.cu := by
  unfold State.closeStripTaken
  split
  · exact hs
  · exact h.closeStripEffect hs

theorem KeptBySettings.restartTaken {s : State} (hs : Q s.cu) : Q s.restartTaken.cu := by
  unfold State.restartTaken
  split
  · exact hs
  · exact h.restartEffect hs

theorem KeptBySettings.openStripEffect {s : State} (hs : Q s.cu)
    (hgood : firstBad (openStripChecks s.mc.size s.cu) = none) : Q s.takePosted.openStripEffect.cu := by
  rw [State.openStripEffect_cu]
  exact h.snooped _ s.cu.shadow none (h.strip _ _ hs hgood)

/-- Every effect keeps what every change of the settings keeps. -/
theorem KeptBySettings.effects : KeptByEffects fun s => Q s.cu where
  settle _ hs := hs
  queue _ _ hs := hs
  tick _ hs := hs
  abandon _ hs := h.snooped _ _ _ hs
  powerOn _ _ := h.powerOn
  startup _ hs := hs
  present _ _ hs := hs
  offerHeld _ hs := hs
  complete _ _ hs := hs
  finish _ hs := h.pendingEffects (s := State.mk _ _ _ _ _ _ _ _ _ _ _ _) hs
  grant _ _ hs _ := by simpa using hs
  plainWrite _ _ hs := by simpa using hs
  plainRead _ _ hs := by simpa using hs
  bulletinWrite _ _ hs := h.bulletinWriteEffect hs
  takenCount _ hs := by simpa using hs
  watchedWord _ hs := h.watchedWordEffect hs
  unbacked _ _ hs := by simpa using hs
  intakeWrite _ _ hs := by simpa using hs
  wordRead _ _ hs := hs
  viewRead _ _ hs := by simpa using hs
  wordWritten _ _ hs := hs
  locate _ _ hs := by simpa using hs
  classification _ _ hs := h.endClassification hs
  frameEnd _ _ hs _ := by simpa using hs
  load _ hs := by simpa using hs
  closeRejected _ hs := by simpa using hs
  writeRecord _ _ hs := hs
  closeFull _ hs := by simpa using hs
  closeFrameEnd _ _ hs := by simpa using hs
  report _ _ _ hs := by simpa using hs
  refreshExpires _ hs := by simpa using hs
  retire _ hs := hs
  timerExpires _ hs := hs
  takePosted _ hs := h.snooped _ _ _ hs
  stageAck _ _ _ _ hs := hs
  settings _ hs _ hgood := h.snooped _ _ _ (h.plan _ _ hs hgood)
  ring _ hs _ hgood := h.snooped _ _ _ (h.plan _ _ hs hgood)
  openStrip _ hs hgood := h.openStripEffect hs hgood
  beginSurvey _ hs := hs
  relocate _ hs := by simpa using hs
  setFramePlan _ hs := hs
  setFrameRelease _ hs := hs
  beginCapture _ hs := hs
  endPass _ hs := by simpa using hs
  closeStrip _ hs := h.closeStripTaken hs
  columns _ hs hgood := h.snooped _ _ _ (h.columns _ hs hgood)
  attach _ _ hs := by simpa using hs
  detach _ hs := by simpa using hs
  publish _ hs := by simpa using hs
  clearFault _ hs := hs
  restart _ hs := h.restartTaken hs

end Kept

/-! ## The thresholds -/

/-- T_dense is below T_faint, standing and effective (R28, R30). -/
def CommandUnit.ThresholdsOrdered (c : CommandUnit) : Prop :=
  c.standing.tDense < c.standing.tFaint ∧ c.effDense < c.effFaint

theorem setPlan_thresholdsOrdered {size : Nat} {c : CommandUnit} (h : firstBad (setPlanChecks size c) = none) :
    CommandUnit.ThresholdsOrdered { c with standing := setPlanSettings c.shadow c.standing } := by
  obtain ⟨hlow, -, hpair⟩ : SetPlanFieldGood size c 0x012 := (setPlanChecks_checks size c).firstBad_eq_none.mp h _
  exact ⟨hlow, hpair⟩

theorem openStrip_thresholdsOrdered {size : Nat} {c : CommandUnit} (hc : c.ThresholdsOrdered)
    (h : firstBad (openStripChecks size c) = none) :
    CommandUnit.ThresholdsOrdered { c with overrides := openStripOverrides c.shadow } := by
  have hgood := (openStripChecks_checks size c).firstBad_eq_none.mp h
  have hdense := hgood 0x042
  have hfaint := hgood 0x044
  refine ⟨hc.1, ?_⟩
  simp only [OpenStripFieldGood, CommandUnit.effDense, CommandUnit.effFaint] at hdense hfaint ⊢
  cases hf : (openStripOverrides c.shadow).tFaint with
  | some f => exact (hfaint f hf).2.2
  | none =>
    cases hd : (openStripOverrides c.shadow).tDense with
    | some d => exact (hdense d hd).2.2 hf
    | none => exact hc.1

theorem thresholdsOrdered_kept : KeptBySettings CommandUnit.ThresholdsOrdered where
  snooped _ _ _ h := h
  cleared _ h := ⟨h.1, h.1⟩
  powerOn := ⟨by decide, by decide⟩
  plan _ _ _ := setPlan_thresholdsOrdered
  strip _ _ := openStrip_thresholdsOrdered
  columns _ h _ := h

/-- Settles O7: SET_PLAN and OPEN_STRIP check the pair they make effective, and every other change of the settings ends the
overrides. -/
theorem stepKeepsThresholdsOrdered : Obligations.StepKeepsThresholdsOrdered :=
  fun _ _ hs he => thresholdsOrdered_kept.effects.step hs he

/-! ## The column mend list -/

theorem mem_insertOnce {n c : Nat} {l : List Nat} : c ∈ insertOnce n l ↔ c = n ∨ c ∈ l := by
  induction l with
  | nil => simp [insertOnce]
  | cons m rest ih =>
    unfold insertOnce
    split
    · simp
    · split
      · simp_all
      · simp only [List.mem_cons, ih]
        tauto

theorem pairwise_insertOnce {n : Nat} {l : List Nat} (h : l.Pairwise (· < ·)) : (insertOnce n l).Pairwise (· < ·) := by
  induction l with
  | nil => simp [insertOnce]
  | cons m rest ih =>
    obtain ⟨hm, hrest⟩ := List.pairwise_cons.mp h
    unfold insertOnce
    split
    · refine List.pairwise_cons.mpr ⟨fun c hc => ?_, h⟩
      rcases List.mem_cons.mp hc with rfl | hc
      · assumption
      · have := hm c hc
        omega
    · split
      · exact h
      · refine List.pairwise_cons.mpr ⟨fun c hc => ?_, ih hrest⟩
        rcases mem_insertOnce.mp hc with rfl | hc
        · omega
        · exact hm c hc

theorem length_insertOnce_le (n : Nat) (l : List Nat) : (insertOnce n l).length ≤ l.length + 1 := by
  induction l with
  | nil => simp [insertOnce]
  | cons m rest ih =>
    unfold insertOnce
    split
    · simp
    · split
      · simp
      · simpa using ih

/-- Sorting keeps the members of a list (R32). -/
theorem mem_sortOnce {c : Nat} {l : List Nat} : c ∈ sortOnce l ↔ c ∈ l := by
  induction l with
  | nil => rfl
  | cons n rest ih => rw [sortOnce, mem_insertOnce, ih, List.mem_cons]

/-- A sorted list ascends, each member once (R32). -/
theorem pairwise_sortOnce (l : List Nat) : (sortOnce l).Pairwise (· < ·) := by
  induction l with
  | nil => exact .nil
  | cons n rest ih => exact pairwise_insertOnce ih

theorem length_sortOnce_le (l : List Nat) : (sortOnce l).length ≤ l.length := by
  induction l with
  | nil => exact Nat.le_refl 0
  | cons n rest ih =>
    have := length_insertOnce_le n (sortOnce rest)
    rw [sortOnce, List.length_cons]
    omega

/-- At most 16 columns, each once, in ascending order (R32). -/
def CommandUnit.ColumnsAscend (c : CommandUnit) : Prop := c.columns.length ≤ 16 ∧ c.columns.Pairwise (· < ·)

theorem setColumns_columnsAscend {c : CommandUnit} (h : firstBad (setColumnsChecks c.shadow) = none) :
    CommandUnit.ColumnsAscend { c with columns := setColumnsList c.shadow } := by
  have hcount : rec8 c.shadow 0x000 ≤ 16 := by simpa [setColumnsChecks, firstBad] using h
  have hlen := length_sortOnce_le ((List.range (rec8 c.shadow 0x000)).map fun i => c.shadow.read16 (0x004 + 2 * i))
  rw [List.length_map, List.length_range] at hlen
  exact ⟨hlen.trans hcount, pairwise_sortOnce _⟩

theorem columnsAscend_kept : KeptBySettings CommandUnit.ColumnsAscend where
  snooped _ _ _ h := h
  cleared _ h := h
  powerOn := ⟨Nat.zero_le 16, .nil⟩
  plan _ _ h _ := h
  strip _ _ h _ := h
  columns _ _ := setColumns_columnsAscend

/-- Settles O10: SET_COLUMNS alone changes the list, to a sorted one of at most 16 entries. -/
theorem stepKeepsColumnsAscending : Obligations.StepKeepsColumnsAscending :=
  fun _ _ hs he => columnsAscend_kept.effects.step hs he

/-- Settles O11: each invariant speaks of blocks that are at their power-on values. -/
theorem resetMeetsInvariants : Obligations.ResetMeetsInvariants := by
  refine ⟨⟨rfl, rfl⟩, ?_, ?_, thresholdsOrdered_kept.powerOn, ?_, ⟨.nil, nofun⟩, columnsAscend_kept.powerOn⟩
  · simp [State.Bounded, State.reset, State.powerOn, MemoryController.powerOn, ReportUnit.powerOn, ListWriter.powerOn,
      BlemishTracker.powerOn]
  · simp [State.PromotionsCounted, State.reset, State.powerOn, MemoryController.powerOn]
  · simp [State.RingWindow, State.reset, State.powerOn, ReportUnit.powerOn, ReportUnit.unread, Settings.powerOn]

end Sys2Proof.Machine

/-! # The posted commands: their checks, their refusals and their carrying out (R22 to R26, R33). -/

namespace Sys2Proof.Machine

/-! ## The shared form -/

/-- The checks of a posted command, as its row of the table makes them (R22, R25, R26). -/
def State.checksOf (s : State) : Instr → PostChecks
  | .setPlan => ⟨false, none, firstBad (setPlanChecks s.mc.size s.cu)⟩
  | .setPlanRing =>
    ⟨true, if s.ru.produced = s.ru.taken then none else some detailRingBacklog, firstBad (setPlanChecks s.mc.size s.cu)⟩
  | .openStrip => ⟨true, passReason s [.stripClosed, .stripOpen, .planned], firstBad (openStripChecks s.mc.size s.cu)⟩
  | .beginSurvey => ⟨true, passReason s [.stripOpen, .planned], none⟩
  | .relocate => ⟨true, passReason s [.planned], firstBad (relocateChecks s.cu.shadow)⟩
  | .setFramePlan =>
    ⟨true, passReason s [.stripOpen, .planned],
      firstBad (setFramePlanChecks s.mc.size s.iu.strip s.fl.slots s.cu.shadow)⟩
  | .setFrameRelease =>
    ⟨true, passReason s [.stripOpen, .planned, .stripClosed], firstBad (setFrameReleaseChecks s.cu.shadow)⟩
  | .beginCapture =>
    ⟨true, (passReason s [.stripOpen, .planned]).or (if s.hasPlanned then none else some detailNoPlanned), none⟩
  | .endPass => ⟨true, passReason s [.surveying, .capturing], none⟩
  | .closeStrip => ⟨false, if s.iu.pass = .stripClosed then some detailPass else none, none⟩
  | .setColumns =>
    ⟨false, if s.iu.pass = .capturing ∨ s.iu.pass = .draining then some detailPass else none,
      firstBad (setColumnsChecks s.cu.shadow)⟩
  | .chain => ⟨false, if s.lw.state = .unchained then none else some detailWriter, none⟩
  | .chainDetach => ⟨false, if s.lw.state = .unchained then some detailWriter else none, none⟩
  | .probeSpan => ⟨false, none, firstBad (probeSpanChecks s.cu.shadow)⟩
  | _ => ⟨false, none, none⟩

/-- What a posted command does once its checks are passed. -/
def State.carryOf (s : State) : Instr → State → State
  | .setPlan => carryDone 0x01 State.applySettings
  | .setPlanRing => State.applyRing
  | .openStrip => carryDone 0x02 State.openStripEffect
  | .beginSurvey => carryDone 0x03 State.beginSurveyEffect
  | .relocate => carryAccepted 0x04 State.relocateEffect
  | .setFramePlan => carryDone 0x05 State.setFramePlanEffect
  | .setFrameRelease => carryDone 0x05 State.setFrameReleaseEffect
  | .beginCapture => carryDone 0x06 State.beginCaptureEffect
  | .endPass => carryAccepted 0x07 State.endPassEffect
  | .closeStrip => State.closeStripTaken
  | .setColumns => carryDone 0x09 State.applyColumns
  | .chain => carryDone 0x0A (State.attachChain (chainHead s.cu.shadow))
  | .chainDetach => carryDone 0x0A State.detachChain
  | .probeSpan => fun t => t.stageAck 0x0B .done (probeDetail t.probe)
  | .publishCounters => carryDone 0x0C State.publishEffect
  | .clearFault => carryDone 0x0D fun t => { t with fault := { t.fault with locked := false } }
  | .restart => State.restartTaken
  | _ => id

section Post
variable {s : State} {c : Instr} {k : Byte}

theorem occurs_of {cond : Bool} {after : State} (h : cond = true) : occurs cond after s = .next after.settleRequests := by
  rw [h, occurs_true]

theorem State.posts_of {kind : Nat} (h : s.cu.posted = some (byteOf kind)) : s.posts kind = true := decide_eq_true h

/-- The action byte tells the two rows of SET_FRAME apart (R210). -/
theorem frameActionIsRelease_iff {m : Memory} : frameActionIsRelease m = true ↔ m.read 1 = 1 := by
  rw [← BitVec.toNat_inj]
  exact decide_eq_true_iff

/-- A posted command is a post with its checks and its effect (R22). -/
theorem exec_eq_post (hp : s.Posts c) (hk : postKind c = some k) :
    exec c s = .next (s.post k.toNat (s.checksOf c) (s.carryOf c)).settleRequests := by
  obtain ⟨⟨k', hk', hposted⟩, hplan, hring, hframe, hrelease, hchain, hdetach⟩ := hp
  obtain rfl : k = k' := Option.some.inj (hk.symm.trans hk')
  cases c <;> cases hk
  case setPlan =>
    exact occurs_of (by rw [State.posts_of hposted, ringFlag, hplan rfl]; rfl)
  case setPlanRing =>
    exact occurs_of (by rw [State.posts_of hposted, ringFlag, hring rfl]; rfl)
  case setFramePlan =>
    have hplans : frameActionIsRelease s.cu.shadow = false := by
      rw [Bool.eq_false_iff, Ne, frameActionIsRelease_iff]
      exact hframe rfl
    exact occurs_of (by rw [State.posts_of hposted, hplans]; rfl)
  case setFrameRelease =>
    exact occurs_of (by rw [State.posts_of hposted, frameActionIsRelease_iff.mpr (hrelease rfl)]; rfl)
  case chain =>
    exact occurs_of (by rw [State.posts_of hposted]; exact decide_eq_true (hchain rfl))
  case chainDetach =>
    exact occurs_of (by rw [State.posts_of hposted]; exact decide_eq_true (hdetach rfl))
  all_goals exact occurs_of (State.posts_of hposted)

/-- A post that meets a refusal is taken and its ACK staged, and nothing else happens (R22). -/
theorem exec_refused {o : AckOutcome} {d : Nat} (hp : s.Posts c) (hk : postKind c = some k)
    (h : s.refusalOf (s.checksOf c) = some (o, d)) :
    exec c s = .next (s.takePosted.stageAck k o (BitVec.ofNat 32 d)).settleRequests := by
  rw [exec_eq_post hp hk, State.post_refused h, byteOf, BitVec.ofNat_toNat, BitVec.setWidth_eq]

/-- The busy check is made of the commands subject to it (R25). -/
theorem State.busySubject_of_busy (h : (s.checksOf c).busy = true) : BusySubject c := by
  cases c <;> cases h <;> simp [BusySubject]

theorem State.busy_of_busySubject (h : BusySubject c) : (s.checksOf c).busy = true := by
  simp only [BusySubject, List.mem_cons, List.not_mem_nil, or_false] at h
  rcases h with rfl | rfl | rfl | rfl | rfl | rfl | rfl | rfl <;> rfl

/-- No busy condition stands (R25). -/
theorem State.busyCause_eq_none (h : s.iu.pass ≠ .locating ∧ s.bt.classifying = none ∧ s.bt.frameEnd = none) :
    s.busyCause = none := by
  obtain ⟨hpass, hclass, hframe⟩ := h
  simp [State.busyCause, hpass, hclass, hframe]

/-- Past the RESTART and busy checks a post is refused by its state or its fields alone (R22). -/
theorem State.TakesPost.refusalOf_eq (h : s.TakesPost c) :
    s.refusalOf (s.checksOf c) = match (s.checksOf c).reason with
      | some d => some (.refusedState, d)
      | none => (s.checksOf c).badField.map fun o => (.refusedMalformed, o) := by
  obtain ⟨-, hrestart, hbusy⟩ := h
  have hfree : (if (s.checksOf c).busy then s.busyCause else none) = none := by
    split
    · rename_i hb
      exact State.busyCause_eq_none (hbusy (State.busySubject_of_busy hb))
    · rfl
  rw [State.refusalOf, hrestart, hfree]
  rfl

theorem exec_refusedBusy {d : Nat} (hp : s.Posts c) (hk : postKind c = some k) (hr : s.bt.restartPending = false)
    (hb : BusySubject c) (hd : s.busyCause = some d) :
    exec c s = .next (s.takePosted.stageAck k .refusedBusy (BitVec.ofNat 32 d)).settleRequests :=
  exec_refused hp hk (by simp [State.refusalOf, hr, State.busy_of_busySubject hb, hd])

theorem exec_refusedState {d : Nat} (h : s.TakesPost c) (hk : postKind c = some k)
    (hd : (s.checksOf c).reason = some d) :
    exec c s = .next (s.takePosted.stageAck k .refusedState (BitVec.ofNat 32 d)).settleRequests :=
  exec_refused h.1 hk (by rw [h.refusalOf_eq, hd])

theorem exec_refusedMalformed {o : Nat} (h : s.TakesPost c) (hk : postKind c = some k)
    (hd : (s.checksOf c).reason = none) (ho : (s.checksOf c).badField = some o) :
    exec c s = .next (s.takePosted.stageAck k .refusedMalformed (BitVec.ofNat 32 o)).settleRequests :=
  exec_refused h.1 hk (by rw [h.refusalOf_eq, hd, ho]; rfl)

/-- A post that passes its checks is carried out (R22). -/
theorem exec_carried (h : s.TakesPost c) (hd : (s.checksOf c).reason = none) (ho : (s.checksOf c).badField = none) :
    exec c s = .next (s.carryOf c s.takePosted).settleRequests := by
  obtain ⟨⟨k, hk, -⟩, -⟩ := id h.1
  rw [exec_eq_post h.1 hk, State.post_carried]
  rw [h.refusalOf_eq, hd, ho]
  rfl

/-! ## The reasons of REFUSED_STATE -/

theorem passReason_of_mem {taken : List PassState} (h : s.iu.pass ∈ taken) : passReason s taken = none := by
  simp [passReason, h]

theorem passReason_of_not_mem {taken : List PassState} (h : s.iu.pass ∉ taken) :
    passReason s taken = some detailPass := by
  simp [passReason, h]

/-- The pass state is none that takes the command (R26). -/
def State.PassBars (s : State) (c : Instr) : Prop :=
  c = .openStrip ∧ s.iu.pass ∉ [.stripClosed, .stripOpen, .planned]
    ∨ c ∈ [.beginSurvey, .beginCapture, .setFramePlan] ∧ s.iu.pass ∉ [.stripOpen, .planned]
    ∨ c = .setFrameRelease ∧ s.iu.pass ∉ [.stripOpen, .planned, .stripClosed]
    ∨ c = .relocate ∧ s.iu.pass ≠ .planned ∨ c = .endPass ∧ s.iu.pass ∉ [.surveying, .capturing]
    ∨ c = .closeStrip ∧ s.iu.pass = .stripClosed ∨ c = .setColumns ∧ s.iu.pass ∈ [.capturing, .draining]

theorem State.PassBars.reason (h : s.PassBars c) : (s.checksOf c).reason = some detailPass := by
  rcases h with ⟨rfl, h⟩ | ⟨hc, h⟩ | ⟨rfl, h⟩ | ⟨rfl, h⟩ | ⟨rfl, h⟩ | ⟨rfl, h⟩ | ⟨rfl, h⟩
  · exact passReason_of_not_mem h
  · have hbars := passReason_of_not_mem h
    simp only [List.mem_cons, List.not_mem_nil, or_false] at hc
    rcases hc with rfl | rfl | rfl
    · exact hbars
    · simp [State.checksOf, hbars]
    · exact hbars
  · exact passReason_of_not_mem h
  · exact passReason_of_not_mem (by simpa using h)
  · exact passReason_of_not_mem h
  · exact if_pos h
  · exact if_pos (by simpa using h)

theorem State.hasPlanned_eq_false (h : ∀ v, (s.fl.slots.get v).state ≠ .planned) : s.hasPlanned = false := by
  have hnone : findSlot s.fl.slots (fun x => decide (x.state = .planned)) = none := by
    simp only [findSlot, List.find?_eq_none, decide_eq_true_eq]
    exact fun v _ => h v
  rw [State.hasPlanned, hnone]
  rfl

/-- BEGIN_CAPTURE finds no PLANNED slot (R42). -/
theorem State.reason_noPlanned (hpass : s.iu.pass ∈ [.stripOpen, .planned])
    (h : ∀ v, (s.fl.slots.get v).state ≠ .planned) : (s.checksOf .beginCapture).reason = some detailNoPlanned := by
  simp [State.checksOf, passReason_of_mem hpass, State.hasPlanned_eq_false h]

/-- The writer is attached, or not, against what CHAIN needs (R155, R162). -/
theorem State.reason_writer (h : c = .chain ∧ s.lw.state ≠ .unchained ∨ c = .chainDetach ∧ s.lw.state = .unchained) :
    (s.checksOf c).reason = some detailWriter := by
  rcases h with ⟨rfl, h⟩ | ⟨rfl, h⟩
  · exact if_neg h
  · exact if_pos h

/-! ## The busy causes and unknown kinds -/

theorem State.busyCause_locating (h : s.iu.pass = .locating) : s.busyCause = some 1 := if_pos h

theorem State.busyCause_classifying (hpass : s.iu.pass ≠ .locating) (h : s.bt.classifying ≠ none) :
    s.busyCause = some 2 := by
  simp [State.busyCause, hpass, Option.isSome_iff_ne_none, h]

theorem State.busyCause_frameEnd (hpass : s.iu.pass ≠ .locating) (hc : s.bt.classifying = none)
    (h : s.bt.frameEnd ≠ none) : s.busyCause = some 3 := by
  simp [State.busyCause, hpass, hc, Option.isSome_iff_ne_none, h]

theorem execUnknownCommand_next (hk : s.cu.posted = some k) (h : k = 0 ∨ 0x0E < k.toNat) :
    exec .unknownCommand s = .next (s.takePosted.stageAck k .refusedMalformed 0x100).settleRequests := by
  have hunknown : s.postsUnknown = true := by
    rw [State.postsUnknown, hk]
    rcases h with rfl | h
    · rfl
    · simp [h]
  refine (occurs_of hunknown).trans ?_
  rw [hk]
  rfl

end Post

/-- Settles O51: the checks of a post in their order, RESTART before the busy causes before the state. -/
theorem postRefused : Obligations.PostRefused := by
  rintro s u rfl
  refine ⟨fun k hk hunknown => ⟨_, execUnknownCommand_next hk hunknown, State.settles_of_eq rfl⟩, fun c k hp hk =>
    ⟨fun hr => ⟨_, exec_refused hp hk (by rw [State.refusalOf, hr]; rfl), State.settles_of_eq rfl⟩,
      fun hr hb => ⟨fun hl => ⟨_, exec_refusedBusy hp hk hr hb (State.busyCause_locating hl), State.settles_of_eq rfl⟩,
        fun hl hc => ⟨_, exec_refusedBusy hp hk hr hb (State.busyCause_classifying hl hc), State.settles_of_eq rfl⟩,
        fun hl hc hf => ⟨_, exec_refusedBusy hp hk hr hb (State.busyCause_frameEnd hl hc hf), State.settles_of_eq rfl⟩⟩,
      fun ht (hbars : s.PassBars c) => ⟨_, exec_refusedState ht hk hbars.reason, State.settles_of_eq rfl⟩, ?_, ?_,
      fun ht hw => ⟨_, exec_refusedState ht hk (State.reason_writer hw), State.settles_of_eq rfl⟩⟩⟩
  · rintro ht rfl hpass hnone
    exact ⟨_, exec_refusedState ht hk (State.reason_noPlanned hpass hnone), State.settles_of_eq rfl⟩
  · rintro ht rfl hne
    exact ⟨_, exec_refusedState ht hk (if_neg hne), State.settles_of_eq rfl⟩

end Sys2Proof.Machine

/-! # RESTART and CLOSE_STRIP carried out (R33, R34, R59, R60). -/

namespace Sys2Proof.Machine

/-- Where no access waits on the row hold its end changes nothing (R57). -/
theorem State.endRowHold_of_serving {s : State} (h : ∀ a, s.upstream = some a → a.phase = .serving) :
    s.endRowHold = s := by
  unfold State.endRowHold
  split
  · rename_i a ha
    rw [if_neg (by simp [h a ha])]
  · rfl

/-! ## RESTART -/

theorem ReportUnit.restarted_ackThrough_eq (st : Settings) (r : ReportUnit) :
    (r.restarted st).ackThrough = if st.attentionMode = .read then r.produced else r.ackThrough := by
  cases hm : st.attentionMode with
  | read => exact r.restarted_ackThrough hm
  | take =>
    simp only [ReportUnit.restarted, hm]
    split <;> rfl

/-- The Report Unit a RESTART leaves, field by field (R183). -/
theorem ReportUnit.restarted_eq (st : Settings) (r : ReportUnit) :
    r.restarted st = { r with
      staging := []
      lost := false
      attention := false
      timer := if st.attentionMode = .take ∧ r.produced ≠ r.taken ∧ st.coalesceTime ≠ 0 then some 0 else none
      ackThrough := if st.attentionMode = .read then r.produced else r.ackThrough
      counters := Vector.replicate 14 0 } := by
  rw [ReportUnit.restarted_frame, ReportUnit.restarted_timer, ReportUnit.restarted_ackThrough_eq]

/-- With no access on the row hold a RESTART is the clearing of the blocks and the staging of its ACK (R34). -/
theorem State.restartEffect_of_serving {s : State} (h : ∀ a, s.upstream = some a → a.phase = .serving) :
    s.restartEffect = s.restartCleared.stage (.ack 0x0E .done .stripClosed false 0) := by
  rw [State.restartEffect_eq]
  exact State.endRowHold_of_serving h

/-- Settles O58: pending while a row is classified, else the reset of the blocks. -/
theorem restart : Obligations.Restart := by
  rintro s u rfl htakes hserving
  refine ⟨_, exec_carried htakes rfl rfl, fun hk => State.settles_of_eq ?_, ?_⟩
  · exact if_pos (Option.isSome_iff_ne_none.mpr hk)
  · rintro hk ru rfl
    refine State.settles_of_eq ?_
    have hnow : s.carryOf .restart s.takePosted = s.takePosted.restartEffect := if_neg (by simp [hk])
    rw [hnow, State.restartEffect_of_serving (s := s.takePosted) hserving, State.restartCleared, ReportUnit.restarted_eq]
    rfl

/-! ## CLOSE_STRIP -/

/-- States that agree on every block are equal. -/
theorem State.eq_of_blocks {a b : State} (hfault : a.fault = b.fault) (hupstream : a.upstream = b.upstream)
    (hcompletion : a.completion = b.completion) (hcu : a.cu = b.cu) (hiu : a.iu = b.iu) (hfl : a.fl = b.fl)
    (hbt : a.bt = b.bt) (hlw : a.lw = b.lw) (hru : a.ru = b.ru) (hmc : a.mc = b.mc) (hmem : a.mem = b.mem)
    (hpending : a.pending = b.pending) : a = b := by
  cases a
  cases b
  simp only at hfault hupstream hcompletion hcu hiu hfl hbt hlw hru hmc hmem hpending
  rw [hfault, hupstream, hcompletion, hcu, hiu, hfl, hbt, hlw, hru, hmc, hmem, hpending]

section Close
variable {s t : State}

/-- A count looks at the Report Unit and the settings alone (R180). -/
theorem State.countTimes_ru_congr (c : CounterId) (n : Nat) (hru : s.ru = t.ru) (hcu : s.cu = t.cu) :
    (s.countTimes c n).ru = (t.countTimes c n).ru := by
  induction n generalizing s t with
  | zero => exact hru
  | succ n ih =>
    refine ih ?_ (by simpa using hcu)
    simp only [State.count, State.countBy, State.stage, State.drainRing, hru, hcu]
    split <;> rfl

/-- A count changes the Report Unit alone. -/
theorem State.countTimes_eq (c : CounterId) (n : Nat) (s : State) :
    s.countTimes c n = { s with ru := (s.countTimes c n).ru } := by
  apply State.eq_of_blocks <;> simp

/-- The closings of the open blemishes as a frame end of slot `v` begins (R116 to R118). -/
def State.frameEndListing (s : State) (v : SlotId) : Listing :=
  Listing.closeAll s.cu.effMinArea v (s.slot v).generation (decide ((s.slot v).classified < (s.slot v).height))
    s.bt.openTable ⟨s.lw.queue, s.bt.nextSerial, 0, 0, 0⟩

/-- The beginning of a frame end lists the open blemishes, counts those unlisted and empties the open table (R119,
R120). -/
theorem State.beginFrameEnd_eq (v : SlotId) (s : State) :
    s.beginFrameEnd v = { s with
      lw := { s.lw with queue := (s.frameEndListing v).queue }
      ru := (s.countTimes unlistedBlemish (s.frameEndListing v).unlisted).ru
      bt := { s.bt with
        openTable := []
        previous := []
        nextSerial := (s.frameEndListing v).nextSerial
        frameEnd := some ⟨v, decide ((s.slot v).classified < (s.slot v).height)⟩
        tally := { s.bt.tally with
          closed := s.bt.tally.closed + (s.frameEndListing v).closed
          listed := s.bt.tally.listed + (s.frameEndListing v).listed
          unlisted := s.bt.tally.unlisted + (s.frameEndListing v).unlisted } } } := by
  simp only [State.beginFrameEnd, State.closeBlemishes]
  rw [State.countTimes_eq]
  refine State.eq_of_blocks rfl rfl rfl rfl rfl rfl rfl rfl ?_ rfl rfl rfl
  exact State.countTimes_ru_congr _ _ rfl rfl

theorem State.vacateWhere_eq (p : Slot → Bool) (s : State) :
    s.vacateWhere p = { s with
      fl := { s.fl with slots := (s.vacateWhere p).fl.slots }
      bt := { s.bt with spans := s.bt.spans.filter fun sp => decide (¬p (s.fl.slots.get sp.slot) = true) } } := by
  refine State.eq_of_blocks ?_ ?_ ?_ ?_ ?_ State.vacateWhere_keepsFl State.vacateWhere_keepsBt ?_ ?_ ?_ ?_ ?_ <;> simp

/-- What a CLOSE_STRIP releases, from the state in which the ACTIVE slot's frame end has begun (R60). -/
theorem State.closeReleased_eq (s : State) : s.closeReleased = { s.closeEnded with
      iu := .powerOn
      cu := { s.cu with overrides := .none }
      fl := { s.fl with slots := s.closeReleased.fl.slots, profile := [], params := none, locating := none }
      bt := { s.closeEnded.bt with
        spans := s.bt.spans.filter fun sp => decide ((s.fl.slots.get sp.slot).state ≠ .planned)
        closePending := false } } := by
  refine State.eq_of_blocks ?_ ?_ ?_ s.closeReleased_cu rfl s.closeReleased_fl s.closeReleased_bt ?_ ?_ ?_ ?_ ?_ <;>
    simp [State.closeReleased]

/-- With no access on the row hold a CLOSE_STRIP is the release of its strip (R60). -/
theorem State.closeStripEffect_of_serving (h : ∀ a, s.upstream = some a → a.phase = .serving) :
    s.closeStripEffect = s.closeReleased := by
  obtain ⟨-, -, -, hup⟩ := s.closeEnded_keeps
  rw [State.closeStripEffect_eq]
  refine State.endRowHold_of_serving ?_
  rw [State.closeReleased_eq]
  exact hup ▸ h

theorem State.closeStripTaken_waits (h : s.bt.classifying ≠ none ∨ s.bt.closePending = true) :
    s.closeStripTaken = State.stageAck 0x08 .accepted 0 { s with bt := { s.bt with closePending := true } } :=
  if_pos (by simpa [Option.isSome_iff_ne_none] using h)

theorem State.closeStripTaken_now (hk : s.bt.classifying = none) (hp : s.bt.closePending = false)
    (h : ∀ a, s.upstream = some a → a.phase = .serving) :
    s.closeStripTaken = s.closeReleased.stageAck 0x08 .done 0 := by
  rw [← State.closeStripEffect_of_serving h]
  exact if_neg (by simp [hk, hp])

end Close

/-- Settles O57: pending, or the release of the strip, with the ACTIVE slot's frame end begun before it. -/
theorem closeStrip : Obligations.CloseStrip := by
  rintro s u rfl htakes hpass hserving
  refine ⟨_, exec_carried htakes (if_neg hpass) rfl, fun h => State.settles_of_eq ?_, fun hk hp => ⟨fun hidle => ?_, ?_⟩⟩
  · exact State.closeStripTaken_waits (s := s.takePosted) h
  · have hnow := State.closeStripTaken_now (s := s.takePosted) hk hp hserving
    refine ⟨s.takePosted.closeReleased.fl.slots, State.settles_of_eq (hnow.trans ?_), s.takePosted.closeReleased_slots⟩
    rw [State.closeReleased_eq, State.closeEnded_of_idle (s := s.takePosted) hidle]
    simp only [State.takePosted, hp]
    rfl
  · rintro v x cut l hf hv rfl rfl rfl
    have hnow := State.closeStripTaken_now (s := s.takePosted) hk hp hserving
    refine ⟨s.takePosted.closeReleased.fl.slots, State.settles_of_eq (hnow.trans ?_), s.takePosted.closeReleased_slots⟩
    rw [State.closeReleased_eq, State.closeEnded_of_active (s := s.takePosted) hf hv, State.beginFrameEnd_eq]
    simp only [State.takePosted, hp]
    rfl

end Sys2Proof.Machine

/-! # OPEN_STRIP carried out (R38). -/

namespace Sys2Proof.Machine

theorem rec8_eq_zero {m : Memory} {a : Nat} : rec8 m a = 0 ↔ m.read a = 0 := by
  rw [← BitVec.toNat_inj]
  rfl

theorem dxOfByte_toNat (b : Byte) : dxOfByte b.toNat = b.toInt := by
  rw [BitVec.toInt_eq_toNat_cond, dxOfByte]
  split <;> split <;> omega

theorem ofCode_toNat (b : Byte) : CleanupState.ofCode b.toNat
    = if b = 0 then .full else if b = 1 then .denseOnly else if b = 2 then .off else .opaqueFilm := by
  simp only [← BitVec.toNat_inj]
  unfold CleanupState.ofCode
  split <;> simp_all

/-- The strip record of an OPEN_STRIP in the layout of R207. -/
theorem openStripRecord_eq (m : Memory) : openStripRecord m =
    { sampleOrder := if m.read 0 = 0 then .little else .big
      surveyWidth := m.read16 0x002, surveyPitch := m.read32 0x004, surveyRows := m.read16 0x008
      surveyBase := m.read32 0x00C, captureWidth := m.read16 0x010, capturePitch := m.read32 0x014
      captureRows := m.read32 0x018, kc := (m.read 0x01C).toNat, ks := (m.read 0x01D).toNat
      filmLeft := m.read16 0x020, filmRight := m.read16 0x022, dx := (m.read 0x024).toInt
      defaultCleanup := if m.read 0x025 = 0 then .full else if m.read 0x025 = 1 then .denseOnly
        else if m.read 0x025 = 2 then .off else .opaqueFilm
      bandAreaBase := m.read32 0x028, bandStride := m.read32 0x02C, bandLines := m.read16 0x030
      bandPitch := m.read32 0x034
      params := ⟨m.read16 0x038, (m.read 0x03A).toNat, m.read16 0x03C, m.read16 0x03E, (m.read 0x040).toNat⟩ } := by
  simp only [openStripRecord, rec8_eq_zero]
  rw [← ofCode_toNat, ← dxOfByte_toNat]
  rfl

/-- CAPTURED slots become HELD and every other is as it was (R38). -/
theorem State.holdCaptured_slots (s : State) (v : SlotId) : s.holdCaptured.fl.slots.get v =
    if (s.fl.slots.get v).state = .captured then { s.fl.slots.get v with state := .held } else s.fl.slots.get v := by
  simp [State.holdCaptured, Vector.get_eq_getElem]

theorem State.holdCaptured_planned (s : State) (v : SlotId) :
    (s.holdCaptured.fl.slots.get v).state = .planned ↔ (s.fl.slots.get v).state = .planned := by
  rw [State.holdCaptured_slots]
  split
  · rename_i h
    simp [h]
  · rfl

/-- The slots after an OPEN_STRIP: CAPTURED ones HELD, PLANNED ones VACANT (R38). -/
theorem State.openStripEffect_slots (s : State) (v : SlotId) : s.openStripEffect.fl.slots.get v =
    if (s.fl.slots.get v).state = .planned then Slot.vacantValues
    else if (s.fl.slots.get v).state = .captured then { s.fl.slots.get v with state := .held } else s.fl.slots.get v := by
  have hvacated := State.vacateWhere_slots (p := fun x => decide (x.state = .planned)) v
    (s := State.holdCaptured { s with fl := { s.fl with generation := s.fl.generation + 1 } })
  simp only [decide_eq_true_eq, State.holdCaptured_planned] at hvacated
  rw [State.holdCaptured_slots] at hvacated
  exact hvacated

/-- OPEN_STRIP carried out, block by block (R38). -/
theorem State.openStripEffect_eq (s : State) : s.openStripEffect = { s with
      cu := { s.cu with overrides := openStripOverrides s.cu.shadow }
      fl := { s.fl with
        slots := s.openStripEffect.fl.slots
        generation := s.fl.generation + 1
        profile := []
        params := some (openStripRecord s.cu.shadow).params }
      bt := { s.bt with
        spans := s.bt.spans.filter fun sp => decide ((s.fl.slots.get sp.slot).state ≠ .planned)
        nextSerial := some 1 }
      iu := { IntakeUnit.powerOn with pass := .stripOpen, strip := some (openStripRecord s.cu.shadow) } } := by
  simp only [State.openStripEffect]
  rw [State.vacateWhere_eq]
  simp only [decide_eq_true_eq, State.holdCaptured_planned]
  rfl

/-- Settles O54: the record in its layout, and the effect block by block with the slots by their states. -/
theorem openStrip : Obligations.OpenStrip := by
  rintro s u m r rfl rfl htakes hpass rfl
  have hreason : (s.checksOf .openStrip).reason = none := passReason_of_mem hpass
  rw [← openStripRecord_eq]
  refine ⟨fun o ho => ⟨_, exec_refusedMalformed htakes rfl hreason ho, State.settles_of_eq rfl⟩, fun hgood =>
    ⟨_, s.takePosted.openStripEffect.fl.slots, exec_carried htakes hreason hgood, State.settles_of_eq ?_, fun v => ?_⟩⟩
  · exact congrArg (State.stageAck 0x02 .done 0) (State.openStripEffect_eq s.takePosted)
  · have hslots := State.openStripEffect_slots s.takePosted v
    refine ⟨fun h => hslots.trans ((if_neg ?_).trans (if_pos h)), fun h => hslots.trans (if_pos h), fun h => ?_⟩
    · rw [State.takePosted_fl, h]
      nofun
    · simp only [List.mem_cons, List.not_mem_nil, or_false, not_or] at h
      obtain ⟨hcaptured, hplanned⟩ := h
      exact hslots.trans ((if_neg hplanned).trans (if_neg hcaptured))

end Sys2Proof.Machine

/-! # CHAIN carried out (R155, R162). -/

namespace Sys2Proof.Machine

section Chain
variable {s : State} {head : Nat}

/-- A usable head becomes the current descriptor (R155). -/
theorem State.attachChain_usable (h0 : head ≠ 0) (ha : head % 32 = 0) (hs : head < s.mc.size) :
    s.attachChain head
      = { s with lw := { s.lw with state := .loading, current := some head, rejectPending := false } } :=
  if_pos (usableAddress_iff.mpr ⟨h0, ha, hs⟩)

/-- An unusable head raises DESCRIPTOR_REJECTED (R155). -/
theorem State.attachChain_unusable (h : head % 32 ≠ 0 ∨ s.mc.size ≤ head) :
    s.attachChain head
      = s.raiseFault ⟨false, .descriptorRejected, BitVec.ofNat 32 head, .command, 0, s.iu.pass, none⟩ := by
  refine if_neg ?_
  rw [usableAddress_iff]
  omega

/-- A detaching writes at most the close of a FILLING descriptor, and leaves the writer UNCHAINED with its queue (R162). -/
theorem State.detachChain_eq (s : State) : s.detachChain = { s with
    mem := s.detachChain.mem, lw := ⟨s.lw.queue, .unchained, none, none, 0, none, none, false⟩ } := by
  unfold State.detachChain
  cases s.lw.state <;> rfl

theorem State.detachChain_mem_kept (h : s.lw.state ≠ .filling) : s.detachChain.mem = s.mem := by
  unfold State.detachChain
  cases hw : s.lw.state with
  | filling => exact absurd hw h
  | unchained | loading | stalled => rfl

/-- The close of a FILLING descriptor is DETACHED, with its filled count and serials (R158, R162). -/
theorem State.detachChain_mem_closed {a : Nat} (h : s.lw.state = .filling) (ha : s.lw.current = some a) :
    s.mem.Holds s.detachChain.mem (a + 0x0C) (le32 s.lw.filled ++ [3, 0xFF, 0, 0] ++ le32 (s.lw.firstSerial.getD 0)
      ++ le32 (s.lw.lastSerial.getD 0)) := by
  have hmem : s.detachChain.mem
      = s.mem.writeBytes (a + 0x0C) (closeBytes s.lw.filled .detached none s.lw.firstSerial s.lw.lastSerial) := by
    simp only [State.detachChain, h, State.writeClose, State.writeCloseBytes, ha, Option.getD_some]
  rw [hmem]
  exact fun x => Memory.read_writeBytes _ _ _ x

end Chain

/-- Settles O59: attaching by the head's use, detaching by the writer's state. -/
theorem chainCommands : Obligations.ChainCommands := by
  rintro s u head rfl rfl
  refine ⟨fun htakes hw => ⟨_, exec_carried htakes (if_pos hw) rfl, fun ha hs => State.settles_of_eq ?_,
    fun h => State.settles_of_eq ?_⟩, fun htakes hw a ha => ⟨_, exec_carried htakes (if_neg hw) rfl,
    State.settles_of_eq ?_, fun h => ?_, fun h => ?_⟩⟩
  · obtain ⟨⟨-, -, -, -, -, hhead, -⟩, -⟩ := htakes
    exact congrArg (State.stageAck 0x0A .done 0) (State.attachChain_usable (s := s.takePosted) (hhead rfl) ha hs)
  · exact congrArg (State.stageAck 0x0A .done 0) (State.attachChain_unusable (s := s.takePosted) h)
  · exact congrArg (State.stageAck 0x0A .done 0) (State.detachChain_eq s.takePosted)
  · exact State.detachChain_mem_kept (s := s.takePosted) h
  · exact State.detachChain_mem_closed (s := s.takePosted) h ha

end Sys2Proof.Machine

/-! # SET_PLAN and SET_COLUMNS carried out (R31, R32, R169, R179). -/

namespace Sys2Proof.Machine

/-! ## The record -/

/-- The settings a SET_PLAN gives, in the layout of R206. -/
theorem setPlanSettings_eq (m : Memory) (old : Settings) : setPlanSettings m old =
    ⟨if (m.read 0).getLsbD 0 then (if m.read16 0x008 = 0 then 0 else m.read32 0x00C) else old.ringBase,
      if (m.read 0).getLsbD 0 then m.read16 0x008 else old.slotCount,
      if m.read 1 = 0 then .take else .read, (m.read 2).toNat, m.read16 0x004, BitVec.ofNat 14 (m.read16 0x006),
      m.read16 0x010, m.read16 0x012, (m.read 0x014).toNat, m.read16 0x018, m.read16 0x01A, (m.read 0x015).toNat,
      (m.read 0x016).toNat⟩ := by
  simp only [setPlanSettings, rec8_eq_zero]
  rfl

/-! ## The attention line under new settings -/

section Line
variable {old st : Settings} {r : ReportUnit}

/-- A change to READ mode releases the line and acknowledges what is produced (R179). -/
theorem ReportUnit.settingsChanged_toRead (ho : old.attentionMode = .take) (hn : st.attentionMode = .read) :
    r.settingsChanged old st = { r with attention := false, timer := none, ackThrough := r.produced } := by
  simp [ReportUnit.settingsChanged, ReportUnit.modeChanged, ho, hn, ReportUnit.release]

/-- The count condition as a value of the line (R175). -/
theorem ReportUnit.testCount_eq (st : Settings) (r : ReportUnit) : r.testCount st =
    { r with attention := r.attention || decide (st.coalesceCount ≤ r.backlog st.attentionMode) } := by
  unfold ReportUnit.testCount
  split
  · rename_i h
    rw [decide_eq_true h, Bool.or_true]
  · rename_i h
    rw [decide_eq_false h, Bool.or_false]

/-- A change to TAKE mode asserts the line by the count condition alone and starts the timer while reports are unread
(R179). -/
theorem ReportUnit.settingsChanged_toTake (ho : old.attentionMode = .read) (hn : st.attentionMode = .take) :
    r.settingsChanged old st = { r with
      attention := decide (r.produced ≠ r.taken ∧ st.coalesceCount ≤ r.unread)
      timer := if r.produced = r.taken ∨ st.coalesceTime = 0 then none else some 0 } := by
  have hmode : r.settingsChanged old st = r.modeChanged st := if_pos (by rw [ho, hn]; nofun)
  rw [hmode]
  simp only [ReportUnit.modeChanged, hn, ReportUnit.unread_eq_zero]
  by_cases hu : r.produced = r.taken
  · simp [hu, ReportUnit.release]
  · rw [if_neg hu, ReportUnit.testCount_eq, hn]
    simp only [ReportUnit.release, ReportUnit.backlog, timerStart, hu, false_or, Bool.false_or, ne_eq, not_false_eq_true,
      true_and]
    rfl

/-- Settings of the line that stay leave it (R179). -/
theorem ReportUnit.settingsChanged_same (hm : old.attentionMode = st.attentionMode)
    (hn : old.coalesceCount = st.coalesceCount) (ht : old.coalesceTime = st.coalesceTime) :
    r.settingsChanged old st = r := by
  simp [ReportUnit.settingsChanged, hm, hn, ht]

/-- A running timer under a new T: stopped by a T of 0 without an assertion, expired when it has already run for T (R176,
R179). -/
theorem ReportUnit.retimed_eq (time : Nat) (r : ReportUnit) : r.retimed time = { r with
    attention := r.attention || decide (∃ e ∈ r.timer, time ≠ 0 ∧ time * 10 ≤ e)
    timer := r.timer.filter fun e => decide (time ≠ 0 ∧ e < time * 10) } := by
  obtain ⟨staging, lost, produced, taken, ackThrough, newest, attention, timer, counters⟩ := r
  cases timer with
  | none => simp [ReportUnit.retimed]
  | some e =>
    by_cases ht : time = 0
    · simp [ReportUnit.retimed, ht]
    · by_cases he : time * 10 ≤ e
      · simp [ReportUnit.retimed, ReportUnit.timerExpires, Config.ticksPerMicro, ht, he, Option.filter]
      · simp [ReportUnit.retimed, Config.ticksPerMicro, ht, he, Option.filter, not_le.mp he]

/-- A new N or T in the same mode: the timer by the new T, the line by the new N (R179). -/
theorem ReportUnit.settingsChanged_recounted (hm : old.attentionMode = st.attentionMode)
    (hc : old.coalesceCount ≠ st.coalesceCount ∨ old.coalesceTime ≠ st.coalesceTime) :
    r.settingsChanged old st = { r with
      attention := r.attention || decide (st.coalesceCount ≤ r.backlog st.attentionMode)
        || decide (∃ e ∈ r.timer, st.coalesceTime ≠ 0 ∧ st.coalesceTime * 10 ≤ e)
      timer := r.timer.filter fun e => decide (st.coalesceTime ≠ 0 ∧ e < st.coalesceTime * 10) } := by
  have hline : r.settingsChanged old st = (r.retimed st.coalesceTime).testCount st :=
    (if_neg (not_not.mpr hm)).trans (if_pos hc)
  rw [hline, ReportUnit.retimed_eq, ReportUnit.testCount_eq, Bool.or_right_comm]
  rfl

/-- Whatever the settings, they reach the line, the timer and the acknowledged-through count alone. -/
theorem ReportUnit.settingsChanged_frame (old st : Settings) (r : ReportUnit) :
    ∃ attention timer ackThrough, r.settingsChanged old st
      = { r with attention := attention, timer := timer, ackThrough := ackThrough } := by
  by_cases hm : old.attentionMode = st.attentionMode
  · by_cases hc : old.coalesceCount ≠ st.coalesceCount ∨ old.coalesceTime ≠ st.coalesceTime
    · exact ⟨_, _, _, ReportUnit.settingsChanged_recounted hm hc⟩
    · simp only [not_or, not_not] at hc
      exact ⟨_, _, _, ReportUnit.settingsChanged_same hm hc.1 hc.2⟩
  · cases ho : old.attentionMode with
    | take =>
      cases hn : st.attentionMode with
      | take => exact absurd (ho.trans hn.symm) hm
      | read => exact ⟨_, _, _, ReportUnit.settingsChanged_toRead ho hn⟩
    | read =>
      cases hn : st.attentionMode with
      | take => exact ⟨_, _, _, ReportUnit.settingsChanged_toTake ho hn⟩
      | read => exact absurd (ho.trans hn.symm) hm

/-- The line released for a new ring (R169). -/
def ReportUnit.ringReset (r : ReportUnit) : ReportUnit :=
  { r with attention := false, timer := none, ackThrough := r.produced, newest := none }

/-- With room the ACK of a new ring goes to the head of the staging queue (R169). -/
theorem ReportUnit.ringReplaced_of_room {mask : BitVec 14} {ack : Report} (hq : r.staging.length < 8) :
    (r.settingsChanged old st).ringReplaced mask ack = { r.ringReset with staging := ack :: r.staging } := by
  obtain ⟨attention, timer, ackThrough, hr⟩ := r.settingsChanged_frame old st
  rw [hr]
  exact if_pos (decide_eq_true hq)

/-- Without room it takes the place of the newest report, which is dropped (R169, R172). -/
theorem ReportUnit.ringReplaced_of_full {mask : BitVec 14} {ack : Report} (hq : r.staging.length = 8)
    (hm : mask.getLsbD 9 = false) (hne : r.counters.get 9 ≠ 49151) :
    (r.settingsChanged old st).ringReplaced mask ack = { r.ringReset with
      staging := ack :: r.staging.take 7
      lost := true
      counters := r.counters.set 9 (r.counters.get 9 + 1) } := by
  obtain ⟨attention, timer, ackThrough, hr⟩ := r.settingsChanged_frame old st
  have hroom : r.hasRoom = false := decide_eq_false (by rw [hq]; decide)
  rw [hr]
  refine (if_neg (Bool.eq_false_iff.mp hroom)).trans ?_
  exact ReportUnit.drop_counted hm hne

end Line

/-! ## The commands -/

section Commands
variable {s : State}

theorem State.applyRing_of_room (hq : s.ru.staging.length < 8) : s.applyRing = { s with
    cu := { s.cu with standing := setPlanSettings s.cu.shadow s.cu.standing }
    ru := { s.ru.ringReset with staging := .ack 0x01 .done s.iu.pass s.fault.locked 0 :: s.ru.staging } } :=
  congrArg (fun ru => { s with cu := { s.cu with standing := setPlanSettings s.cu.shadow s.cu.standing }, ru := ru })
    (ReportUnit.ringReplaced_of_room hq)

theorem State.applyRing_of_full (hq : s.ru.staging.length = 8)
    (hm : (setPlanSettings s.cu.shadow s.cu.standing).countMask.getLsbD 9 = false)
    (hne : s.ru.counters.get 9 ≠ 49151) : s.applyRing = { s with
    cu := { s.cu with standing := setPlanSettings s.cu.shadow s.cu.standing }
    ru := { s.ru.ringReset with
      staging := .ack 0x01 .done s.iu.pass s.fault.locked 0 :: s.ru.staging.take 7
      lost := true
      counters := s.ru.counters.set 9 (s.ru.counters.get 9 + 1) } } :=
  congrArg (fun ru => { s with cu := { s.cu with standing := setPlanSettings s.cu.shadow s.cu.standing }, ru := ru })
    (ReportUnit.ringReplaced_of_full hq hm hne)

theorem setColumnsChecks_good {m : Memory} (h : (m.read 0).toNat ≤ 16) : firstBad (setColumnsChecks m) = none := by
  simp [setColumnsChecks, firstBad, rec8, h]

theorem setColumnsChecks_bad {m : Memory} (h : 16 < (m.read 0).toNat) : firstBad (setColumnsChecks m) = some 0 := by
  have : ¬(m.read 0).toNat ≤ 16 := Nat.not_le.mpr h
  simp [setColumnsChecks, firstBad, rec8, this]

/-- The columns of a SET_COLUMNS are the first n entries of its record (R32, R208). -/
theorem mem_setColumnsList {m : Memory} {c : Nat} :
    c ∈ setColumnsList m ↔ ∃ i < (m.read 0).toNat, c = m.read16 (4 + 2 * i) := by
  simp only [setColumnsList, mem_sortOnce, List.mem_map, List.mem_range, eq_comm]
  rfl

theorem State.reason_setColumns (hc : s.iu.pass ≠ .capturing) (hd : s.iu.pass ≠ .draining) :
    (s.checksOf .setColumns).reason = none := if_neg (not_or.mpr ⟨hc, hd⟩)

end Commands

/-- Settles O53: the record's settings with the line's cases, the ring's by the room, and the sorted columns. -/
theorem settingsReplaced : Obligations.SettingsReplaced := by
  rintro s u m st rfl rfl hst
  obtain rfl : st = setPlanSettings s.cu.shadow s.cu.standing := hst.trans (setPlanSettings_eq ..).symm
  clear hst
  refine ⟨fun o ho => ⟨fun ht => ⟨_, exec_refusedMalformed ht rfl rfl ho, State.settles_of_eq rfl⟩, fun ht hring =>
    ⟨_, exec_refusedMalformed ht rfl (if_pos hring) ho, State.settles_of_eq rfl⟩⟩, fun ht hgood => ?_,
    fun ht hring hgood => ⟨_, exec_carried ht (if_pos hring) hgood, ?_⟩, fun ht hc hd => ?_⟩
  · exact ⟨_, _, exec_carried ht rfl hgood, State.settles_of_eq rfl, ReportUnit.settingsChanged_toRead,
      ReportUnit.settingsChanged_toTake, ReportUnit.settingsChanged_same, ReportUnit.settingsChanged_recounted⟩
  · rintro ack ru rfl rfl
    exact ⟨fun hq => State.settles_of_eq (State.applyRing_of_room (s := s.takePosted) hq),
      fun hq hm hne => State.settles_of_eq (State.applyRing_of_full (s := s.takePosted) hq hm hne)⟩
  · have hreason := State.reason_setColumns hc hd
    by_cases hn : (s.cu.shadow.read 0).toNat ≤ 16
    · exact ⟨_, exec_carried ht hreason (setColumnsChecks_good hn), fun _ => ⟨setColumnsList s.cu.shadow,
        State.settles_of_eq rfl, pairwise_sortOnce _, fun _ => mem_setColumnsList⟩, fun h => absurd hn h.not_ge⟩
    · exact ⟨_, exec_refusedMalformed ht rfl hreason (setColumnsChecks_bad (not_le.mp hn)), fun h => absurd h hn,
        fun _ => State.settles_of_eq rfl⟩

end Sys2Proof.Machine

/-! # What the Blemish Tracker begins by itself, and the halves of the IR row buffer (R54 to R57, R92). -/

namespace Sys2Proof.Machine

/-! ## Halves -/

section Halves
variable {u u' : IntakeUnit} {h : IrHalf} {row row' : Nat} {f g : IrHalf → IrHalf}

theorem IrHalf.holds_iff : h.holds row = true ↔ h.HoldsRow row := by simp [IrHalf.holds, IrHalf.HoldsRow]

theorem IntakeUnit.noHalfFree_iff : u.noHalfFree = true ↔ u.halfA.state ≠ .empty ∧ u.halfB.state ≠ .empty := by
  simp [IntakeUnit.noHalfFree]

/-- A change of the half that holds a row, half by half. -/
theorem IntakeUnit.mapHalf_eq (f : IrHalf → IrHalf) (row : Nat) (u : IntakeUnit) :
    u.mapHalf f row = { u with
      halfA := if u.halfA.holds row then f u.halfA else u.halfA
      halfB := if !u.halfA.holds row && u.halfB.holds row then f u.halfB else u.halfB } := by
  unfold IntakeUnit.mapHalf
  cases hA : u.halfA.holds row <;> cases hB : u.halfB.holds row <;> simp

theorem IntakeUnit.mapHalf_halfA (f : IrHalf → IrHalf) (row : Nat) (u : IntakeUnit) :
    (u.mapHalf f row).halfA = if u.halfA.holds row then f u.halfA else u.halfA := by rw [IntakeUnit.mapHalf_eq]

theorem IntakeUnit.mapHalf_halfB (f : IrHalf → IrHalf) (row : Nat) (u : IntakeUnit) :
    (u.mapHalf f row).halfB = if !u.halfA.holds row && u.halfB.holds row then f u.halfB else u.halfB := by
  rw [IntakeUnit.mapHalf_eq]

/-- Two units have the same halves. -/
def IntakeUnit.SameHalves (u u' : IntakeUnit) : Prop := u'.halfA = u.halfA ∧ u'.halfB = u.halfB

/-- The halves after such a change are told by the halves before it. -/
theorem IntakeUnit.SameHalves.halfChanged (hs : u.SameHalves u') : u.HalfChanged (u'.mapHalf f row) row f := by
  obtain ⟨hA, hB⟩ := hs
  rw [IntakeUnit.HalfChanged, IntakeUnit.mapHalf_halfA, IntakeUnit.mapHalf_halfB, hA, hB]
  simp only [← IrHalf.holds_iff]
  cases u.halfA.holds row <;> cases u.halfB.holds row <;> simp

theorem IntakeUnit.mapHalf_halfChanged : u.HalfChanged (u.mapHalf f row) row f :=
  IntakeUnit.SameHalves.halfChanged ⟨rfl, rfl⟩

/-- What is said of a half's change determines both halves. -/
theorem IntakeUnit.HalfChanged.sameHalves (hc : u.HalfChanged u' row f) : (u.mapHalf f row).SameHalves u' := by
  obtain ⟨ha, hb, hn⟩ := hc
  rw [IntakeUnit.SameHalves, IntakeUnit.mapHalf_halfA, IntakeUnit.mapHalf_halfB]
  simp only [← IrHalf.holds_iff] at ha hb hn
  cases hA : u.halfA.holds row <;> cases hB : u.halfB.holds row <;> simp_all

theorem IntakeUnit.SameHalves.symm (hs : u.SameHalves u') : u'.SameHalves u := ⟨hs.1.symm, hs.2.symm⟩

/-- The change of a half keeps its row, and a half that is not EMPTY stays so. -/
def IrHalf.KeepsRow (f : IrHalf → IrHalf) : Prop := ∀ h, h.state ≠ .empty → (f h).state ≠ .empty ∧ (f h).row = h.row

theorem IrHalf.keepsRow_afterPixel (x clearLevel ir : Nat) (torn : Bool) :
    IrHalf.KeepsRow fun h => h.afterPixel x clearLevel ir torn := fun _ hne => ⟨hne, rfl⟩

theorem IrHalf.keepsRow_afterRow : IrHalf.KeepsRow IrHalf.afterRow := by
  intro h hne
  unfold IrHalf.afterRow
  split
  · exact ⟨nofun, rfl⟩
  · exact ⟨hne, rfl⟩

/-- A half whose classification begins (R55, R92). -/
def IrHalf.classified (h : IrHalf) : IrHalf := { h with state := .classifying }

theorem IrHalf.keepsRow_classified : IrHalf.KeepsRow IrHalf.classified := fun _ _ => ⟨nofun, rfl⟩

/-- What a half holds is not changed by what keeps rows. -/
theorem IrHalf.KeepsRow.holds_ite {c : Bool} (hf : IrHalf.KeepsRow f) (hc : c = true → h.holds row = true) :
    (if c then f h else h).holds row' = h.holds row' := by
  cases c with
  | false => rfl
  | true =>
    obtain ⟨hne, -⟩ := IrHalf.holds_iff.mp (hc rfl)
    obtain ⟨hne', hrow⟩ := hf h hne
    simp [IrHalf.holds, hne, hne', hrow]

/-- Whether a half is EMPTY is not changed by what keeps rows. -/
theorem IntakeUnit.mapHalf_empty_iff (hf : IrHalf.KeepsRow f) :
    ((u.mapHalf f row).halfA.state = .empty ↔ u.halfA.state = .empty)
      ∧ ((u.mapHalf f row).halfB.state = .empty ↔ u.halfB.state = .empty) := by
  rw [IntakeUnit.mapHalf_halfA, IntakeUnit.mapHalf_halfB]
  constructor
  · split
    · rename_i hA
      obtain ⟨hne, -⟩ := IrHalf.holds_iff.mp hA
      simp [hne, (hf _ hne).1]
    · rfl
  · split
    · rename_i hB
      obtain ⟨hne, -⟩ := IrHalf.holds_iff.mp (Bool.and_eq_true_iff.mp hB).2
      simp [hne, (hf _ hne).1]
    · rfl

/-- A half holds no second row. -/
theorem IrHalf.holds_eq_false (hne : row ≠ row') (hh : h.holds row = true) : h.holds row' = false := by
  obtain ⟨-, rfl⟩ := IrHalf.holds_iff.mp hh
  simp [IrHalf.holds, hne]

/-- Which half holds a row is not changed by what keeps rows. -/
theorem IntakeUnit.holds_mapHalf (hf : IrHalf.KeepsRow f) :
    (u.mapHalf f row).halfA.holds row' = u.halfA.holds row'
      ∧ (u.mapHalf f row).halfB.holds row' = u.halfB.holds row' := by
  rw [IntakeUnit.mapHalf_halfA, IntakeUnit.mapHalf_halfB]
  exact ⟨hf.holds_ite id, hf.holds_ite fun h => (Bool.and_eq_true_iff.mp h).2⟩

/-- A change of the half of one row leaves the half of another (R56). -/
theorem IntakeUnit.halfOf_mapHalf (hne : row ≠ row') (hf : IrHalf.KeepsRow f) :
    (u.mapHalf f row).halfOf row' = u.halfOf row' := by
  obtain ⟨hA, hB⟩ := IntakeUnit.holds_mapHalf (u := u) (row := row) (row' := row') hf
  simp only [IntakeUnit.halfOf, hA, hB]
  rw [IntakeUnit.mapHalf_halfA, IntakeUnit.mapHalf_halfB]
  cases ha : u.halfA.holds row with
  | true => simp [IrHalf.holds_eq_false hne ha]
  | false => cases hb : u.halfB.holds row with
    | true => simp [IrHalf.holds_eq_false hne hb]
    | false => rfl

/-- Changes of the halves of two rows do not meet. -/
theorem IntakeUnit.mapHalf_comm (hne : row ≠ row') (hf : IrHalf.KeepsRow f) (hg : IrHalf.KeepsRow g) :
    (u.mapHalf f row).mapHalf g row' = (u.mapHalf g row').mapHalf f row := by
  obtain ⟨hA, hB⟩ := IntakeUnit.holds_mapHalf (u := u) (row := row) (row' := row') hf
  obtain ⟨hA', hB'⟩ := IntakeUnit.holds_mapHalf (u := u) (row := row') (row' := row) hg
  rw [IntakeUnit.mapHalf_eq g, IntakeUnit.mapHalf_eq f row (u.mapHalf g row'), hA, hB, hA', hB',
    IntakeUnit.mapHalf_eq f, IntakeUnit.mapHalf_eq g]
  cases ha : u.halfA.holds row with
  | true => simp [IrHalf.holds_eq_false hne ha]
  | false => cases hb : u.halfB.holds row with
    | true => simp [IrHalf.holds_eq_false hne hb]
    | false => simp

end Halves

/-! ## What the Blemish Tracker begins -/

section Tracker
variable {s t : State} {v : SlotId}

theorem State.count_ru_congr (c : CounterId) (hru : s.ru = t.ru) (hcu : s.cu = t.cu) : (s.count c).ru = (t.count c).ru :=
  State.countTimes_ru_congr c 1 hru hcu

/-- A count changes the Report Unit alone. -/
theorem State.count_eq (c : CounterId) (s : State) : s.count c = { s with ru := (s.count c).ru } :=
  State.countTimes_eq c 1 s

theorem BlemishTracker.idle_iff {b : BlemishTracker} : b.idle = true ↔ b.classifying = none ∧ b.frameEnd = none := by
  simp [BlemishTracker.idle]

/-- The next row of the ACTIVE slot `v` is ready, and nothing hinders its classification (R92). -/
structure State.HasReadyRow (s : State) (v : SlotId) : Prop where
  free : s.TrackerFree
  unhindered : s.NothingPending
  active : activeSlot s.fl.slots = some v
  ready : s.rowReady v (s.slot v).classified = true

theorem State.rowReady_iff {y : Nat} : s.rowReady v y = true ↔
    y < (s.slot v).height ∧ s.iu.tracker.hasCompleted ((s.slot v).top + y) = true := by
  simp [State.rowReady]

/-- The classification of the next row of slot `v` begins. -/
def State.beginNext (v : SlotId) (s : State) : State := s.beginClassification v (s.slot v).classified

/-- The classification that begins then. -/
def State.nextOf (s : State) (v : SlotId) : Classification := s.classificationOf v (s.slot v).classified

theorem State.beginNext_eq (v : SlotId) (s : State) : s.beginNext v = { s with
      bt := { s.bt with classifying := some (s.nextOf v) }
      iu := s.iu.mapHalf IrHalf.classified ((s.slot v).top + (s.slot v).classified) } := rfl

theorem State.advance_of_trackerFree (h : s.TrackerFree) : s.advance =
    match activeSlot s.fl.slots with
    | some v =>
      if s.rowReady v (s.slot v).classified then
        if s.bt.restartPending || s.bt.closePending then s else s.beginNext v
      else if s.iu.pass = .draining then s.beginFrameEnd v
      else s
    | none =>
      if s.iu.pass = .draining ∧ s.iu.startQueue = [] then { s with iu := { s.iu with pass := .planned } } else s := by
  rw [State.advance, if_pos (BlemishTracker.idle_iff.mpr h)]
  rfl

theorem State.advance_of_not_free (h : ¬s.TrackerFree) : s.advance = s :=
  if_neg fun hi => h (BlemishTracker.idle_iff.mp hi)

theorem State.advance_of_ready (h : s.HasReadyRow v) : s.advance = s.beginNext v := by
  obtain ⟨hr, hc⟩ := h.unhindered
  simp [State.advance_of_trackerFree h.free, h.active, h.ready, hr, hc]

/-- A RESTART or CLOSE_STRIP that is pending keeps a ready row from its classification (R92). -/
theorem State.advance_of_hindered (hv : activeSlot s.fl.slots = some v)
    (hready : s.rowReady v (s.slot v).classified = true) (h : ¬s.NothingPending) : s.advance = s := by
  by_cases hfree : s.TrackerFree
  · have hpending : (s.bt.restartPending || s.bt.closePending) = true := by
      rw [State.NothingPending, not_and_or, Bool.not_eq_false, Bool.not_eq_false] at h
      exact Bool.or_eq_true_iff.mpr h
    simp [State.advance_of_trackerFree hfree, hv, hready, hpending]
  · exact State.advance_of_not_free hfree

/-- In DRAINING a slot with no ready row begins its frame end (R54). -/
theorem State.advance_of_unready (hfree : s.TrackerFree) (hv : activeSlot s.fl.slots = some v)
    (hready : ¬s.rowReady v (s.slot v).classified = true) (hp : s.iu.pass = .draining) :
    s.advance = s.beginFrameEnd v := by
  simp [State.advance_of_trackerFree hfree, hv, hready, hp]

/-- In DRAINING nothing left ends the draining (R54). -/
theorem State.advance_of_noActive (hfree : s.TrackerFree) (hv : activeSlot s.fl.slots = none) : s.advance =
    { s with iu := { s.iu with pass := if s.iu.pass = .draining ∧ s.iu.startQueue = [] then .planned else s.iu.pass } } := by
  rw [State.advance_of_trackerFree hfree, hv]
  dsimp only
  split <;> rfl

/-- Outside DRAINING only a ready row is begun (R92). -/
theorem State.advance_of_none (hp : s.iu.pass ≠ .draining) (h : ∀ v, ¬s.HasReadyRow v) : s.advance = s := by
  by_cases hfree : s.TrackerFree
  · cases hv : activeSlot s.fl.slots with
    | none => simp [State.advance_of_noActive hfree hv, hp]
    | some v =>
      by_cases hready : s.rowReady v (s.slot v).classified = true
      · exact State.advance_of_hindered hv hready fun hn => h v ⟨hfree, hn, hv, hready⟩
      · simp [State.advance_of_trackerFree hfree, hv, hready, hp]
  · exact State.advance_of_not_free hfree

/-- Outside DRAINING the Blemish Tracker changes no more than the halves and the classification in flight. -/
theorem State.advance_eq (hp : s.iu.pass ≠ .draining) : s.advance = { s with
      iu := { s.iu with halfA := s.advance.iu.halfA, halfB := s.advance.iu.halfB }
      bt := { s.bt with classifying := s.advance.bt.classifying } } := by
  by_cases h : ∃ v, s.HasReadyRow v
  · obtain ⟨v, hv⟩ := h
    rw [State.advance_of_ready hv, State.beginNext_eq, IntakeUnit.mapHalf_eq]
  · rw [State.advance_of_none hp (not_exists.mp h)]

theorem State.advance_of_noActiveSlot (hp : s.iu.pass ≠ .draining) (h : activeSlot s.fl.slots = none) :
    s.advance = s :=
  State.advance_of_none hp fun v hv => by
    have := hv.active
    rw [h] at this
    cases this

/-- The same state with another access at the port and another pending word 0. -/
def State.atPort (u : Option Access) (p : Option PendingWord) (s : State) : State :=
  { s with upstream := u, iu := { s.iu with pairing := p } }

theorem State.beginFrameEnd_atPort (u : Option Access) (p : Option PendingWord) :
    (s.atPort u p).beginFrameEnd v = (s.beginFrameEnd v).atPort u p := by
  rw [State.beginFrameEnd_eq, State.beginFrameEnd_eq]
  refine State.eq_of_blocks rfl rfl rfl rfl rfl rfl rfl rfl ?_ rfl rfl rfl
  exact State.countTimes_ru_congr _ _ rfl rfl

theorem State.beginNext_atPort (u : Option Access) (p : Option PendingWord) :
    (s.atPort u p).beginNext v = (s.beginNext v).atPort u p := by
  rw [State.beginNext_eq, State.beginNext_eq, IntakeUnit.mapHalf_eq, IntakeUnit.mapHalf_eq]
  rfl

/-- The Blemish Tracker looks neither at the access at the port nor at the pending word 0. -/
theorem State.advance_atPort (u : Option Access) (p : Option PendingWord) :
    (s.atPort u p).advance = s.advance.atPort u p := by
  by_cases hfree : s.TrackerFree
  · have hfree' : (s.atPort u p).TrackerFree := hfree
    cases hv : activeSlot s.fl.slots with
    | none => rw [State.advance_of_noActive hfree hv, State.advance_of_noActive hfree' hv]; rfl
    | some v =>
      by_cases hready : s.rowReady v (s.slot v).classified = true
      · by_cases hn : s.NothingPending
        · rw [State.advance_of_ready ⟨hfree, hn, hv, hready⟩, State.advance_of_ready (v := v) ⟨hfree', hn, hv, hready⟩]
          exact State.beginNext_atPort u p
        · rw [State.advance_of_hindered hv hready hn]
          exact State.advance_of_hindered (s := s.atPort u p) hv hready hn
      · by_cases hp : s.iu.pass = .draining
        · rw [State.advance_of_unready hfree hv hready hp, State.advance_of_unready hfree' hv hready hp]
          exact State.beginFrameEnd_atPort u p
        · have hnone : ∀ w, ¬s.HasReadyRow w := fun w hw => hready (by
            obtain rfl : v = w := Option.some.inj (hv.symm.trans hw.active)
            exact hw.ready)
          rw [State.advance_of_none hp hnone]
          exact State.advance_of_none (s := s.atPort u p) hp fun w hw =>
            hnone w ⟨hw.free, hw.unhindered, hw.active, hw.ready⟩
  · rw [State.advance_of_not_free hfree]
    exact State.advance_of_not_free (s := s.atPort u p) hfree

/-- The classification that begins in `m`, as it is told by the halves of `u`: those of `m` as it begins (R87, R92). -/
theorem State.beginNext_classifiesNext {m : State} {u : IntakeUnit} (hu : u.SameHalves m.iu)
    (hcu : ∃ posted, m.cu = { s.cu with posted := posted }) :
    s.ClassifiesNext u (m.beginNext v).iu v (m.slot v) (m.nextOf v) := by
  obtain ⟨hA, hB⟩ := hu
  obtain ⟨posted, hcu⟩ := hcu
  refine ⟨?_, IntakeUnit.SameHalves.halfChanged ⟨hA, hB⟩, ?_⟩
  · simp only [State.nextOf, State.classificationOf, hcu]
    rfl
  · rw [← hA, ← hB, State.nextOf]
    simp only [← IrHalf.holds_iff, State.classificationOf, IntakeUnit.halfOf]
    cases m.iu.halfA.holds _ <;> cases m.iu.halfB.holds _ <;> simp

end Tracker

end Sys2Proof.Machine

/-! # The row hold (R57). -/

namespace Sys2Proof.Machine

section Hold
variable {s : State} {req : UpstreamReq} {o : Nat}

theorem wordAddress_mod_four (i : Nat) : wordAddress req i % 4 = 0 := by
  rw [wordAddress]
  omega

theorem zoneOf_eq_intake {size a : Nat} : zoneOf size a = .intake ↔ 0x20000000 ≤ a ∧ a < 0x30000000 := by
  rw [zoneOf_eq]
  split_ifs <;> simp <;> omega

/-- A word in the INTAKE zone is one at an offset of that zone (R11). -/
theorem exists_intakeOffset {size a : Nat} : zoneOf size a = .intake ↔ ∃ o < 0x10000000, a = 0x20000000 + o := by
  rw [zoneOf_eq_intake]
  exact ⟨fun h => ⟨a - 0x20000000, by omega, by omega⟩, fun ⟨o, ho, ha⟩ => by omega⟩

/-- A word of a place would begin a routed row: a slot routes it, and its row is new (R57). -/
theorem State.beginsRow_iff {p : IntakePlace} : s.beginsRow p = true ↔
    (∃ v, routeOf s.fl.slots p.row p.col = some v)
      ∧ ∀ cur, s.iu.tracker.current = some cur → cur < p.row
        ∨ p.row = cur ∧ s.iu.tracker.complete = false ∧ s.iu.tracker.begun = false := by
  rw [State.beginsRow, Bool.and_eq_true, Option.isSome_iff_exists]
  cases s.iu.tracker.current <;> simp [and_assoc]

theorem IntakeFrame.declares_iff {f : IntakeFrame} {p : IntakePlace} :
    f.declares p = true ↔ p.row < f.rows ∧ p.col < f.width := by simp [IntakeFrame.declares]

theorem State.holdsOffset_iff : s.holdsOffset o = true ↔
    s.iu.pass = .capturing ∧ ∃ r, s.iu.strip = some r ∧ o / r.capturePitch < r.captureRows
      ∧ o % r.capturePitch / 8 < r.captureWidth
      ∧ (∃ v, routeOf s.fl.slots (o / r.capturePitch) (o % r.capturePitch / 8) = some v)
      ∧ ∀ cur, s.iu.tracker.current = some cur → cur < o / r.capturePitch
        ∨ o / r.capturePitch = cur ∧ s.iu.tracker.complete = false ∧ s.iu.tracker.begun = false := by
  unfold State.holdsOffset
  split
  · rename_i r hp hr
    simp only [Bool.and_eq_true, IntakeFrame.declares_iff, State.beginsRow_iff, IntakeFrame.place, hp, hr,
      Option.some.injEq, exists_eq_left', true_and, and_assoc]
  · rename_i h
    refine ⟨nofun, fun ⟨hp, r, hr, _⟩ => absurd hr (h r hp)⟩

theorem State.holdsAccess_iff : s.holdsAccess req = true ↔
    s.iu.noHalfFree = true ∧ requestIsWrite req = true
      ∧ ∃ i < req.wordCount, ∃ o < 0x10000000, wordAddress req i = 0x20000000 + o ∧ s.holdsOffset o = true := by
  simp only [State.holdsAccess, Bool.and_eq_true, List.any_eq_true, List.mem_range, decide_eq_true_eq,
    exists_intakeOffset, and_assoc]
  refine and_congr_right fun _ => and_congr_right fun _ => exists_congr fun i => and_congr_right fun _ => ?_
  constructor
  · rintro ⟨⟨o, ho, ha⟩, hh⟩
    rw [intakeOffset_of_eq ha ho] at hh
    exact ⟨o, ho, ha, hh⟩
  · rintro ⟨o, ho, ha, hh⟩
    exact ⟨⟨o, ho, ha⟩, by rwa [intakeOffset_of_eq ha ho]⟩

theorem requestIsWrite_iff : requestIsWrite req = true ↔ ∃ a beats, req = .write a beats := by
  cases req <;> simp [requestIsWrite]

end Hold

/-- Settles O15: the hold's conditions, with the offset of the word that begins a row. -/
theorem rowHoldDecided : Obligations.RowHoldDecided := by
  intro s req
  rw [State.holdsAccess_iff, IntakeUnit.noHalfFree_iff, requestIsWrite_iff]
  simp only [State.holdsOffset_iff]
  constructor
  · rintro ⟨⟨hA, hB⟩, hw, i, hi, o, ho, ha, hp, r, hr, hplace⟩
    exact ⟨hw, hA, hB, hp, r, i, o, hr, hi, ha, ho, hplace⟩
  · rintro ⟨hw, hA, hB, hp, r, i, o, hr, hi, ha, ho, hplace⟩
    exact ⟨⟨hA, hB⟩, hw, i, hi, o, ho, ha, hp, r, hr, hplace⟩

end Sys2Proof.Machine

/-! # The completion of a frame end (R53, R54, R120, R123). -/

namespace Sys2Proof.Machine

section FrameEnded
variable {s : State} {e : FrameEnd} {v : SlotId} {rest : List SlotId}

theorem activeSlot_eq_some {slots : Vector Slot 8} (hv : (slots.get v).state = .active)
    (honly : ∀ w, w ≠ v → (slots.get w).state ≠ .active) : activeSlot slots = some v := by
  cases h : activeSlot slots with
  | none =>
    rw [activeSlot, findSlot, List.find?_eq_none] at h
    exact absurd (decide_eq_true hv) (h v (mem_allSlots v))
  | some w =>
    have hw : (slots.get w).state = .active := of_decide_eq_true (List.find?_some (p := fun v => decide ((slots.get v).state = .active)) h)
    exact congrArg some (not_ne_iff.mp fun hne => honly w hne hw)

/-- With no open blemish a frame end begins without a closing (R119). -/
theorem State.beginFrameEnd_of_empty (h : s.bt.openTable = []) : s.beginFrameEnd v = { s with
      bt := { s.bt with
        openTable := []
        previous := []
        frameEnd := some ⟨v, decide ((s.slot v).classified < (s.slot v).height)⟩ } } := by
  have hlisting : s.frameEndListing v = ⟨s.lw.queue, s.bt.nextSerial, 0, 0, 0⟩ := by
    rw [State.frameEndListing, h]
    rfl
  rw [State.beginFrameEnd_eq, hlisting]
  rfl

/-- The state once a frame end's marker has joined the queue and its slot is CAPTURED (R120, R123). -/
def State.frameEnded (e : FrameEnd) (s : State) : State :=
  { s with
    lw := { s.lw with queue := s.lw.queue ++ [.marker e.slot] }
    ru := (s.stage (.frameSummary (s.summaryOf e))).ru
    fl := { s.fl with
      slots := s.fl.slots.set e.slot.val { s.slot e.slot with state := .captured, cut := (s.slot e.slot).cut || e.cut } }
    bt := { s.bt with frameEnd := none } }

theorem State.completeFrameEnd_eq : s.completeFrameEnd e = (s.frameEnded e).startNext.advance := rfl

theorem State.frameEnded_slots (w : SlotId) : (s.frameEnded e).fl.slots.get w =
    if w = e.slot then { s.slot e.slot with state := .captured, cut := (s.slot e.slot).cut || e.cut }
    else s.fl.slots.get w := slots_get_set ..

/-- The ended slot was the ACTIVE one, so none is ACTIVE. -/
theorem State.frameEnded_noActive (honly : ∀ w, w ≠ e.slot → (s.fl.slots.get w).state ≠ .active) (w : SlotId) :
    ((s.frameEnded e).fl.slots.get w).state ≠ .active := by
  rw [State.frameEnded_slots]
  split
  · nofun
  · rename_i hw
    exact honly w hw

/-- A state with the slots of `s` but for `v`, made ACTIVE, has `v` for its ACTIVE slot (R53). -/
theorem State.activeSlot_activate (h : ∀ w, w ≠ v → (s.fl.slots.get w).state ≠ .active) :
    activeSlot (s.activate v).fl.slots = some v := by
  have hslots : ∀ w, (s.activate v).fl.slots.get w
      = if w = v then { s.slot v with state := .active } else s.fl.slots.get w := fun w => slots_get_set ..
  refine activeSlot_eq_some (by rw [hslots, if_pos rfl]) fun w hw => ?_
  rw [hslots, if_neg hw]
  exact h w hw

theorem State.startNext_nil (h : s.iu.startQueue = []) : s.startNext = s := by simp [State.startNext, h]

theorem State.startNext_cons (h : s.iu.startQueue = v :: rest) :
    s.startNext = State.activate v { s with iu := { s.iu with startQueue := rest } } := by simp [State.startNext, h]

/-- With no slot ACTIVE and none waiting to be, DRAINING ends (R54). -/
theorem State.completeFrameEnd_last (hfree : s.bt.classifying = none)
    (honly : ∀ w, w ≠ e.slot → (s.fl.slots.get w).state ≠ .active) (hq : s.iu.startQueue = []) :
    s.completeFrameEnd e = { s.frameEnded e with
      iu := { s.iu with pass := if s.iu.pass = .draining then .planned else s.iu.pass } } := by
  have hnone : activeSlot (s.frameEnded e).fl.slots = none := activeSlot_eq_none (State.frameEnded_noActive honly)
  rw [State.completeFrameEnd_eq, State.startNext_nil (s := s.frameEnded e) hq,
    State.advance_of_noActive (s := s.frameEnded e) ⟨hfree, rfl⟩ hnone]
  simp [State.frameEnded, hq]

/-- The state once the oldest slot of the start queue is ACTIVE too (R53). -/
def State.frameFollowed (e : FrameEnd) (v : SlotId) (rest : List SlotId) (s : State) : State :=
  State.activate v { s.frameEnded e with iu := { s.iu with startQueue := rest } }

/-- It is the same slot but for its state. -/
theorem State.frameFollowed_slot (hv : v ≠ e.slot) :
    (s.frameFollowed e v rest).slot v = { s.fl.slots.get v with state := .active } := by
  have hslot : (s.frameEnded e).slot v = s.fl.slots.get v := (State.frameEnded_slots v).trans (if_neg hv)
  rw [← hslot]
  exact (slots_get_set ..).trans (if_pos rfl)

theorem State.frameFollowed_eq (hv : v ≠ e.slot) : s.frameFollowed e v rest = { s with
    lw := { s.lw with queue := s.lw.queue ++ [.marker e.slot] }
    ru := (s.stage (.frameSummary (s.summaryOf e))).ru
    fl := { s.fl with
      slots := (s.fl.slots.set e.slot.val
          { s.fl.slots.get e.slot with state := .captured, cut := (s.fl.slots.get e.slot).cut || e.cut }).set v.val
        { s.fl.slots.get v with state := .active } }
    iu := { s.iu with startQueue := rest }
    bt := { s.bt with frameEnd := none, tally := .zero, openTable := [], previous := [] } } := by
  have hslot : (s.frameEnded e).slot v = s.fl.slots.get v := (State.frameEnded_slots v).trans (if_neg hv)
  rw [← hslot]
  rfl

theorem State.completeFrameEnd_followed (hq : s.iu.startQueue = v :: rest) :
    s.completeFrameEnd e = (s.frameFollowed e v rest).advance := by
  rw [State.completeFrameEnd_eq, State.startNext_cons (s := s.frameEnded e) hq]
  rfl

theorem State.frameFollowed_active (honly : ∀ w, w ≠ e.slot → (s.fl.slots.get w).state ≠ .active) :
    activeSlot (s.frameFollowed e v rest).fl.slots = some v :=
  State.activeSlot_activate fun w _ => State.frameEnded_noActive honly w

/-- With no blemish open the Blemish Tracker stages nothing as it goes on. -/
theorem State.advance_ru_of_empty (h : s.bt.openTable = []) : s.advance.ru = s.ru := by
  by_cases hfree : s.TrackerFree
  · rw [State.advance_of_trackerFree hfree]
    simp only [State.beginFrameEnd_of_empty h]
    split <;> split_ifs <;> rfl
  · rw [State.advance_of_not_free hfree]

theorem State.completeFrameEnd_ru (hfree : s.bt.classifying = none)
    (honly : ∀ w, w ≠ e.slot → (s.fl.slots.get w).state ≠ .active) :
    (s.completeFrameEnd e).ru = (s.stage (.frameSummary (s.summaryOf e))).ru := by
  cases hq : s.iu.startQueue with
  | nil => rw [State.completeFrameEnd_last hfree honly hq]; rfl
  | cons v rest =>
    rw [State.completeFrameEnd_followed hq, State.advance_ru_of_empty rfl]
    rfl

end FrameEnded

/-- Settles O50: the queue's room, the start queue, and then what the slot that becomes ACTIVE begins. -/
theorem frameEndComplete : Obligations.FrameEndComplete := by
  rintro s e x f he hfree rfl honly rfl
  have hexec : exec .frameEndComplete s
      = occurs (decide (s.lw.queue.length < Config.queueCap)) (s.completeFrameEnd e) s := by
    simp only [exec, execFrameEndComplete, he]
  refine ⟨fun hfull => ?_, fun hroom => ?_⟩
  · rw [hexec, decide_eq_false (Nat.not_lt.mpr hfull), occurs_false]
  rw [decide_eq_true hroom, occurs_true] at hexec
  refine ⟨_, hexec, State.completeFrameEnd_ru hfree honly, fun hq hring => ?_, fun hq => State.settles_of_eq ?_, ?_⟩
  · rw [State.settleRequests_ru, State.completeFrameEnd_ru hfree honly, State.stage_of_room hq hring]
    rfl
  · rw [State.settleRequests_ru, State.completeFrameEnd_ru hfree honly, State.completeFrameEnd_last hfree honly hq]
    rfl
  · rintro v rest y ended ready hq hv rfl hready hended
    rw [State.settleRequests_ru, State.completeFrameEnd_ru hfree honly] at hended
    obtain rfl := hended.trans (State.frameFollowed_eq hv).symm
    clear hended
    have hfollowed : (s.frameFollowed e v rest).TrackerFree := ⟨hfree, rfl⟩
    have hactive : activeSlot (s.frameFollowed e v rest).fl.slots = some v := State.frameFollowed_active honly
    have hslot := State.frameFollowed_slot (s := s) (rest := rest) hv
    have hrow : ready ↔ (s.frameFollowed e v rest).rowReady v ((s.frameFollowed e v rest).slot v).classified = true := by
      rw [hready, State.rowReady_iff, hslot]
      rfl
    rw [hrow, State.completeFrameEnd_followed hq]
    refine ⟨fun hn hp => State.settles_of_eq ?_, fun hn hp => State.settles_of_eq ?_, fun hy hpend =>
      State.settles_of_eq (State.advance_of_hindered hactive hy hpend), fun hy hpend => ?_⟩
    · exact State.advance_of_none hp fun w hw => hn (by
        obtain rfl : v = w := Option.some.inj (hactive.symm.trans hw.active)
        exact hw.ready)
    · rw [State.advance_of_unready hfollowed hactive hn hp, State.beginFrameEnd_of_empty rfl, hslot]
      rfl
    · have hclass := State.beginNext_classifiesNext (s := s) (m := s.frameFollowed e v rest) (u := s.iu) (v := v)
        ⟨rfl, rfl⟩ ⟨s.cu.posted, rfl⟩
      rw [hslot] at hclass
      obtain ⟨hk, hhalf, hA, hB, hnone⟩ := hclass
      rw [State.advance_of_ready ⟨hfollowed, hpend, hactive, hy⟩]
      refine ⟨_, hk, State.settles_of_eq ?_, hhalf, hA, hB, hnone⟩
      rw [State.beginNext_eq, IntakeUnit.mapHalf_eq]
      rfl

end Sys2Proof.Machine

/-! # Intake words of a pass: the word in service, pairing, settling and the row tracker (R11, R43 to R48). -/

namespace Sys2Proof.Machine

/-! ## The word in service -/

/-- A beat after the byte swap of sample order BIG (R43). -/
def StripRecord.ordered (r : StripRecord) (beat : Beat) : Beat :=
  match r.sampleOrder with
  | .little => beat
  | .big => beat.swapSamples

/-- What IU does with a word before it is stored: pairing, and the row tracker or the count of late words (R44, R46,
R47). -/
def State.followWord (p : IntakePlace) (b : Beat) (s : State) : State :=
  let paired := s.pairWord p b
  if paired.iu.tracker.isLate p.row then paired.countLate else paired.moveTracker p.row

/-- IU's steps on a word of a survey pass, its bytes in order (R44 to R49). -/
def State.takeSurveyWord (r : StripRecord) (p : IntakePlace) (b : Beat) (s : State) : State :=
  ((s.followWord p b).storeSurvey r p b).settleOwn p b s.iu.pairing

/-- IU's steps on a word of a capture pass, its bytes in order (R44 to R48, R51, R52). -/
def State.takeCaptureWord (p : IntakePlace) (b : Beat) (s : State) : State :=
  ((s.followWord p b).storeCapture p b ((s.pairWord p b).iu.tracker.isLate p.row)).settleOwn p b s.iu.pairing

section Word
variable {s t : State} {a : Access} {w : WordItem} {r : StripRecord} {p : IntakePlace} {b : Beat}

theorem State.intakeWord_surveying (beat : Beat) :
    s.intakeWord .surveying r p beat = s.takeSurveyWord r p (r.ordered beat) := rfl

theorem State.intakeWord_capturing (beat : Beat) :
    s.intakeWord .capturing r p beat = s.takeCaptureWord p (r.ordered beat) := rfl

/-- A word within the declared rows and width is IU's to take (R12). -/
theorem State.intakeWriteEffect_declared {f : IntakeFrame} (ha : s.upstream = some a) (hr : a.view.strip = some r)
    (hf : intakeFrame a.view.pass a.view.strip = some f) (hp : f.place (intakeOffset w.address) = p)
    (hrow : p.row < f.rows) (hcol : p.col < f.width) :
    s.intakeWriteEffect w = (s.intakeWord a.view.pass r p w.beat).wordWritten [] := by
  rw [State.intakeWriteEffect, State.accessView_some ha, hf, hr]
  dsimp only
  rw [hp, if_neg (Nat.not_le.mpr hrow), if_neg (Nat.not_le.mpr hcol)]

/-- The offset of word `k` of a pixel finds its place (R11). -/
theorem IntakeFrame.place_eq {f : IntakeFrame} {row col k : Nat} (hpitch : f.pitch % 8 = 0)
    (hwidth : 8 * f.width ≤ f.pitch) (hcol : col < f.width) (hk : k < 2) :
    f.place (row * f.pitch + col * 8 + k * 4) = ⟨row, col, k⟩ := by
  obtain ⟨q, hq⟩ := Nat.dvd_of_mod_eq_zero hpitch
  have hin : col * 8 + k * 4 < f.pitch := by omega
  have hdiv : (row * f.pitch + (col * 8 + k * 4)) / f.pitch = row := by
    rw [Nat.add_comm, Nat.add_mul_div_right _ _ (by omega), Nat.div_eq_of_lt hin, Nat.zero_add]
  have hmod : (row * f.pitch + (col * 8 + k * 4)) % f.pitch = col * 8 + k * 4 := by
    rw [Nat.add_comm, Nat.add_mul_mod_self_right, Nat.mod_eq_of_lt hin]
  have hword : (row * f.pitch + (col * 8 + k * 4)) % 8 = k * 4 := by
    rw [hq, Nat.mul_left_comm]
    omega
  rw [Nat.add_assoc, IntakeFrame.place, hdiv, hmod, hword]
  congr 1 <;> omega

/-- Which word is next is told by the access, the post that waits and the size of memory. -/
theorem State.wordInService_congr (hu : t.upstream = s.upstream) (hc : t.cu = s.cu) (hm : t.mc = s.mc) :
    t.wordInService = s.wordInService := by
  simp only [State.wordInService, State.wordAt, hu, hc, hm]

/-- In a state with the same access, and a word within the declared rows and width in service, INTAKE_WRITE is IU's taking of
that word. -/
theorem exec_intakeWrite {f : IntakeFrame} {row col k : Nat} (ha : t.upstream = some a) (hw : t.wordInService = some w)
    (hwrite : w.isWrite = true) (hr : a.view.strip = some r) (hf : intakeFrame a.view.pass a.view.strip = some f)
    (hcol : col < f.width) (hrow : row < f.rows) (hwidth : 8 * f.width ≤ f.pitch) (hpitch : f.pitch % 8 = 0)
    (hend : row * f.pitch + f.pitch ≤ 0x10000000) (hk : k < 2)
    (hadd : w.address = 0x20000000 + row * f.pitch + col * 8 + k * 4) :
    exec .intakeWrite t
      = .next ((t.intakeWord a.view.pass r ⟨row, col, k⟩ w.beat).wordWritten []).settleRequests := by
  have hadd' : w.address = 0x20000000 + (row * f.pitch + col * 8 + k * 4) := by omega
  have ho : row * f.pitch + col * 8 + k * 4 < 0x10000000 := by omega
  have hplace : f.place (intakeOffset w.address) = ⟨row, col, k⟩ := by
    rw [intakeOffset_of_eq hadd' ho, IntakeFrame.place_eq hpitch hwidth hcol hk]
  rw [← State.intakeWriteEffect_declared ha hr hf hplace hrow hcol]
  exact serve_next hw (by simp [zone_of_intake hw hadd' ho, hwrite])

theorem State.SurveyWord.exec_next {row col k : Nat} (h : s.SurveyWord a r row col k b) (hu : t.upstream = s.upstream)
    (hc : t.cu = s.cu) (hm : t.mc = s.mc) :
    exec .intakeWrite t = .next ((t.takeSurveyWord r ⟨row, col, k⟩ b).wordWritten []).settleRequests := by
  obtain ⟨w, ha, hw, hwrite, hpass, hr, rfl, hcol, hrow, hwidth, hpitch, hend, hk, hadd⟩ := h
  have hexec := exec_intakeWrite (f := ⟨r.surveyPitch, r.surveyWidth, r.surveyRows⟩) (hu.trans ha)
    ((State.wordInService_congr hu hc hm).trans hw) hwrite hr (by rw [hpass, hr]; rfl) hcol hrow hwidth hpitch hend hk hadd
  rw [hexec, hpass]
  rfl

theorem State.CaptureWord.exec_next {row col k : Nat} (h : s.CaptureWord a r row col k b) (hu : t.upstream = s.upstream)
    (hc : t.cu = s.cu) (hm : t.mc = s.mc) :
    exec .intakeWrite t = .next ((t.takeCaptureWord ⟨row, col, k⟩ b).wordWritten []).settleRequests := by
  obtain ⟨w, ha, hw, hwrite, hpass, hr, rfl, hcol, hrow, hwidth, hpitch, hend, hk, hadd⟩ := h
  have hexec := exec_intakeWrite (f := ⟨r.capturePitch, r.captureWidth, r.captureRows⟩) (hu.trans ha)
    ((State.wordInService_congr hu hc hm).trans hw) hwrite hr (by rw [hpass, hr]; rfl) hcol hrow hwidth hpitch hend hk hadd
  rw [hexec, hpass]
  rfl

end Word

/-! ## Rows completed and passes ended -/

section Ends
variable {s : State} {r : StripRecord} {row : Nat}

/-- The same state with another pending word 0. -/
def State.withPairing (p : Option PendingWord) (s : State) : State := { s with iu := { s.iu with pairing := p } }

theorem State.atPort_pass (u : Option Access) (p : Option PendingWord) : (s.atPort u p).iu.pass = s.iu.pass := rfl

theorem State.advance_withPairing (p : Option PendingWord) : (s.withPairing p).advance = s.advance.withPairing p :=
  (State.advance_atPort s.upstream p).trans (by rw [← State.advance_upstream s]; rfl)

/-- The end of a survey pass (R48, R58, R66). -/
theorem State.endPassState_surveying {p : LocateParams} (hp : s.iu.pass = .surveying) (hr : s.iu.strip = some r)
    (hl : s.fl.params = some p) : s.endPassState = { s with
      iu := { s.iu with pass := .locating, pairing := none }
      fl := { s.fl with locating := some ⟨s.fl.profile, p, r, s.cu.effIrFloor⟩ } } := by
  simp only [State.endPassState, State.beginLocate, hp, hr, hl]

/-- The end of a capture pass (R54, R58). -/
theorem State.endPassState_capturing (hp : s.iu.pass = .capturing) :
    s.endPassState = State.advance { s with iu := { s.iu with pass := .draining, pairing := none } } := by
  simp only [State.endPassState, hp]

/-- Outside the two passes there is none to end. -/
theorem State.endPassState_idle (hs : s.iu.pass ≠ .surveying) (hc : s.iu.pass ≠ .capturing) : s.endPassState = s := by
  unfold State.endPassState
  cases hp : s.iu.pass
  case surveying => exact absurd hp hs
  case capturing => exact absurd hp hc
  all_goals rfl

/-- The end of a pass looks neither at the access at the port nor, but to empty it, at the pairing. -/
theorem State.endPassState_atPort (u : Option Access) :
    (s.atPort u none).endPassState = s.endPassState.atPort u none := by
  by_cases hs : s.iu.pass = .surveying
  · have hs' : (s.atPort u none).iu.pass = .surveying := hs
    simp only [State.endPassState, State.beginLocate, hs, hs']
    cases hr : s.iu.strip <;> cases hl : s.fl.params <;> simp [State.atPort, hr, hl]
  · by_cases hc : s.iu.pass = .capturing
    · rw [State.endPassState_capturing hc, State.endPassState_capturing (s := s.atPort u none) hc]
      exact State.advance_atPort (s := { s with iu := { s.iu with pass := .draining, pairing := none } }) u none
    · rw [State.endPassState_idle hs hc]
      exact State.endPassState_idle (s := s.atPort u none) hs hc

/-- A row tracker whose current row has completed (R46). -/
def RowTracker.completed (t : RowTracker) : RowTracker := { t with complete := true }

/-- An open survey row completed, short of the end of the pass: its profile entry is made (R48, R50). -/
def State.rowProfiled (r : StripRecord) (s : State) : State :=
  { s with
    iu := { s.iu with tracker := s.iu.tracker.completed }
    fl := { s.fl with profile := s.fl.profile ++ [r.profileEntry s.iu.tracker.gSum s.iu.tracker.iSum] } }

/-- An open capture row completed, short of what the Blemish Tracker does with it: its half is WAITING (R48, R55). -/
def State.rowWaiting (row : Nat) (s : State) : State :=
  { s with iu := IntakeUnit.mapHalf IrHalf.afterRow row { s.iu with tracker := s.iu.tracker.completed } }

/-- The completion of a row by the pass (R48). -/
theorem State.completeOpenRow_eq (hr : s.iu.strip = some r) (hrow : s.iu.tracker.current = some row) :
    s.completeOpenRow =
      if s.iu.pass = .surveying then
        if row + 1 = r.surveyRows then (s.rowProfiled r).endPassState else s.rowProfiled r
      else if s.iu.pass = .capturing then
        if row + 1 = r.captureRows then (s.rowWaiting row).advance.endPassState else (s.rowWaiting row).advance
      else { s with iu := { s.iu with tracker := s.iu.tracker.completed } } := by
  unfold State.completeOpenRow
  split
  · rename_i row' r' hrow' hr'
    obtain rfl : row = row' := Option.some.inj (hrow.symm.trans hrow')
    obtain rfl : r = r' := Option.some.inj (hr.symm.trans hr')
    cases s.iu.pass <;> rfl
  · rename_i h
    exact absurd hr (h row r hrow)

/-- An open survey row completes: the last declared row ends the pass (R48, R66). -/
theorem State.completeOpenRow_surveying (hp : s.iu.pass = .surveying) (hr : s.iu.strip = some r)
    (hrow : s.iu.tracker.current = some row) :
    s.completeOpenRow = if row + 1 = r.surveyRows then (s.rowProfiled r).endPassState else s.rowProfiled r := by
  rw [State.completeOpenRow_eq hr hrow, if_pos hp]

/-- An open capture row completes: the Blemish Tracker is told, and the last declared row ends the pass (R48, R54). -/
theorem State.completeOpenRow_capturing (hp : s.iu.pass = .capturing) (hr : s.iu.strip = some r)
    (hrow : s.iu.tracker.current = some row) : s.completeOpenRow =
      if row + 1 = r.captureRows then (s.rowWaiting row).advance.endPassState else (s.rowWaiting row).advance := by
  rw [State.completeOpenRow_eq hr hrow, if_neg (by rw [hp]; nofun), if_pos hp]

theorem State.completeOpenRow_none (h : s.iu.tracker.current = none ∨ s.iu.strip = none) : s.completeOpenRow = s := by
  unfold State.completeOpenRow
  split
  · rename_i hrow hr
    rcases h with h | h
    · rw [hrow] at h; cases h
    · rw [hr] at h; cases h
  · rfl

theorem State.rowWaiting_atPort (u : Option Access) (p : Option PendingWord) :
    (s.atPort u p).rowWaiting row = (s.rowWaiting row).atPort u p := by
  rw [State.rowWaiting, State.rowWaiting, IntakeUnit.mapHalf_eq, IntakeUnit.mapHalf_eq]
  rfl

/-- The completion of a row looks neither at the access at the port nor, but to empty it, at the pairing. -/
theorem State.completeOpenRow_atPort (u : Option Access) :
    (s.atPort u none).completeOpenRow = s.completeOpenRow.atPort u none := by
  cases hrow : s.iu.tracker.current with
  | none =>
    rw [State.completeOpenRow_none (.inl hrow)]
    exact State.completeOpenRow_none (s := s.atPort u none) (.inl hrow)
  | some row => cases hr : s.iu.strip with
    | none =>
      rw [State.completeOpenRow_none (.inr hr)]
      exact State.completeOpenRow_none (s := s.atPort u none) (.inr hr)
    | some r =>
      rw [State.completeOpenRow_eq hr hrow, State.completeOpenRow_eq (s := s.atPort u none) hr hrow,
        State.rowWaiting_atPort, State.advance_atPort, State.atPort_pass]
      split_ifs
      · exact State.endPassState_atPort (s := s.rowProfiled r) u
      · rfl
      · exact State.endPassState_atPort u
      · rfl
      · rfl

theorem State.completeOpenRow_withoutPairing :
    (s.withPairing none).completeOpenRow = s.completeOpenRow.withPairing none :=
  (State.completeOpenRow_atPort s.upstream).trans (by rw [← State.completeOpenRow_upstream s]; rfl)

theorem State.endPassState_withoutPairing :
    (s.withPairing none).endPassState = s.endPassState.withPairing none :=
  (State.endPassState_atPort s.upstream).trans (by rw [← State.endPassState_upstream s]; rfl)

end Ends

end Sys2Proof.Machine

/-! # Pairing, settling and the row tracker (R44 to R48). -/

namespace Sys2Proof.Machine

/-! ## Settling -/

/-- Row `row` is current and not completed (R46). -/
def RowTracker.OpenAt (t : RowTracker) (row : Nat) : Prop := t.current = some row ∧ t.complete = false

/-- A pixel of the open row settled, short of the completion of a row it fills (R45). -/
def State.settled (row col : Nat) (torn : Bool) (g i : Nat) (s : State) : State :=
  let raised := { s with iu := { s.iu with tracker := { s.iu.tracker with settled := s.iu.tracker.settled + 1 } } }
  State.settleEffect row col torn g i (if torn then raised.count tornPixel else raised)

/-- The halves once a pixel has settled in CAPTURING: the entry of a routed pixel is set in its row's half (R45). -/
def State.pixelHalves (row col ir : Nat) (torn : Bool) (s : State) : IntakeUnit :=
  match routeOf s.fl.slots row col with
  | some v => s.iu.mapHalf (fun h => h.afterPixel (col - (s.slot v).left) (s.slot v).clearLevel ir torn) row
  | none => s.iu

section Settle
variable {s u : State} {r : StripRecord} {row col g i : Nat} {torn : Bool} {f : IntakeFrame} {q : PendingWord}

theorem IrHalf.settle_eq (clearLevel column ir : Nat) (torn : Bool) :
    IrHalf.settle clearLevel column ir torn = fun h => h.afterPixel column clearLevel ir torn := by
  cases torn <;> rfl

theorem State.pixelHalves_none (h : routeOf s.fl.slots row col = none) : s.pixelHalves row col i torn = s.iu := by
  simp [State.pixelHalves, h]

theorem State.pixelHalves_some {v : SlotId} (h : routeOf s.fl.slots row col = some v) : s.pixelHalves row col i torn =
    s.iu.mapHalf (fun h => h.afterPixel (col - (s.slot v).left) (s.slot v).clearLevel i torn) row := by
  simp [State.pixelHalves, h]

/-- The state as a pixel of the open row has been counted: one more settled, and TORN_PIXEL if it is torn (R45). -/
def State.pixelCounted (torn : Bool) (s : State) : State :=
  { s with
    ru := (if torn then s.count tornPixel else s).ru
    iu := { s.iu with tracker := { s.iu.tracker with settled := s.iu.tracker.settled + 1 } } }

theorem State.settled_eq : s.settled row col torn g i = (s.pixelCounted torn).settleEffect row col torn g i := by
  cases torn with
  | false => rfl
  | true =>
    rw [State.settled, if_pos rfl, State.count_eq]
    exact congrArg (fun ru => State.settleEffect row col true g i { s.pixelCounted true with ru := ru })
      (State.count_ru_congr tornPixel rfl rfl)

/-- Of a pixel settled in SURVEYING the untorn samples in the film window enter the sums (R45, R50). -/
theorem State.settled_surveying (hp : s.iu.pass = .surveying) (hr : s.iu.strip = some r) :
    s.settled row col torn g i = { s.pixelCounted torn with
      iu := { s.iu with tracker := { s.iu.tracker with
        settled := s.iu.tracker.settled + 1
        gSum := s.iu.tracker.gSum + if torn = false ∧ r.filmHas col = true then g else 0
        iSum := s.iu.tracker.iSum + if torn = false ∧ r.filmHas col = true then i else 0 } } } := by
  have hp' : (s.pixelCounted torn).iu.pass = .surveying := hp
  have hr' : (s.pixelCounted torn).iu.strip = some r := hr
  have hfilm : (!torn && decide (r.filmWindow.1 ≤ col) && decide (col ≤ r.filmWindow.2)) = true
      ↔ torn = false ∧ r.filmHas col = true := by
    simp only [StripRecord.filmHas, Bool.and_eq_true, Bool.not_eq_true', decide_eq_true_eq, and_assoc]
    rfl
  simp only [State.settled_eq, State.settleEffect, hp', hr', hfilm]
  split
  · simp only [hp, hr]
    rfl
  · rfl

/-- In CAPTURING the entry of a routed pixel is set (R45). -/
theorem State.settled_capturing (hp : s.iu.pass = .capturing) : s.settled row col torn g i = { s.pixelCounted torn with
    iu := { s.iu with
      halfA := (s.pixelHalves row col i torn).halfA
      halfB := (s.pixelHalves row col i torn).halfB
      tracker := { s.iu.tracker with settled := s.iu.tracker.settled + 1 } } } := by
  have hp' : (s.pixelCounted torn).iu.pass = .capturing := hp
  rw [State.settled_eq, State.settleEffect, hp']
  dsimp only
  rw [show (s.pixelCounted torn).fl.slots = s.fl.slots from rfl]
  cases hv : routeOf s.fl.slots row col with
  | none => rw [State.pixelHalves_none hv]; rfl
  | some v =>
    dsimp only
    rw [State.pixelHalves_some hv, IrHalf.settle_eq, IntakeUnit.mapHalf_eq, IntakeUnit.mapHalf_eq]
    rfl

theorem State.settled_idle (hs : s.iu.pass ≠ .surveying) (hc : s.iu.pass ≠ .capturing) :
    s.settled row col torn g i = s.pixelCounted torn := by
  rw [State.settled_eq]
  have hs' : (s.pixelCounted torn).iu.pass ≠ .surveying := hs
  have hc' : (s.pixelCounted torn).iu.pass ≠ .capturing := hc
  unfold State.settleEffect
  cases hp : (s.pixelCounted torn).iu.pass
  case surveying => exact absurd hp hs'
  case capturing => exact absurd hp hc'
  all_goals rfl

/-- A pixel settled torn leaves the sums as they are, in every pass (R45). -/
theorem State.settled_torn : s.settled row col true 0 0 = { s.pixelCounted true with
    iu := { s.iu with
      halfA := (if s.iu.pass = .capturing then s.pixelHalves row col 0 true else s.iu).halfA
      halfB := (if s.iu.pass = .capturing then s.pixelHalves row col 0 true else s.iu).halfB
      tracker := { s.iu.tracker with settled := s.iu.tracker.settled + 1 } } } := by
  by_cases hc : s.iu.pass = .capturing
  · rw [State.settled_capturing hc, if_pos hc]
  · rw [if_neg hc]
    by_cases hs : s.iu.pass = .surveying
    · cases hr : s.iu.strip with
      | some r => rw [State.settled_surveying hs hr]; rfl
      | none =>
        have hs' : (s.pixelCounted true).iu.pass = .surveying := hs
        have hr' : (s.pixelCounted true).iu.strip = none := hr
        simp only [State.settled_eq, State.settleEffect, hs', hr']
        rfl
    · rw [State.settled_idle hs hc]
      rfl

theorem State.settled_frame : (s.settled row col torn g i).iu.pass = s.iu.pass
    ∧ (s.settled row col torn g i).iu.strip = s.iu.strip
    ∧ (s.settled row col torn g i).iu.tracker.settled = s.iu.tracker.settled + 1 := by
  by_cases hc : s.iu.pass = .capturing
  · rw [State.settled_capturing hc]
    exact ⟨rfl, rfl, rfl⟩
  · rw [State.settled_eq]
    have hc' : (s.pixelCounted torn).iu.pass ≠ .capturing := hc
    unfold State.settleEffect
    split
    · contradiction
    · split
      · split <;> exact ⟨rfl, rfl, rfl⟩
      · exact ⟨rfl, rfl, rfl⟩
    all_goals exact ⟨rfl, rfl, rfl⟩

theorem State.rowFilled_settled : (s.settled row col torn g i).rowFilled = true ↔
    ∃ f, intakeFrame s.iu.pass s.iu.strip = some f ∧ s.iu.tracker.settled + 1 = f.width := by
  obtain ⟨hp, hr, hn⟩ := State.settled_frame (s := s) (row := row) (col := col) (torn := torn) (g := g) (i := i)
  rw [State.rowFilled, hp, hr, hn]
  cases intakeFrame s.iu.pass s.iu.strip <;> simp

theorem State.settlePixel_of_open (ho : s.iu.tracker.OpenAt row) : s.settlePixel row col torn g i =
    if (s.settled row col torn g i).rowFilled then (s.settled row col torn g i).completeOpenRow
    else s.settled row col torn g i := if_pos (And.intro ho.1 ho.2)

/-- A pixel of the open row that does not fill it settles (R45). -/
theorem State.settlePixel_open (ho : s.iu.tracker.OpenAt row)
    (hn : ∀ f, intakeFrame s.iu.pass s.iu.strip = some f → s.iu.tracker.settled + 1 ≠ f.width) :
    s.settlePixel row col torn g i = s.settled row col torn g i := by
  have hfill : ¬(s.settled row col torn g i).rowFilled = true :=
    fun h => by
      obtain ⟨f, hf, hw⟩ := State.rowFilled_settled.mp h
      exact hn f hf hw
  rw [State.settlePixel_of_open ho, if_neg hfill]

/-- One that fills it completes it too (R48). -/
theorem State.settlePixel_fills (ho : s.iu.tracker.OpenAt row) (hf : intakeFrame s.iu.pass s.iu.strip = some f)
    (hn : s.iu.tracker.settled + 1 = f.width) :
    s.settlePixel row col torn g i = (s.settled row col torn g i).completeOpenRow := by
  rw [State.settlePixel_of_open ho, if_pos (State.rowFilled_settled.mpr ⟨f, hf, hn⟩)]

/-- A pixel of another row settles without effect (R45). -/
theorem State.settlePixel_elsewhere (h : ¬s.iu.tracker.OpenAt row) : s.settlePixel row col torn g i = s := if_neg h

/-! ## A pending word 0 that settles torn -/

theorem State.SettledTorn.eq_of_open (h : s.SettledTorn q u) (ho : s.iu.tracker.OpenAt q.row) :
    u = (s.settled q.row q.col true 0 0).withPairing none := by
  obtain ⟨hu, hsame, hchanged⟩ := h.2 ho.1 ho.2
  have hhalves : u.iu.SameHalves (if s.iu.pass = .capturing then s.pixelHalves q.row q.col 0 true else s.iu) := by
    split
    · rename_i hp
      cases hv : routeOf s.fl.slots q.row q.col with
      | none =>
        rw [State.pixelHalves_none hv]
        obtain ⟨hA, hB⟩ := hsame (.inr hv)
        exact ⟨hA.symm, hB.symm⟩
      | some v =>
        rw [State.pixelHalves_some hv]
        exact (hchanged v _ hp hv rfl).sameHalves.symm
    · rename_i hp
      obtain ⟨hA, hB⟩ := hsame (.inl hp)
      exact ⟨hA.symm, hB.symm⟩
  obtain ⟨hA, hB⟩ := hhalves
  rw [hu, State.settled_torn, hA, hB]
  rfl

theorem State.SettledTorn.eq_elsewhere (h : s.SettledTorn q u) (ho : ¬s.iu.tracker.OpenAt q.row) :
    u = s.withPairing none := h.1 ho

/-- Where it fills no row, a pending word 0 settled torn leaves what R44 and R45 say of it. -/
theorem State.SettledTorn.settlePixel_eq (h : s.SettledTorn q u)
    (hn : ¬s.iu.tracker.OpenAt q.row
      ∨ ∀ f, intakeFrame s.iu.pass s.iu.strip = some f → s.iu.tracker.settled + 1 ≠ f.width) :
    (s.settlePixel q.row q.col true 0 0).withPairing none = u := by
  by_cases ho : s.iu.tracker.OpenAt q.row
  · rw [State.settlePixel_open ho (hn.resolve_left (not_not_intro ho)), ← h.eq_of_open ho]
  · rw [State.settlePixel_elsewhere ho, ← h.eq_elsewhere ho]

/-- Where it fills its row, the row completes after that (R48). -/
theorem State.SettledTorn.settlePixel_fills (h : s.SettledTorn q u) (ho : s.iu.tracker.OpenAt q.row)
    (hf : intakeFrame s.iu.pass s.iu.strip = some f) (hn : s.iu.tracker.settled + 1 = f.width) :
    (s.settlePixel q.row q.col true 0 0).withPairing none = u.completeOpenRow := by
  rw [State.settlePixel_fills ho hf hn, h.eq_of_open ho, State.completeOpenRow_withoutPairing]

end Settle

/-! ## Pairing -/

section Pairing
variable {s : State} {r : StripRecord} {p : IntakePlace} {b : Beat} {q : PendingWord} {torn : Bool}

/-- What is pending once a word has been paired: a word 0 itself (R44). -/
def IntakePlace.pending (p : IntakePlace) (b : Beat) : Option PendingWord :=
  if p.word = 0 then some ⟨p.row, p.col, b.isFull, b.data⟩ else none

/-- The word 1 of the pixel whose word 0 is pending (R44). -/
def PendingWord.Own (q : PendingWord) (p : IntakePlace) : Prop := p.word = 1 ∧ q.row = p.row ∧ q.col = p.col

theorem PendingWord.isOf_iff : q.isOf p = true ↔ q.row = p.row ∧ q.col = p.col := by simp [PendingWord.isOf]

/-- A word that leaves no other pending only takes its place in the pairing state (R44). -/
theorem State.pairWord_own (h : ∀ q, s.iu.pairing = some q → q.Own p) :
    s.pairWord p b = s.withPairing (p.pending b) := by
  cases hq : s.iu.pairing with
  | none => simp only [State.pairWord, hq]; rfl
  | some q =>
    obtain ⟨hk, hown⟩ := h q hq
    simp only [State.pairWord, hq, if_pos (And.intro hk (PendingWord.isOf_iff.mpr hown))]
    rfl

/-- One that leaves another pending settles that one torn first (R44). -/
theorem State.pairWord_leftOver (hq : s.iu.pairing = some q) (h : ¬q.Own p) :
    s.pairWord p b = (s.settlePixel q.row q.col true 0 0).withPairing (p.pending b) := by
  have hown : ¬(p.word = 1 ∧ q.isOf p = true) := fun ⟨hk, ho⟩ => h ⟨hk, PendingWord.isOf_iff.mp ho⟩
  simp only [State.pairWord, hq, if_neg hown]
  rfl

/-- The rest of the word's effect is then the effect it has with nothing pending (R44). -/
theorem State.pairWord_settledFirst (hq : s.iu.pairing = some q) (h : ¬q.Own p) :
    s.pairWord p b = State.pairWord p b ((s.settlePixel q.row q.col true 0 0).withPairing none) := by
  rw [State.pairWord_leftOver hq h, State.pairWord_own (by rintro _ ⟨⟩)]
  rfl

theorem State.settleOwn_word0 (h : p.word = 0) (pending : Option PendingWord) : s.settleOwn p b pending = s :=
  if_neg (by rw [h]; decide)

/-- A word 1 settles its pixel untorn when both words are full and a pair (R44). -/
theorem State.settleOwn_untorn {w : Word} (h : p.word = 1) (hb : b.isFull = true) :
    s.settleOwn p b (some ⟨p.row, p.col, true, w⟩)
      = s.settlePixel p.row p.col false (w.toNat / 65536) (b.data.toNat / 65536) := by
  simp [State.settleOwn, h, hb, PendingWord.isOf, Word.highSample]

/-- Else it settles its pixel torn (R44). -/
theorem State.settleOwn_torn {pending : Option PendingWord} (h : p.word = 1)
    (hn : ¬(b.isFull = true ∧ ∃ w, pending = some ⟨p.row, p.col, true, w⟩)) :
    s.settleOwn p b pending = s.settlePixel p.row p.col true 0 0 := by
  refine (if_pos h).trans ?_
  split
  · rename_i q
    refine if_neg fun hpair => hn ?_
    simp only [Bool.and_eq_true, PendingWord.isOf_iff] at hpair
    obtain ⟨⟨⟨hrow, hcol⟩, hfull⟩, hb⟩ := hpair
    refine ⟨hb, q.word, ?_⟩
    rw [← hrow, ← hcol, ← hfull]
  · rfl

/-- A word settles its own pixel or none (R44). -/
theorem State.settleOwn_cases (pending : Option PendingWord) :
    (∃ torn g i, s.settleOwn p b pending = s.settlePixel p.row p.col torn g i) ∨ s.settleOwn p b pending = s := by
  unfold State.settleOwn
  split
  · split
    · split
      · exact .inl ⟨_, _, _, rfl⟩
      · exact .inl ⟨_, _, _, rfl⟩
    · exact .inl ⟨_, _, _, rfl⟩
  · exact .inr rfl

/-- A pending word 0 of another pixel is as none to the settling of a word 1's own pixel (R44). -/
theorem State.settleOwn_leftOver (h : ¬q.Own p) : s.settleOwn p b (some q) = s.settleOwn p b none := by
  by_cases hk : p.word = 1
  · rw [State.settleOwn_torn (pending := none) hk (by rintro ⟨-, _, ⟨⟩⟩)]
    refine State.settleOwn_torn hk ?_
    rintro ⟨-, w, hw⟩
    obtain rfl := Option.some.inj hw
    exact h ⟨hk, rfl, rfl⟩
  · exact (if_neg hk).trans (if_neg hk).symm

/-- A word that leaves another pending has, after that one has settled torn, the effect it has with nothing pending (R44). -/
theorem State.takeSurveyWord_settledFirst (hq : s.iu.pairing = some q) (h : ¬q.Own p) : s.takeSurveyWord r p b
    = State.takeSurveyWord r p b ((s.settlePixel q.row q.col true 0 0).withPairing none) := by
  unfold State.takeSurveyWord State.followWord
  rw [← State.pairWord_settledFirst hq h, hq, State.settleOwn_leftOver h]
  rfl

theorem State.takeCaptureWord_settledFirst (hq : s.iu.pairing = some q) (h : ¬q.Own p) : s.takeCaptureWord p b
    = State.takeCaptureWord p b ((s.settlePixel q.row q.col true 0 0).withPairing none) := by
  unfold State.takeCaptureWord State.followWord
  rw [← State.pairWord_settledFirst hq h, hq, State.settleOwn_leftOver h]
  rfl

end Pairing

end Sys2Proof.Machine

/-! # The row tracker (R46, R47). -/

namespace Sys2Proof.Machine

/-- Each row that is current lies below `row` (R46). -/
def RowTracker.Below (t : RowTracker) (row : Nat) : Prop := ∀ c, t.current = some c → c < row

/-- Row `row` lies below the current row, or is current and completed: a word of it is late (R46). -/
def RowTracker.Late (t : RowTracker) (row : Nat) : Prop :=
  ∃ c, t.current = some c ∧ (row < c ∨ row = c ∧ t.complete = true)

/-- The rows that a word of row `row`, above the current one, skips (R46). -/
def RowTracker.skips (t : RowTracker) (row : Nat) : Nat :=
  match t.current with
  | some c => row - c - 1
  | none => row

/-- The tracker at the first word of a row (R46). -/
def RowTracker.fresh (row : Nat) : RowTracker := ⟨some row, 0, false, false, 0, 0⟩

/-- ROW_SKIP is counted if any row was skipped (R46). -/
def State.countSkips (n : Nat) (s : State) : State := if n = 0 then s else s.count rowSkip

section Rows
variable {s : State} {a : Access} {r : StripRecord} {row : Nat} {t : RowTracker} {p : IntakePlace} {b : Beat}

theorem RowTracker.isLate_iff : t.isLate row = true ↔ t.Late row := by
  unfold RowTracker.isLate RowTracker.Late
  cases t.current <;> simp

theorem RowTracker.OpenAt.not_late (h : t.OpenAt row) : ¬t.isLate row = true := by
  obtain ⟨hc, hn⟩ := h
  simp [RowTracker.isLate, hc, hn]

theorem RowTracker.Below.not_late (h : t.Below row) : ¬t.isLate row = true := by
  rw [RowTracker.isLate_iff]
  rintro ⟨c, hc, hlate⟩
  have := h c hc
  omega

theorem RowTracker.Late.not_openAt (h : t.Late row) : ¬t.OpenAt row := by
  rintro ⟨hc, hn⟩
  obtain ⟨c, hc', hlate⟩ := h
  obtain rfl := Option.some.inj (hc.symm.trans hc')
  rcases hlate with hlt | ⟨-, hcomplete⟩
  · exact absurd hlt (Nat.lt_irrefl _)
  · rw [hn] at hcomplete
    cases hcomplete

theorem RowTracker.openAt_fresh : (RowTracker.fresh row).OpenAt row := ⟨rfl, rfl⟩

theorem RowTracker.hasCompleted_fresh {n : Nat} : (RowTracker.fresh row).hasCompleted n = true ↔ n < row := by
  simp [RowTracker.hasCompleted, RowTracker.fresh]

/-- The rows completed lie below a row that is above the current one (R46). -/
theorem RowTracker.Below.lt_of_hasCompleted (h : t.Below row) {n : Nat} (hn : t.hasCompleted n = true) : n < row := by
  unfold RowTracker.hasCompleted at hn
  split at hn
  · rename_i c hc
    have := h c hc
    simp only [Bool.or_eq_true, decide_eq_true_eq, Bool.and_eq_true] at hn
    omega
  · cases hn

/-! ## What IU does before a word is stored -/

theorem State.followWord_late (hown : ∀ q, s.iu.pairing = some q → q.Own p) (h : s.iu.tracker.Late p.row) :
    s.followWord p b = (s.withPairing (p.pending b)).countLate := by
  rw [State.followWord, State.pairWord_own hown]
  exact if_pos (RowTracker.isLate_iff.mpr h)

theorem State.moveTracker_open (h : s.iu.tracker.current = some row) : s.moveTracker row = s := by
  simp [State.moveTracker, h]

theorem State.followWord_open (hown : ∀ q, s.iu.pairing = some q → q.Own p) (h : s.iu.tracker.OpenAt p.row) :
    s.followWord p b = s.withPairing (p.pending b) := by
  rw [State.followWord, State.pairWord_own hown]
  exact (if_neg h.not_late).trans (State.moveTracker_open h.1)

theorem State.followWord_moves (hown : ∀ q, s.iu.pairing = some q → q.Own p) (h : s.iu.tracker.Below p.row) :
    s.followWord p b = (s.withPairing (p.pending b)).moveTracker p.row := by
  rw [State.followWord, State.pairWord_own hown]
  exact if_neg h.not_late

/-- LATE_WRITE is counted once for the access (R47). -/
theorem State.countLate_eq (ha : s.upstream = some a) : s.countLate = { s with
    ru := (if a.lateCounted then s else s.count lateWrite).ru
    upstream := some { a with lateCounted := true } } := by
  simp only [State.countLate, ha]
  cases hl : a.lateCounted with
  | true =>
    have hsame : { a with lateCounted := true } = a := by rw [← hl]
    rw [hsame, ← ha]
    rfl
  | false =>
    rw [if_neg nofun, State.count_withUpstream, State.count_eq]
    rfl

/-! ## A move of the tracker -/

theorem State.completeIfOpen_none (h : s.iu.tracker.current = none) : s.completeIfOpen = s := by
  unfold State.completeIfOpen
  split
  · rfl
  · exact State.completeOpenRow_none (.inl h)

theorem State.completeIfOpen_complete (h : s.iu.tracker.complete = true) : s.completeIfOpen = s := if_pos h

theorem State.completeIfOpen_open (h : s.iu.tracker.complete = false) : s.completeIfOpen = s.completeOpenRow :=
  if_neg (by rw [h]; nofun)

/-- A skipped survey row has the entry (0, 0) (R50). -/
theorem State.skipRows_surveying (hp : s.iu.pass = .surveying) (n : Nat) :
    s.skipRows n = { s with fl := { s.fl with profile := s.fl.profile ++ List.replicate n ⟨0, 0⟩ } } := by
  unfold State.skipRows
  split
  · rfl
  all_goals (rename_i h; rw [hp] at h; cases h)

theorem State.skipRows_capturing (hp : s.iu.pass = .capturing) (n : Nat) : s.skipRows n = s := by
  simp only [State.skipRows, hp]

theorem State.skipRows_zero : s.skipRows 0 = s := by
  unfold State.skipRows
  split
  · simp
  all_goals rfl

/-- A word above the current row completes the open row, skips the rows between and makes its own current (R46). -/
theorem State.moveTracker_below (h : s.iu.tracker.Below row) : s.moveTracker row = State.openRow row
    (State.countSkips (s.iu.tracker.skips row) (s.completeIfOpen.skipRows (s.iu.tracker.skips row))) := by
  unfold State.moveTracker RowTracker.skips State.countSkips
  cases hc : s.iu.tracker.current with
  | none =>
    rw [State.completeIfOpen_none hc]
    by_cases h0 : row = 0 <;> simp [h0, Nat.pos_iff_ne_zero]
  | some c =>
    have hlt := h c hc
    dsimp only
    rw [if_neg (by omega)]
    by_cases h1 : row = c + 1
    · have h0 : row - c - 1 = 0 := by omega
      rw [if_pos h1]
      simp only [h0, State.skipRows_zero, if_true]
    · rw [if_neg h1, if_neg (by omega)]

theorem State.countSkips_eq (n : Nat) : s.countSkips n = { s with ru := (s.countSkips n).ru } := by
  unfold State.countSkips
  split
  · rfl
  · exact State.count_eq ..

theorem State.countSkips_ru {m : State} {n : Nat} (hru : m.ru = s.ru) (hcu : m.cu = s.cu) :
    (m.countSkips n).ru = (s.countSkips n).ru := by
  unfold State.countSkips
  split
  · exact hru
  · exact State.count_ru_congr rowSkip hru hcu

theorem State.openRow_countSkips {m : State} {n : Nat} (hru : m.ru = s.ru) (hcu : m.cu = s.cu) :
    State.openRow row (m.countSkips n)
      = State.advance { m with ru := (s.countSkips n).ru, iu := { m.iu with tracker := .fresh row } } := by
  rw [State.countSkips_eq, State.countSkips_ru hru hcu]
  rfl

/-! ## A move in SURVEYING -/

/-- The profile entry of the open survey row, if there is one (R48). -/
def State.closingEntry (r : StripRecord) (s : State) : List ProfileEntry :=
  if s.iu.tracker.complete then []
  else match s.iu.tracker.current with
    | some _ => [r.profileEntry s.iu.tracker.gSum s.iu.tracker.iSum]
    | none => []

/-- A survey word has moved the tracker, short of what the Blemish Tracker does with it (R46, R50). -/
def State.surveyMoved (r : StripRecord) (row : Nat) (s : State) : State :=
  { s with
    ru := (s.countSkips (s.iu.tracker.skips row)).ru
    iu := { s.iu with tracker := .fresh row }
    fl := { s.fl with
      profile := s.fl.profile ++ s.closingEntry r ++ List.replicate (s.iu.tracker.skips row) ⟨0, 0⟩ } }

theorem State.completeIfOpen_surveying (hp : s.iu.pass = .surveying) (hr : s.iu.strip = some r)
    (h : ∀ c, s.iu.tracker.current = some c → c + 1 ≠ r.surveyRows) : ∃ t, s.completeIfOpen = { s with
      iu := { s.iu with tracker := t }
      fl := { s.fl with profile := s.fl.profile ++ s.closingEntry r } } := by
  unfold State.closingEntry
  cases hn : s.iu.tracker.complete with
  | true => exact ⟨s.iu.tracker, by rw [State.completeIfOpen_complete hn, if_pos rfl, List.append_nil]⟩
  | false => cases hc : s.iu.tracker.current with
    | none => exact ⟨s.iu.tracker, by rw [State.completeIfOpen_none hc, if_neg nofun, List.append_nil]⟩
    | some c =>
      refine ⟨s.iu.tracker.completed, ?_⟩
      rw [State.completeIfOpen_open hn, State.completeOpenRow_surveying hp hr hc, if_neg (h c hc)]
      rfl

theorem State.moveTracker_surveying (hp : s.iu.pass = .surveying) (hr : s.iu.strip = some r)
    (hrow : row < r.surveyRows) (hb : s.iu.tracker.Below row) : s.moveTracker row = (s.surveyMoved r row).advance := by
  obtain ⟨t, ht⟩ := State.completeIfOpen_surveying hp hr fun c hc => by
    have := hb c hc
    omega
  have hp' : s.completeIfOpen.iu.pass = .surveying := by rw [ht]; exact hp
  rw [State.moveTracker_below hb, State.skipRows_surveying hp',
    State.openRow_countSkips (s := s) (by rw [ht]) (by rw [ht]), ht]
  rfl

/-! ## A move in CAPTURING -/

/-- The open row, if there is one, completed short of what the Blemish Tracker does with it (R48). -/
def State.rowClosed (s : State) : State :=
  if s.iu.tracker.complete then s
  else match s.iu.tracker.current with
    | some c => s.rowWaiting c
    | none => s

theorem State.rowClosed_still (h : s.iu.tracker.current = none ∨ s.iu.tracker.complete = true) : s.rowClosed = s := by
  unfold State.rowClosed
  split
  · rfl
  · rename_i hn
    rw [h.resolve_right hn]

theorem State.rowClosed_open {c : Nat} (hc : s.iu.tracker.current = some c) (hn : s.iu.tracker.complete = false) :
    s.rowClosed = s.rowWaiting c := by
  simp [State.rowClosed, hc, hn]

theorem State.rowWaiting_eq (c : Nat) : s.rowWaiting c = { s with iu := { s.iu with
    tracker := s.iu.tracker.completed
    halfA := (s.iu.mapHalf IrHalf.afterRow c).halfA
    halfB := (s.iu.mapHalf IrHalf.afterRow c).halfB } } := by
  rw [State.rowWaiting, IntakeUnit.mapHalf_eq, IntakeUnit.mapHalf_eq]

/-- The completion of a row changes its mark and the halves. -/
theorem State.rowClosed_eq : s.rowClosed = { s with iu := { s.iu with
    tracker := { s.iu.tracker with complete := s.iu.tracker.complete || s.iu.tracker.current.isSome }
    halfA := s.rowClosed.iu.halfA
    halfB := s.rowClosed.iu.halfB } } := by
  cases hn : s.iu.tracker.complete with
  | true =>
    rw [State.rowClosed_still (.inr hn), Bool.true_or, ← hn]
  | false => cases hc : s.iu.tracker.current with
    | none =>
      have hmark : { s.iu.tracker with complete := false } = s.iu.tracker := by rw [← hn]
      rw [State.rowClosed_still (.inl hc), Option.isSome_none, Bool.or_false, hmark]
    | some c =>
      rw [State.rowClosed_open hc hn, State.rowWaiting_eq]
      rfl

/-- What R46 and R48 say of the halves as a row is closed. -/
theorem State.rowClosed_rowClosed : s.RowClosed s.rowClosed.iu := by
  refine ⟨fun h => by rw [State.rowClosed_still h]; exact ⟨rfl, rfl⟩, fun c hc hn => ?_⟩
  rw [State.rowClosed_open hc hn]
  exact IntakeUnit.mapHalf_halfChanged (u := { s.iu with tracker := s.iu.tracker.completed })

theorem State.RowClosed.sameHalves {w : IntakeUnit} (h : s.RowClosed w) : s.rowClosed.iu.SameHalves w := by
  cases hn : s.iu.tracker.complete with
  | true =>
    rw [State.rowClosed_still (.inr hn)]
    exact h.1 (.inr hn)
  | false => cases hc : s.iu.tracker.current with
    | none =>
      rw [State.rowClosed_still (.inl hc)]
      exact h.1 (.inl hc)
    | some c =>
      rw [State.rowClosed_open hc hn, State.rowWaiting_eq]
      exact (h.2 c hc hn).sameHalves

/-- The same state with another row tracker, pass state, Report Unit and pending word 0. -/
def State.retracked (t : RowTracker) (pass : PassState) (ru : ReportUnit) (q : Option PendingWord) (s : State) : State :=
  { s with ru := ru, iu := { s.iu with tracker := t, pass := pass, pairing := q } }

theorem State.HasReadyRow.retracked {v : SlotId} (h : s.HasReadyRow v)
    (hmono : ∀ n, s.iu.tracker.hasCompleted n = true → t.hasCompleted n = true) (pass : PassState) (ru : ReportUnit)
    (q : Option PendingWord) : (s.retracked t pass ru q).HasReadyRow v := by
  obtain ⟨hfree, hn, hv, hready⟩ := h
  obtain ⟨hin, hdone⟩ := State.rowReady_iff.mp hready
  exact ⟨hfree, hn, hv, State.rowReady_iff.mpr ⟨hin, hmono _ hdone⟩⟩

/-- What the Blemish Tracker begins before the tracker moves on it would begin after that: a row that is ready stays so, and its
half as it is (R56, R92). -/
theorem State.advance_retracked_advance (hp : s.iu.pass ≠ .draining)
    (hmono : ∀ n, s.iu.tracker.hasCompleted n = true → t.hasCompleted n = true) (pass : PassState) (ru : ReportUnit)
    (q : Option PendingWord) :
    (s.advance.retracked t pass ru q).advance = (s.retracked t pass ru q).advance := by
  by_cases h : ∃ v, s.HasReadyRow v
  · obtain ⟨v, hv⟩ := h
    rw [State.advance_of_ready hv, State.advance_of_ready (hv.retracked hmono pass ru q), State.advance_of_not_free]
    · rw [State.beginNext_eq, State.beginNext_eq, IntakeUnit.mapHalf_eq, IntakeUnit.mapHalf_eq]
      rfl
    · rintro ⟨hk, -⟩
      cases hk
  · rw [State.advance_of_none hp (not_exists.mp h)]

/-- A capture word has moved the tracker, short of what the Blemish Tracker does with it (R46, R48). -/
def State.captureMoved (row : Nat) (s : State) : State :=
  s.rowClosed.retracked (.fresh row) s.iu.pass (s.countSkips (s.iu.tracker.skips row)).ru s.iu.pairing

theorem State.completeIfOpen_capturing (hp : s.iu.pass = .capturing) (hr : s.iu.strip = some r)
    (h : ∀ c, s.iu.tracker.current = some c → c + 1 ≠ r.captureRows) :
    s.completeIfOpen = s.rowClosed ∨ s.completeIfOpen = s.rowClosed.advance := by
  cases hn : s.iu.tracker.complete with
  | true =>
    rw [State.completeIfOpen_complete hn, State.rowClosed_still (.inr hn)]
    exact .inl rfl
  | false => cases hc : s.iu.tracker.current with
    | none =>
      rw [State.completeIfOpen_none hc, State.rowClosed_still (.inl hc)]
      exact .inl rfl
    | some c =>
      rw [State.completeIfOpen_open hn, State.completeOpenRow_capturing hp hr hc, if_neg (h c hc),
        State.rowClosed_open hc hn]
      exact .inr rfl

theorem State.rowClosed_hasCompleted_lt (hb : s.iu.tracker.Below row) {n : Nat}
    (hn : s.rowClosed.iu.tracker.hasCompleted n = true) : n < row := by
  refine RowTracker.Below.lt_of_hasCompleted (t := s.rowClosed.iu.tracker) (fun c hc => hb c ?_) hn
  rw [State.rowClosed_eq] at hc
  exact hc

theorem State.moveTracker_capturing (hp : s.iu.pass = .capturing) (hr : s.iu.strip = some r)
    (hrow : row < r.captureRows) (hb : s.iu.tracker.Below row) : s.moveTracker row = (s.captureMoved row).advance := by
  have hlast : ∀ c, s.iu.tracker.current = some c → c + 1 ≠ r.captureRows := fun c hc => by
    have := hb c hc
    omega
  have hpass : s.rowClosed.iu.pass = .capturing := by rw [State.rowClosed_eq]; exact hp
  have hblocks : s.rowClosed.ru = s.ru ∧ s.rowClosed.cu = s.cu ∧ s.rowClosed.iu.pairing = s.iu.pairing := by
    rw [State.rowClosed_eq]; exact ⟨rfl, rfl, rfl⟩
  obtain ⟨hru, hcu, hpair⟩ := hblocks
  rw [State.moveTracker_below hb]
  rcases State.completeIfOpen_capturing hp hr hlast with hclosed | hclosed
  · rw [hclosed, State.skipRows_capturing hpass, State.openRow_countSkips hru hcu, State.captureMoved,
      State.retracked, hp, hpair.symm, hpass.symm]
  · have hadv := State.advance_retracked_advance (s := s.rowClosed) (t := .fresh row) (by rw [hpass]; nofun)
      (fun n hn => RowTracker.hasCompleted_fresh.mpr (State.rowClosed_hasCompleted_lt hb hn)) s.iu.pass
      (s.countSkips (s.iu.tracker.skips row)).ru s.iu.pairing
    have hframe := State.advance_eq (s := s.rowClosed) (by rw [hpass]; nofun)
    rw [State.captureMoved, ← hadv, hclosed, State.skipRows_capturing (by rw [hframe]; exact hpass),
      State.openRow_countSkips (s := s) (by rw [hframe]; exact hru) (by rw [hframe]; exact hcu), hframe,
      State.retracked, hp, hpair.symm, hpass.symm]

end Rows

end Sys2Proof.Machine

/-! # Survey words: storage, settling, moves and late words (R43 to R50). -/

namespace Sys2Proof.Machine

section Survey
variable {s : State} {a : Access} {r : StripRecord} {p : IntakePlace} {b : Beat} {row col : Nat}

/-- A pixel outside the open row settles without effect, whichever word arrives (R45). -/
theorem State.settleOwn_elsewhere (h : ¬s.iu.tracker.OpenAt p.row) (pending : Option PendingWord) :
    s.settleOwn p b pending = s := by
  rcases State.settleOwn_cases (s := s) (p := p) (b := b) pending with ⟨torn, g, i, hset⟩ | hset <;> rw [hset]
  exact State.settlePixel_elsewhere h

/-- Memory after a survey word is stored (R49). -/
def Memory.withSurveyWord (m : Memory) (r : StripRecord) (p : IntakePlace) (b : Beat) : Memory :=
  m.writeBeat (r.surveyBase + p.row * r.surveyPitch + p.col * 8 + p.word * 4) b

theorem State.takeSurveyWord_word0 (h : p.word = 0) :
    s.takeSurveyWord r p b = (s.followWord p b).storeSurvey r p b := State.settleOwn_word0 h _

theorem State.storeSurvey_eq : s.storeSurvey r p b = { s with mem := s.mem.withSurveyWord r p b } := rfl

/-! ## Where a word goes, and what it leaves of the List Writer -/

theorem State.takeSurveyWord_mem : (s.takeSurveyWord r p b).mem = s.mem.withSurveyWord r p b := by
  have hfollow : (s.followWord p b).mem = s.mem := by
    unfold State.followWord
    dsimp only
    split <;> simp
  rw [State.takeSurveyWord, State.settleOwn_mem, State.storeSurvey_eq, hfollow]

theorem State.takeSurveyWord_cu : (s.takeSurveyWord r p b).cu = s.cu := by
  have hfollow : (s.followWord p b).cu = s.cu := by
    unfold State.followWord
    dsimp only
    split <;> simp
  rw [State.takeSurveyWord, State.settleOwn_cu, State.storeSurvey_cu, hfollow]

/-- The List Writer of `t` is that of `s` but for the holding queue. -/
def State.KeepsWriter (s t : State) : Prop := t.lw = { s.lw with queue := t.lw.queue }

theorem State.keepsWriter_of_eq {t : State} (h : t.lw = s.lw) : s.KeepsWriter t := by
  rw [State.KeepsWriter, h]

theorem State.KeepsWriter.trans {t u : State} (hst : s.KeepsWriter t) (htu : t.KeepsWriter u) : s.KeepsWriter u := by
  unfold State.KeepsWriter at *
  rw [htu, hst]

theorem State.keepsWriter_advance (s : State) : s.KeepsWriter s.advance := by
  by_cases hfree : s.TrackerFree
  · rw [State.advance_of_trackerFree hfree]
    simp only [State.beginFrameEnd_eq]
    split <;> split_ifs <;> rfl
  · rw [State.advance_of_not_free hfree]
    rfl

theorem State.keepsWriter_endPassState (s : State) : s.KeepsWriter s.endPassState := by
  unfold State.endPassState
  split
  · exact State.keepsWriter_of_eq (by simp)
  · exact State.keepsWriter_advance { s with iu := { s.iu with pass := .draining, pairing := none } }
  all_goals rfl

theorem State.keepsWriter_completeOpenRow (s : State) : s.KeepsWriter s.completeOpenRow := by
  cases hrow : s.iu.tracker.current with
  | none => rw [State.completeOpenRow_none (.inl hrow)]; rfl
  | some row => cases hr : s.iu.strip with
    | none => rw [State.completeOpenRow_none (.inr hr)]; rfl
    | some r =>
      rw [State.completeOpenRow_eq hr hrow]
      have hwaiting := State.keepsWriter_advance (s.rowWaiting row)
      split_ifs
      · exact State.keepsWriter_endPassState (s.rowProfiled r)
      · rfl
      · exact hwaiting.trans (State.keepsWriter_endPassState _)
      · exact hwaiting
      · rfl

theorem State.keepsWriter_completeIfOpen (s : State) : s.KeepsWriter s.completeIfOpen := by
  unfold State.completeIfOpen
  split
  · rfl
  · exact s.keepsWriter_completeOpenRow

theorem State.keepsWriter_settlePixel (col : Nat) (torn : Bool) (g i : Nat) (s : State) :
    s.KeepsWriter (s.settlePixel row col torn g i) := by
  have hsettled : s.KeepsWriter (s.settled row col torn g i) := by
    rw [State.settled_eq]
    exact State.keepsWriter_of_eq (State.settleEffect_lw ..)
  by_cases ho : s.iu.tracker.OpenAt row
  · rw [State.settlePixel_of_open ho]
    split
    · exact hsettled.trans (State.keepsWriter_completeOpenRow _)
    · exact hsettled
  · rw [State.settlePixel_elsewhere ho]
    rfl

theorem State.keepsWriter_pairWord (p : IntakePlace) (b : Beat) (s : State) : s.KeepsWriter (s.pairWord p b) := by
  unfold State.pairWord
  split
  · split
    · rfl
    · exact State.keepsWriter_settlePixel ..
  · rfl

theorem State.keepsWriter_settleOwn (p : IntakePlace) (b : Beat) (pending : Option PendingWord) (s : State) :
    s.KeepsWriter (s.settleOwn p b pending) := by
  rcases State.settleOwn_cases (s := s) (p := p) (b := b) pending with ⟨torn, g, i, h⟩ | h <;> rw [h]
  · exact State.keepsWriter_settlePixel ..
  · rfl

theorem State.keepsWriter_moveTracker (row : Nat) (s : State) : s.KeepsWriter (s.moveTracker row) := by
  have hopen : ∀ m : State, m.KeepsWriter (m.openRow row) := fun m =>
    State.keepsWriter_advance { m with iu := { m.iu with tracker := .fresh row } }
  unfold State.moveTracker
  split
  · refine State.KeepsWriter.trans (State.keepsWriter_of_eq ?_) (hopen _)
    split <;> simp
  · split
    · rfl
    · split
      · exact s.keepsWriter_completeIfOpen.trans (hopen _)
      · refine s.keepsWriter_completeIfOpen.trans (State.KeepsWriter.trans (State.keepsWriter_of_eq ?_) (hopen _))
        simp

theorem State.keepsWriter_takeSurveyWord (s : State) : s.KeepsWriter (s.takeSurveyWord r p b) := by
  have hfollow : s.KeepsWriter (s.followWord p b) := by
    refine (State.keepsWriter_pairWord p b s).trans ?_
    unfold State.followWord
    dsimp only
    split
    · exact State.keepsWriter_of_eq (State.countLate_lw _)
    · exact State.keepsWriter_moveTracker ..
  have hstored : s.KeepsWriter ((s.followWord p b).storeSurvey r p b) := hfollow
  exact hstored.trans (State.keepsWriter_settleOwn ..)

end Survey

/-- Settles O25: the word's place is that of its offset, and nothing but its storage writes memory. -/
theorem surveyWordStored : Obligations.SurveyWordStored := by
  intro s a w r o ha hw hwrite hadd ho hpass hr hpos hpitch hrow hcol
  have hplace : (IntakeFrame.mk r.surveyPitch r.surveyWidth r.surveyRows).place (intakeOffset w.address)
      = ⟨o / r.surveyPitch, o % r.surveyPitch / 8, o % 8 / 4⟩ := by
    rw [intakeOffset_of_eq hadd ho]
    rfl
  have heffect := State.intakeWriteEffect_declared ha hr (w := w)
    (f := ⟨r.surveyPitch, r.surveyWidth, r.surveyRows⟩) (by rw [hpass, hr]; rfl) hplace hrow hcol
  rw [hpass, State.intakeWord_surveying] at heffect
  have hoff : r.surveyBase + o / r.surveyPitch * r.surveyPitch + o % r.surveyPitch / 8 * 8 + o % 8 / 4 * 4
      = r.surveyBase + o := by
    have haligned : w.address % 4 = 0 := by
      rw [State.wordInService_eq ha hw]
      exact wordAddress_mod_four _
    have hdiv := Nat.div_add_mod' o r.surveyPitch
    have hmod : o % r.surveyPitch % 8 = o % 8 := Nat.mod_mod_of_dvd o (Nat.dvd_of_mod_eq_zero hpitch)
    omega
  refine ⟨_, serve_next hw (by simp [zone_of_intake hw hadd ho, hwrite]), ?_, ?_, ?_⟩
  · rw [heffect]
    exact State.takeSurveyWord_cu
  · rw [heffect]
    exact State.keepsWriter_takeSurveyWord s
  · rw [heffect, ← hoff]
    have hmem := State.takeSurveyWord_mem (s := s) (r := r) (b := r.ordered w.beat)
      (p := ⟨o / r.surveyPitch, o % r.surveyPitch / 8, o % 8 / 4⟩)
    rw [State.settleRequests_mem, State.wordWritten_mem, hmem]
    exact Memory.holdsBeat_writeBeat

end Sys2Proof.Machine

/-! # What a survey word does (R44 to R48, R50). -/

namespace Sys2Proof.Machine

section SurveyEffect
variable {s : State} {a : Access} {r : StripRecord} {p : IntakePlace} {b : Beat} {row col : Nat}

/-- Word 0 of the open row becomes the pending word (R44). -/
theorem State.takeSurveyWord_open (hk : p.word = 0) (hown : ∀ q, s.iu.pairing = some q → q.Own p)
    (ho : s.iu.tracker.OpenAt p.row) : s.takeSurveyWord r p b = { s with
      mem := s.mem.withSurveyWord r p b
      iu := { s.iu with pairing := some ⟨p.row, p.col, b.isFull, b.data⟩ } } := by
  rw [State.takeSurveyWord_word0 hk, State.followWord_open hown ho, IntakePlace.pending, if_pos hk]
  rfl

/-- A late word is stored, and counted once for its access (R47, R49). -/
theorem State.takeSurveyWord_late (hown : ∀ q, s.iu.pairing = some q → q.Own p) (hl : s.iu.tracker.Late p.row)
    (ha : s.upstream = some a) : s.takeSurveyWord r p b = { s with
      mem := s.mem.withSurveyWord r p b
      ru := (if a.lateCounted then s else s.count lateWrite).ru
      upstream := some { a with lateCounted := true }
      iu := { s.iu with pairing := p.pending b } } := by
  have hru : (if a.lateCounted then s.withPairing (p.pending b) else (s.withPairing (p.pending b)).count lateWrite).ru
      = (if a.lateCounted then s else s.count lateWrite).ru := by
    split
    · rfl
    · exact State.count_ru_congr lateWrite rfl rfl
  rw [State.takeSurveyWord, State.followWord_late hown hl, State.countLate_eq (s := s.withPairing (p.pending b)) ha, hru]
  refine State.settleOwn_elsewhere ?_ _
  exact hl.not_openAt

/-- A survey pixel settles with its word 1, which is stored (R45, R49). -/
def State.surveySettled (r : StripRecord) (p : IntakePlace) (b : Beat) (torn : Bool) (g i : Nat) (s : State) : State :=
  { s with
    mem := s.mem.withSurveyWord r p b
    ru := (if torn then s.count tornPixel else s).ru
    iu := { s.iu with
      pairing := none
      tracker := { s.iu.tracker with
        settled := s.iu.tracker.settled + 1, gSum := s.iu.tracker.gSum + g, iSum := s.iu.tracker.iSum + i } } }

/-- A survey word is stored, and nothing is pending (R44, R49). -/
def State.surveyHeld (r : StripRecord) (p : IntakePlace) (b : Beat) (s : State) : State :=
  { s with mem := s.mem.withSurveyWord r p b, iu := { s.iu with pairing := none } }

/-- The samples that a word 1 adds to the sums: those of an untorn pixel in the film window (R45, R50). -/
structure State.SurveySamples (s : State) (r : StripRecord) (p : IntakePlace) (b : Beat) (torn : Bool) (g i : Nat) :
    Prop where
  torn_iff : torn = false ↔ b.isFull = true ∧ ∃ q, s.iu.pairing = some ⟨p.row, p.col, true, q⟩
  green : ∀ q, s.iu.pairing = some ⟨p.row, p.col, true, q⟩ →
    g = if torn = false ∧ r.filmHas p.col = true then q.toNat / 65536 else 0
  none_torn : torn = true → g = 0
  infra : i = if torn = false ∧ r.filmHas p.col = true then b.data.toNat / 65536 else 0

/-- As the word 1 of a pixel of the open row is stored, the samples of its pair settle (R44, R45). -/
theorem State.surveyHeld_settles {torn : Bool} {g i : Nat} (hp : s.iu.pass = .surveying) (hr : s.iu.strip = some r)
    (hk : p.word = 1) (hx : s.SurveySamples r p b torn g i) : ∃ g' i',
      (s.surveyHeld r p b).settleOwn p b s.iu.pairing = (s.surveyHeld r p b).settlePixel p.row p.col torn g' i'
        ∧ (s.surveyHeld r p b).settled p.row p.col torn g' i' = s.surveySettled r p b torn g i := by
  obtain ⟨htorn, hg, hg0, hi⟩ := hx
  have hsettled : ∀ g' i' : Nat, (s.surveyHeld r p b).settled p.row p.col torn g' i'
      = s.surveySettled r p b torn (if torn = false ∧ r.filmHas p.col = true then g' else 0)
          (if torn = false ∧ r.filmHas p.col = true then i' else 0) := by
    intro g' i'
    rw [State.settled_surveying (s := s.surveyHeld r p b) hp hr]
    cases torn with
    | false => rfl
    | true =>
      refine State.eq_of_blocks rfl rfl rfl rfl rfl rfl rfl rfl ?_ rfl rfl rfl
      exact State.count_ru_congr tornPixel rfl rfl
  cases torn with
  | false =>
    obtain ⟨hb, q, hq⟩ := htorn.mp rfl
    refine ⟨q.toNat / 65536, b.data.toNat / 65536, ?_, ?_⟩
    · rw [hq, State.settleOwn_untorn hk hb]
    · rw [hsettled, hg q hq, hi]
  | true =>
    refine ⟨0, 0, State.settleOwn_torn hk fun h => Bool.noConfusion (htorn.mpr h), ?_⟩
    rw [hsettled, hg0 rfl, hi]
    simp

/-- A word 1 of the open row is stored and its pixel settles, which may complete the row (R44, R45, R48). -/
theorem State.takeSurveyWord_settles {torn : Bool} {g i : Nat} (hp : s.iu.pass = .surveying) (hr : s.iu.strip = some r)
    (hk : p.word = 1) (hown : ∀ q, s.iu.pairing = some q → q.Own p) (ho : s.iu.tracker.OpenAt p.row)
    (hx : s.SurveySamples r p b torn g i) : s.takeSurveyWord r p b =
      if s.iu.tracker.settled + 1 = r.surveyWidth then (s.surveySettled r p b torn g i).completeOpenRow
      else s.surveySettled r p b torn g i := by
  have hword : s.takeSurveyWord r p b = (s.surveyHeld r p b).settleOwn p b s.iu.pairing := by
    rw [State.takeSurveyWord, State.followWord_open hown ho, IntakePlace.pending, if_neg (by rw [hk]; decide)]
    rfl
  have hframe : intakeFrame (s.surveyHeld r p b).iu.pass (s.surveyHeld r p b).iu.strip
      = some ⟨r.surveyPitch, r.surveyWidth, r.surveyRows⟩ := by
    show intakeFrame s.iu.pass s.iu.strip = _
    rw [hp, hr]
    rfl
  have ho' : (s.surveyHeld r p b).iu.tracker.OpenAt p.row := ho
  obtain ⟨g', i', hpixel, hset⟩ := State.surveyHeld_settles hp hr hk hx
  rw [hword, hpixel, ← hset]
  split
  · rename_i hfill
    exact State.settlePixel_fills ho' hframe hfill
  · rename_i hfill
    refine State.settlePixel_open ho' fun f hf => ?_
    obtain rfl := Option.some.inj (hframe.symm.trans hf)
    exact hfill

/-- The tracker after that, field by field. -/
theorem RowTracker.OpenAt.settled_eq {t : RowTracker} (h : t.OpenAt row) (n g i : Nat) :
    ({ t with settled := n, gSum := g, iSum := i } : RowTracker) = ⟨some row, n, false, t.begun, g, i⟩ := by
  obtain ⟨hc, hn⟩ := h
  rw [← hc, ← hn]

theorem RowTracker.OpenAt.completed_eq {t : RowTracker} (h : t.OpenAt row) (n g i : Nat) :
    RowTracker.completed { t with settled := n, gSum := g, iSum := i } = ⟨some row, n, true, t.begun, g, i⟩ := by
  rw [h.settled_eq]
  rfl

/-- A row completed in SURVEYING leaves the Report Unit as it is. -/
theorem State.completeOpenRow_surveying_ru (hp : s.iu.pass = .surveying) : s.completeOpenRow.ru = s.ru := by
  cases hrow : s.iu.tracker.current with
  | none => rw [State.completeOpenRow_none (.inl hrow)]
  | some row => cases hr : s.iu.strip with
    | none => rw [State.completeOpenRow_none (.inr hr)]
    | some r =>
      rw [State.completeOpenRow_surveying hp hr hrow]
      split
      · have hp' : (s.rowProfiled r).iu.pass = .surveying := hp
        simp only [State.endPassState, hp', State.beginLocate_ru]
        rfl
      · rfl

/-! ## A move of the tracker -/

theorem State.surveyMoved_withPairing (q : Option PendingWord) :
    (s.withPairing q).surveyMoved r row = (s.surveyMoved r row).withPairing q :=
  State.eq_of_blocks rfl rfl rfl rfl rfl rfl rfl rfl (State.countSkips_ru rfl rfl) rfl rfl rfl

theorem State.moveTracker_withPairing (hp : s.iu.pass = .surveying) (hr : s.iu.strip = some r)
    (hrow : row < r.surveyRows) (hb : s.iu.tracker.Below row) (q : Option PendingWord) :
    (s.withPairing q).moveTracker row = (s.surveyMoved r row).advance.withPairing q := by
  rw [State.moveTracker_surveying (s := s.withPairing q) hp hr hrow hb, State.surveyMoved_withPairing,
    State.advance_withPairing]

/-- A word 0 that moves the tracker is pending in its row (R44, R46). -/
theorem State.takeSurveyWord_moves0 (hp : s.iu.pass = .surveying) (hr : s.iu.strip = some r)
    (hrow : p.row < r.surveyRows) (hk : p.word = 0) (hown : ∀ q, s.iu.pairing = some q → q.Own p)
    (hb : s.iu.tracker.Below p.row) : s.takeSurveyWord r p b =
      State.storeSurvey r p b ((s.surveyMoved r p.row).advance.withPairing
        (some ⟨p.row, p.col, b.isFull, b.data⟩)) := by
  rw [State.takeSurveyWord_word0 hk, State.followWord_moves hown hb,
    State.moveTracker_withPairing hp hr hrow hb, IntakePlace.pending, if_pos hk]

/-- A word of a higher row has the effect it has in that row, once it is current (R46). -/
theorem State.takeSurveyWord_moved (hp : s.iu.pass = .surveying) (hr : s.iu.strip = some r)
    (hrow : p.row < r.surveyRows) (hown : ∀ q, s.iu.pairing = some q → q.Own p) (hb : s.iu.tracker.Below p.row) :
    s.takeSurveyWord r p b = (s.surveyMoved r p.row).advance.takeSurveyWord r p b := by
  have hframe := State.advance_eq (s := s.surveyMoved r p.row) (by rw [State.surveyMoved, hp]; nofun)
  have hpair : (s.surveyMoved r p.row).advance.iu.pairing = s.iu.pairing := by rw [hframe]; rfl
  have ho : (s.surveyMoved r p.row).advance.iu.tracker.OpenAt p.row := by rw [hframe]; exact RowTracker.openAt_fresh
  rw [State.takeSurveyWord, State.takeSurveyWord, State.followWord_open (hpair ▸ hown) ho, hpair,
    State.followWord_moves hown hb, State.moveTracker_withPairing hp hr hrow hb]

end SurveyEffect

theorem State.written_settles {x y : State} {a : Access} (hx : x = y) (hu : y.upstream = some a) :
    State.Settles { y with upstream := some (a.wroteWord []) } (x.wordWritten []).settleRequests :=
  State.settles_of_eq (hx ▸ State.wordWritten_some hu [])

section SurveyClauses
variable {s : State} {a : Access} {r : StripRecord} {b : Beat} {row col k : Nat}

theorem State.SurveyWord.upstream (h : s.SurveyWord a r row col k b) : s.upstream = some a := by
  obtain ⟨w, ha, -⟩ := h
  exact ha

theorem State.SurveyWord.row_lt (h : s.SurveyWord a r row col k b) : row < r.surveyRows := by
  obtain ⟨w, -, -, -, -, -, -, -, hrow, -⟩ := h
  exact hrow

theorem State.SurveyWord.frame (hp : s.iu.pass = .surveying) (hr : s.iu.strip = some r) :
    intakeFrame s.iu.pass s.iu.strip = some ⟨r.surveyPitch, r.surveyWidth, r.surveyRows⟩ := by
  rw [hp, hr]
  rfl

/-- A pending word 0 settled torn leaves all but the counts, the row tracker and the halves. -/
theorem State.SettledTorn.keeps {q : PendingWord} {u : State} (h : s.SettledTorn q u) :
    u.upstream = s.upstream ∧ u.cu = s.cu ∧ u.mc = s.mc ∧ u.fl = s.fl ∧ u.iu.pass = s.iu.pass
      ∧ u.iu.strip = s.iu.strip := by
  by_cases ho : s.iu.tracker.OpenAt q.row
  · rw [(h.2 ho.1 ho.2).1]
    exact ⟨rfl, rfl, rfl, rfl, rfl, rfl⟩
  · rw [h.eq_elsewhere ho]
    exact ⟨rfl, rfl, rfl, rfl, rfl, rfl⟩

/-- The row that a pending word 0 settled torn fills completes with the sums it had (R48, R50). -/
theorem State.SettledTorn.rowProfiled_eq {q : PendingWord} {u : State} (h : s.SettledTorn q u)
    (ho : s.iu.tracker.OpenAt q.row) : u.rowProfiled r = { u with
      iu := { u.iu with tracker := { u.iu.tracker with complete := true } }
      fl := { s.fl with
        profile := s.fl.profile ++ [⟨r.surveyMean s.iu.tracker.gSum, r.surveyMean s.iu.tracker.iSum⟩] } } := by
  rw [(h.2 ho.1 ho.2).1]
  rfl

theorem State.settled_torn_surveying (hp : s.iu.pass = .surveying) (hr : s.iu.strip = some r) :
    s.settled row col true 0 0 = { s with
      ru := (s.count tornPixel).ru
      iu := { s.iu with tracker := { s.iu.tracker with settled := s.iu.tracker.settled + 1 } } } :=
  State.settled_surveying hp hr

/-- What the statement says of a move of the tracker is the model's skip count and closing entry (R46, R48). -/
theorem State.moved_eq {made : List ProfileEntry} {skipped : Nat}
    (hnone : s.iu.tracker.current = none → made = [] ∧ skipped = row)
    (hsome : ∀ c, s.iu.tracker.current = some c → c < row ∧ skipped = row - c - 1
      ∧ made = if s.iu.tracker.complete then []
          else [⟨r.surveyMean s.iu.tracker.gSum, r.surveyMean s.iu.tracker.iSum⟩]) :
    s.iu.tracker.Below row ∧ skipped = s.iu.tracker.skips row ∧ made = s.closingEntry r := by
  unfold State.closingEntry RowTracker.skips
  cases hc : s.iu.tracker.current with
  | none =>
    obtain ⟨rfl, rfl⟩ := hnone hc
    exact ⟨fun c h => (by rw [hc] at h; cases h), rfl, by simp⟩
  | some c =>
    obtain ⟨hlt, rfl, rfl⟩ := hsome c hc
    exact ⟨fun c' h => Option.some.inj (hc.symm.trans h) ▸ hlt, rfl, rfl⟩

end SurveyClauses

/-- Settles O26: the place of the word decides, in the open row, above it or late, after a left-over word 0 has settled. -/
theorem surveyPixelSettles : Obligations.SurveyPixelSettles := by
  intro s a r row col k b h hp hr
  have ha := h.upstream
  have hrow := h.row_lt
  refine ⟨_, h.exec_next rfl rfl rfl, ?_, ?_, ?_, ?_, ?_, ?_, ?_⟩
  · rintro rfl hq hc hn
    rw [State.takeSurveyWord_open rfl (by rw [hq]; exact nofun) ⟨hc, hn⟩]
    exact State.written_settles rfl ha
  · rintro torn g i e after rfl hc hn hown htorn hg hg0 hi rfl rfl
    have ho : s.iu.tracker.OpenAt row := ⟨hc, hn⟩
    have hown' : ∀ q, s.iu.pairing = some q → q.Own ⟨row, col, 1⟩ := fun q hq => ⟨rfl, hown q hq⟩
    rw [State.takeSurveyWord_settles hp hr rfl hown' ho ⟨htorn, hg, hg0, hi⟩]
    refine ⟨?_, fun hfill => ?_, fun hfill hlast => ?_, fun p hfill hlast hl => ?_⟩
    · rw [State.settleRequests_ru, State.wordWritten_ru]
      split
      · exact State.completeOpenRow_surveying_ru hp
      · rfl
    · rw [if_neg hfill, decide_eq_false hfill, ← ho.settled_eq]
      exact State.written_settles rfl ha
    · rw [if_pos hfill, decide_eq_true hfill, ← ho.completed_eq,
        State.completeOpenRow_surveying (s := s.surveySettled r _ b torn g i) hp hr hc, if_neg hlast]
      exact State.written_settles rfl ha
    · rw [if_pos hfill, decide_eq_true hfill, ← ho.completed_eq,
        State.completeOpenRow_surveying (s := s.surveySettled r _ b torn g i) hp hr hc, if_pos hlast,
        State.endPassState_surveying (s := (s.surveySettled r _ b torn g i).rowProfiled r) hp hr hl]
      exact State.written_settles rfl ha
  · rintro q rfl hc hn hq rfl hfill
    have hopen : s.settlePixel q.row q.col true 0 0 = s.settled q.row q.col true 0 0 :=
      State.settlePixel_open ⟨hc, hn⟩ fun f hf => by
        obtain rfl := Option.some.inj ((State.SurveyWord.frame hp hr).symm.trans hf)
        exact hfill
    have htorn := State.settled_torn_surveying (row := q.row) (col := q.col) hp hr
    have ho : ((s.settled q.row q.col true 0 0).withPairing none).iu.tracker.OpenAt q.row := by
      rw [htorn]
      exact ⟨hc, hn⟩
    rw [State.takeSurveyWord_settledFirst hq (by rintro ⟨⟨⟩, -⟩), hopen,
      State.takeSurveyWord_open (p := ⟨q.row, col, 0⟩) rfl (by rintro _ ⟨⟩) ho, htorn]
    exact State.written_settles rfl ha
  · rintro q u v e hq hown hu rfl rfl
    obtain ⟨hup, hcu, hmc, hfl, hpass, hstrip⟩ := hu.keeps
    have hframe := State.SurveyWord.frame hp hr
    have hexec : ∀ m : State, (s.settlePixel q.row q.col true 0 0).withPairing none = m → m.upstream = u.upstream →
        m.cu = u.cu → m.mc = u.mc → exec .intakeWrite s = exec .intakeWrite m := by
      rintro m rfl hmu hmcu hmmc
      rw [h.exec_next rfl rfl rfl, h.exec_next (hmu.trans hup) (hmcu.trans hcu) (hmmc.trans hmc),
        State.takeSurveyWord_settledFirst (p := ⟨row, col, k⟩) hq hown]
    refine ⟨fun hn => hexec u (hu.settlePixel_eq (hn.imp_right fun hne f hf => ?_)) rfl rfl rfl,
      fun hc hn hfill hlast => ?_, fun p w hc hn hfill hlast hl hw => ?_⟩
    · obtain rfl := Option.some.inj (hframe.symm.trans hf)
      exact hne
    · have hcurrent : u.iu.tracker.current = some q.row := by rw [(hu.2 hc hn).1]; exact hc
      refine hexec _ ?_ rfl rfl rfl
      rw [hu.settlePixel_fills ⟨hc, hn⟩ hframe hfill,
        State.completeOpenRow_surveying (hpass.trans hp) (hstrip.trans hr) hcurrent, if_neg hlast,
        hu.rowProfiled_eq ⟨hc, hn⟩]
    · have hcurrent : u.iu.tracker.current = some q.row := by rw [(hu.2 hc hn).1]; exact hc
      subst hw
      refine hexec _ ?_ rfl rfl rfl
      rw [hu.settlePixel_fills ⟨hc, hn⟩ hframe hfill,
        State.completeOpenRow_surveying (hpass.trans hp) (hstrip.trans hr) hcurrent, if_pos hlast,
        State.endPassState_surveying (s := u.rowProfiled r) (hpass.trans hp) (hstrip.trans hr)
          ((congrArg FrameLocator.params hfl).trans hl), hu.rowProfiled_eq ⟨hc, hn⟩,
        (hu.2 hc hn).1]
  · rintro made skipped rfl hq hnone hsome
    obtain ⟨hb, rfl, rfl⟩ := State.moved_eq hnone hsome
    have hframe := State.advance_eq (s := s.surveyMoved r row) (by rw [State.surveyMoved, hp]; nofun)
    rw [State.takeSurveyWord_moves0 hp hr hrow rfl (by rw [hq]; exact nofun) hb]
    refine ⟨?_, fun hidle => ?_⟩
    · rw [hframe]
      exact State.written_settles rfl ha
    · rw [State.advance_of_noActiveSlot (s := s.surveyMoved r row) (by rw [State.surveyMoved, hp]; nofun)
        (activeSlot_eq_none hidle)]
      exact ⟨rfl, rfl, rfl⟩
  · rintro made skipped rfl hown hnone hsome
    obtain ⟨hb, rfl, rfl⟩ := State.moved_eq hnone hsome
    have hframe := State.advance_eq (s := s.surveyMoved r row) (by rw [State.surveyMoved, hp]; nofun)
    refine ⟨(s.surveyMoved r row).advance, hframe, fun hidle => ?_, ?_⟩
    · rw [State.advance_of_noActiveSlot (s := s.surveyMoved r row) (by rw [State.surveyMoved, hp]; nofun)
        (activeSlot_eq_none hidle)]
      exact ⟨rfl, rfl, rfl⟩
    · rw [h.exec_next rfl rfl rfl, h.exec_next (by rw [hframe]; rfl) (by rw [hframe]; rfl) (by rw [hframe]; rfl),
        State.takeSurveyWord_moved (p := ⟨row, col, 1⟩) hp hr hrow hown hb]
  · intro c hown hc hl
    rw [State.takeSurveyWord_late (p := ⟨row, col, k⟩) hown ⟨c, hc, hl⟩ ha]
    exact State.written_settles rfl rfl

end Sys2Proof.Machine

/-! # The commands of the passes (R41, R42, R48, R54, R58, R79). -/

namespace Sys2Proof.Machine

/-! ## The beginning of a pass and RELOCATE -/

section Begin
variable {s : State}

theorem State.hasPlanned_of (h : ∃ v, (s.fl.slots.get v).state = .planned) : s.hasPlanned = true := by
  obtain ⟨v, hv⟩ := h
  rw [State.hasPlanned, findSlot, List.find?_isSome]
  exact ⟨v, mem_allSlots v, decide_eq_true hv⟩

theorem State.reason_beginCapture (hp : s.iu.pass ∈ [.stripOpen, .planned])
    (h : ∃ v, (s.fl.slots.get v).state = .planned) : (s.checksOf .beginCapture).reason = none := by
  simp [State.checksOf, passReason_of_mem hp, State.hasPlanned_of h]

/-- The fields of RELOCATE in record order (R37, R79). -/
theorem relocateChecks_firstBad {m : Memory} {p : LocateParams} (hp : p = relocateParams m) :
    firstBad (relocateChecks m) =
      if 1 ≤ p.minGap ∧ p.minGap ≤ 64 then
        if 8 ≤ p.frameLength ∧ p.frameLength ≤ 2048 then if p.nominalGap ≤ 256 then none else some 6 else some 4
      else some 2 := by
  subst hp
  simp only [relocateChecks, firstBad, within_iff, Nat.zero_le, true_and]
  rfl

theorem State.relocateEffect_eq {r : StripRecord} {p : LocateParams} (hr : s.iu.strip = some r)
    (hp : p = relocateParams s.cu.shadow) : s.relocateEffect = { s with
      iu := { s.iu with pass := .locating }
      fl := { s.fl with params := some p, locating := some ⟨s.fl.profile, p, r, s.cu.effIrFloor⟩ } } := by
  subst hp
  simp only [State.relocateEffect, State.beginLocate, hr]

end Begin

/-! ## What ending a pass leaves -/

section EndPass
variable {s u v : State} {r : StripRecord} {row : Nat} {q : PendingWord}

theorem State.advance_tracker (s : State) : s.advance.iu.tracker = s.iu.tracker := by
  by_cases hfree : s.TrackerFree
  · rw [State.advance_of_trackerFree hfree]
    split <;> split_ifs <;> simp [State.beginNext_eq, IntakeUnit.mapHalf_eq]
  · rw [State.advance_of_not_free hfree]

theorem State.endPassState_tracker (s : State) : s.endPassState.iu.tracker = s.iu.tracker := by
  unfold State.endPassState
  split
  · unfold State.beginLocate
    dsimp only
    split <;> rfl
  · exact State.advance_tracker _
  all_goals rfl

/-- The row that completes is marked so. -/
theorem State.completeOpenRow_tracker (hr : s.iu.strip = some r) (hrow : s.iu.tracker.current = some row) :
    s.completeOpenRow.iu.tracker = s.iu.tracker.completed := by
  have hwaiting : (s.rowWaiting row).advance.iu.tracker = s.iu.tracker.completed := by
    rw [State.advance_tracker, State.rowWaiting_eq]
  rw [State.completeOpenRow_eq hr hrow]
  split_ifs
  · exact State.endPassState_tracker _
  · rfl
  · rw [State.endPassState_tracker, hwaiting]
  · exact hwaiting
  · rfl

theorem State.completeIfOpen_withoutPairing :
    (s.withPairing none).completeIfOpen = s.completeIfOpen.withPairing none := by
  cases hn : s.iu.tracker.complete with
  | true =>
    rw [State.completeIfOpen_complete hn]
    exact State.completeIfOpen_complete (s := s.withPairing none) hn
  | false =>
    rw [State.completeIfOpen_open hn, ← State.completeOpenRow_withoutPairing]
    exact State.completeIfOpen_open (s := s.withPairing none) hn

/-- With nothing pending END_PASS completes the open row and ends the pass (R58). -/
theorem State.endPassEffect_none (hq : s.iu.pairing = none) :
    s.endPassEffect = s.completeIfOpen.endPassState.withPairing none := by
  unfold State.endPassEffect
  rw [hq]
  dsimp only
  cases hc : s.iu.tracker.current with
  | none =>
    rw [State.completeIfOpen_none hc]
    rfl
  | some c => rfl

/-- Else the pending word 0 settles torn before that (R44, R45, R58). -/
theorem State.endPassEffect_some (hq : s.iu.pairing = some q) :
    s.endPassEffect = ((s.settlePixel q.row q.col true 0 0).withPairing none).endPassEffect := by
  rw [State.endPassEffect_none (s := State.withPairing none _) rfl, State.completeIfOpen_withoutPairing,
    State.endPassState_withoutPairing]
  unfold State.endPassEffect
  rw [hq]
  dsimp only
  cases hc : (s.settlePixel q.row q.col true 0 0).iu.tracker.current with
  | none =>
    rw [State.completeIfOpen_none hc]
    rfl
  | some c => rfl

/-- A row that its last pixel has completed is not completed again as the pass ends. -/
theorem State.endPassEffect_completeOpenRow (hq : s.iu.pairing = none) (hr : s.iu.strip = some r)
    (ho : s.iu.tracker.OpenAt row) : s.completeOpenRow.endPassEffect = s.endPassEffect := by
  obtain ⟨hrow, hn⟩ := ho
  have hpair : s.completeOpenRow.withPairing none = s.completeOpenRow := by
    rw [← State.completeOpenRow_withoutPairing, State.withPairing, ← hq]
  have hdone : s.completeOpenRow.iu.tracker.complete = true := by
    rw [State.completeOpenRow_tracker hr hrow]
    rfl
  rw [State.endPassEffect_none hq, State.completeIfOpen_open hn, State.endPassEffect_none,
    State.completeIfOpen_complete hdone]
  rw [← hpair]
  rfl

/-- END_PASS is as END_PASS with the pending word 0 settled torn (R44, R45, R58). -/
theorem State.SettledTorn.endPassEffect_eq (h : s.SettledTorn q u) (hq : s.iu.pairing = some q) :
    s.endPassEffect = u.endPassEffect := by
  rw [State.endPassEffect_some hq]
  by_cases hfill : s.iu.tracker.OpenAt q.row
      ∧ ∃ f, intakeFrame s.iu.pass s.iu.strip = some f ∧ s.iu.tracker.settled + 1 = f.width
  · obtain ⟨ho, f, hf, hw⟩ := hfill
    obtain ⟨-, -, -, -, -, hstrip⟩ := h.keeps
    have hopen : u.iu.tracker.OpenAt q.row ∧ u.iu.pairing = none := by
      rw [(h.2 ho.1 ho.2).1]
      exact ⟨ho, rfl⟩
    cases hr : s.iu.strip with
    | none =>
      rw [hr] at hf
      cases hp : s.iu.pass <;> rw [hp] at hf <;> cases hf
    | some r =>
      rw [h.settlePixel_fills ho hf hw]
      exact State.endPassEffect_completeOpenRow hopen.2 (hstrip.trans hr) hopen.1
  · rw [h.settlePixel_eq]
    by_cases ho : s.iu.tracker.OpenAt q.row
    · exact .inr fun f hf hw => hfill ⟨ho, f, hf, hw⟩
    · exact .inl ho

/-! ## The end of a survey pass -/

/-- The last row of a survey pass completes once, and the pass ends once (R48, R58). -/
theorem State.completeOpenRow_endPassState_surveying {p : LocateParams} (hp : s.iu.pass = .surveying)
    (hr : s.iu.strip = some r) (hl : s.fl.params = some p) (hrow : s.iu.tracker.current = some row) :
    s.completeOpenRow.endPassState = (s.rowProfiled r).endPassState := by
  rw [State.completeOpenRow_surveying hp hr hrow]
  split
  · rw [State.endPassState_surveying (s := s.rowProfiled r) hp hr hl, State.endPassState_idle (by rintro ⟨⟩) (by rintro ⟨⟩)]
  · rfl

/-! ## The end of a capture pass -/

/-- In DRAINING the Blemish Tracker leaves the pass state or makes it PLANNED (R54). -/
theorem State.advance_pass_of_draining (hp : s.iu.pass = .draining) :
    s.advance.iu.pass = .draining ∨ s.advance.iu.pass = .planned := by
  by_cases hfree : s.TrackerFree
  · rw [State.advance_of_trackerFree hfree]
    split <;> split_ifs <;> simp [State.beginNext_eq, IntakeUnit.mapHalf_eq, hp]
  · rw [State.advance_of_not_free hfree]
    exact .inl hp

/-- The end of a capture pass is no other pass, so that it ends once. -/
theorem State.endPassState_again (hp : s.iu.pass = .capturing) : s.endPassState.endPassState = s.endPassState := by
  have hpass : s.endPassState.iu.pass = .draining ∨ s.endPassState.iu.pass = .planned := by
    rw [State.endPassState_capturing hp]
    exact State.advance_pass_of_draining rfl
  refine State.endPassState_idle ?_ ?_ <;> rcases hpass with h | h <;> rw [h] <;> nofun

/-- What the Blemish Tracker begins as a row completes it would begin in DRAINING (R54, R92). -/
theorem State.advance_endPassState (hp : s.iu.pass = .capturing) :
    s.advance.endPassState = (s.retracked s.iu.tracker .draining s.ru none).advance := by
  have hframe := State.advance_eq (s := s) (by rw [hp]; nofun)
  rw [State.endPassState_capturing (by rw [hframe]; exact hp),
    ← State.advance_retracked_advance (by rw [hp]; nofun) (fun _ h => h)]
  refine congrArg State.advance ?_
  rw [hframe]
  rfl

/-- The state of a capture pass that ends, before the Blemish Tracker goes on: the open row closed, in DRAINING (R54, R58). -/
def State.passDrained (s : State) : State :=
  s.rowClosed.retracked s.rowClosed.iu.tracker .draining s.rowClosed.ru none

/-- As a capture pass ends the Blemish Tracker begins what it would begin in DRAINING (R54, R92). -/
theorem State.endPassEffect_capturing (hp : s.iu.pass = .capturing)
    (hstrip : ∀ c, s.iu.tracker.current = some c → s.iu.tracker.complete = false → s.iu.strip ≠ none) :
    s.completeIfOpen.endPassState = s.passDrained.advance := by
  have hstill : ∀ _ : s.iu.tracker.current = none ∨ s.iu.tracker.complete = true,
      s.completeIfOpen = s → s.completeIfOpen.endPassState = s.passDrained.advance := by
    intro h hsame
    rw [hsame, State.endPassState_capturing hp, State.passDrained, State.rowClosed_still h]
    rfl
  cases hn : s.iu.tracker.complete with
  | true => exact hstill (.inr hn) (State.completeIfOpen_complete hn)
  | false => cases hc : s.iu.tracker.current with
    | none => exact hstill (.inl hc) (State.completeIfOpen_none hc)
    | some c => cases hr : s.iu.strip with
      | none => exact absurd hr (hstrip c hc hn)
      | some r =>
        have hpass : (s.rowWaiting c).iu.pass = .capturing := by rw [State.rowWaiting_eq]; exact hp
        have honce : s.completeIfOpen.endPassState = (s.rowWaiting c).advance.endPassState := by
          rw [State.completeIfOpen_open hn, State.completeOpenRow_capturing hp hr hc]
          split
          · refine State.endPassState_again ?_
            rw [State.advance_eq (by rw [hpass]; nofun)]
            exact hpass
          · rfl
        rw [honce, State.passDrained, State.rowClosed_open hc hn, State.advance_endPassState hpass]

/-- In a capture pass that ends the intake unit is in DRAINING with the row closed (R48, R54). -/
theorem State.RowClosed.passDrained_eq {w unit : IntakeUnit} (h : s.RowClosed w) (hq : s.iu.pairing = none)
    (hunit : unit = { s.iu with
      halfA := w.halfA
      halfB := w.halfB
      tracker := { s.iu.tracker with complete := s.iu.tracker.complete || s.iu.tracker.current.isSome } }) :
    s.passDrained = { s with iu := { unit with pass := .draining } } := by
  subst hunit
  obtain ⟨hA, hB⟩ := h.sameHalves
  rw [State.passDrained, State.rowClosed_eq, hA, hB, State.retracked, ← hq]

end EndPass

/-! ## END_PASS carried out -/

section Carried
variable {s v : State} {q : PendingWord}

/-- A count does not look at the post that waits. -/
theorem State.count_takePosted (c : CounterId) (s : State) : (s.takePosted.count c).ru = (s.count c).ru := by
  unfold State.count State.countBy
  dsimp only
  rw [apply_ite State.ru, apply_ite State.ru]
  rfl

theorem State.SettledTorn.takePosted (h : s.SettledTorn q v) : s.takePosted.SettledTorn q v.takePosted := by
  refine ⟨fun hn => by rw [h.1 hn]; rfl, fun hrow hopen => ?_⟩
  obtain ⟨hv, hsame, hchanged⟩ := h.2 hrow hopen
  refine ⟨?_, hsame, hchanged⟩
  rw [State.count_takePosted]
  exact congrArg State.takePosted hv

theorem State.SettledTorn.bt_eq (h : s.SettledTorn q v) : v.bt = s.bt := by
  by_cases ho : s.iu.tracker.OpenAt q.row
  · rw [(h.2 ho.1 ho.2).1]
  · rw [h.eq_elsewhere ho]
    rfl

theorem State.SettledTorn.takesPost (h : s.SettledTorn q v) {c : Instr} (ht : s.TakesPost c) : v.TakesPost c := by
  obtain ⟨-, hcu, -, -, hpass, -⟩ := h.keeps
  simpa only [State.TakesPost, State.Posts, hcu, hpass, h.bt_eq] using ht

/-- END_PASS carried out in one of the two passes is its effect and its ACK (R22, R58). -/
theorem exec_endPass (ht : s.TakesPost .endPass) (hp : s.iu.pass ∈ [.surveying, .capturing]) :
    exec .endPass s = .next (s.takePosted.endPassEffect.stageAck 0x07 .accepted 0).settleRequests :=
  exec_carried ht (passReason_of_mem hp) rfl

theorem exec_endPass_settledFirst (ht : s.TakesPost .endPass) (hp : s.iu.pass ∈ [.surveying, .capturing])
    (hq : s.iu.pairing = some q) (hv : s.SettledTorn q v) : exec .endPass s = exec .endPass v := by
  obtain ⟨-, -, -, -, hpass, -⟩ := hv.keeps
  rw [exec_endPass ht hp, exec_endPass (hv.takesPost ht) (hpass ▸ hp), hv.takePosted.endPassEffect_eq hq]

end Carried

section RelocateCarried
variable {s u : State} {m : Memory} {r : StripRecord} {p : LocateParams}

/-- RELOCATE names the first of its fields that is out of range, or is carried out (R37, R79). -/
theorem exec_relocate (hu : u = s.takePosted) (hm : m = s.cu.shadow) (ht : s.TakesPost .relocate)
    (hp : s.iu.pass = .planned) (hr : s.iu.strip = some r) (hpar : p = relocateParams m) :
    exec .relocate s = .next (State.settleRequests
      (if 1 ≤ p.minGap ∧ p.minGap ≤ 64 then
        if 8 ≤ p.frameLength ∧ p.frameLength ≤ 2048 then
          if p.nominalGap ≤ 256 then
            State.stageAck 0x04 .accepted 0
              { u with
                iu := { s.iu with pass := .locating }
                fl := { s.fl with params := some p, locating := some ⟨s.fl.profile, p, r, s.cu.effIrFloor⟩ } }
          else u.stageAck 0x04 .refusedMalformed 6
        else u.stageAck 0x04 .refusedMalformed 4
      else u.stageAck 0x04 .refusedMalformed 2)) := by
  subst hu hm
  have hreason : (s.checksOf .relocate).reason = none := passReason_of_mem (by simp [hp])
  have hbad : (s.checksOf .relocate).badField = _ := relocateChecks_firstBad hpar
  split_ifs at hbad ⊢
  · rw [exec_carried ht hreason hbad]
    exact congrArg (fun x => Host.Outcome.next (State.settleRequests (State.stageAck 0x04 .accepted 0 x)))
      (State.relocateEffect_eq (s := s.takePosted) hr hpar)
  all_goals exact exec_refusedMalformed ht rfl hreason hbad

end RelocateCarried

section EndPassCarried
variable {s : State} {r : StripRecord} {p : LocateParams} {row : Nat}

/-- END_PASS with no row open in a survey pass begins the locate operation (R58, R66). -/
theorem State.endPassEffect_surveying_still (hp : s.iu.pass = .surveying) (hq : s.iu.pairing = none)
    (hr : s.iu.strip = some r) (hl : s.fl.params = some p)
    (h : s.iu.tracker.current = none ∨ s.iu.tracker.complete = true) :
    s.endPassEffect = { s with
      iu := { s.iu with pass := .locating }
      fl := { s.fl with locating := some ⟨s.fl.profile, p, r, s.cu.effIrFloor⟩ } } := by
  have hsame : s.completeIfOpen = s := h.elim State.completeIfOpen_none State.completeIfOpen_complete
  rw [State.endPassEffect_none hq, hsame, State.endPassState_surveying hp hr hl, State.withPairing]
  simp only [← hq]

/-- An open row completes before that (R48, R58). -/
theorem State.endPassEffect_surveying_open (hp : s.iu.pass = .surveying) (hq : s.iu.pairing = none)
    (hr : s.iu.strip = some r) (hl : s.fl.params = some p) (ho : s.iu.tracker.OpenAt row) :
    s.endPassEffect = { s with
      iu := { s.iu with pass := .locating, tracker := s.iu.tracker.completed }
      fl := { s.fl with
        profile := s.fl.profile ++ [r.profileEntry s.iu.tracker.gSum s.iu.tracker.iSum]
        locating := some ⟨s.fl.profile ++ [r.profileEntry s.iu.tracker.gSum s.iu.tracker.iSum], p, r,
          s.cu.effIrFloor⟩ } } := by
  rw [State.endPassEffect_none hq, State.completeIfOpen_open ho.2,
    State.completeOpenRow_endPassState_surveying hp hr hl ho.1,
    State.endPassState_surveying (s := s.rowProfiled r) hp hr hl, State.withPairing]
  simp only [← hq]
  rfl

/-- As a capture pass ends the Blemish Tracker goes on in DRAINING (R54, R58). -/
theorem State.endPassEffect_drained (hp : s.iu.pass = .capturing) (hq : s.iu.pairing = none)
    (hstrip : ∀ c, s.iu.tracker.current = some c → s.iu.tracker.complete = false → s.iu.strip ≠ none) :
    s.endPassEffect = s.passDrained.advance := by
  rw [State.endPassEffect_none hq, State.endPassEffect_capturing hp hstrip, ← State.advance_withPairing]
  rfl

end EndPassCarried

section EndPassDrained
variable {s : State} {v : SlotId} {x : Slot} {w unit : IntakeUnit} (hfree : s.TrackerFree) (hp : s.iu.pass = .capturing)
  (hq : s.iu.pairing = none)
  (hstrip : ∀ c, s.iu.tracker.current = some c → s.iu.tracker.complete = false → s.iu.strip ≠ none) (hw : s.RowClosed w)
  (hunit : unit = { s.iu with
    halfA := w.halfA
    halfB := w.halfB
    tracker := { s.iu.tracker with complete := s.iu.tracker.complete || s.iu.tracker.current.isSome } })
include hfree hp hq hstrip hw hunit

/-- With no slot ACTIVE and the start queue empty the pass is over at once (R54). -/
theorem State.endPassEffect_noActive (hnone : ∀ v, (s.fl.slots.get v).state ≠ .active) : s.endPassEffect =
    { s with iu := { unit with pass := if s.iu.startQueue = [] then .planned else .draining } } := by
  have hfree : State.TrackerFree { s with iu := { unit with pass := .draining } } := hfree
  rw [State.endPassEffect_drained hp hq hstrip, hw.passDrained_eq hq hunit,
    State.advance_of_noActive hfree (activeSlot_eq_none hnone)]
  subst hunit
  simp only [true_and]

/-- With no row of the ACTIVE slot ready its frame end begins, with CUT while rows are unclassified (R54, R116 to R120). -/
theorem State.endPassEffect_unready {cut : Bool} {l : Listing} (hf : activeSlot s.fl.slots = some v)
    (hv : s.fl.slots.get v = x)
    (hready : x.bottom - x.top + 1 ≤ x.classified ∨ unit.tracker.hasCompleted (x.top + x.classified) = false)
    (hcut : cut = decide (x.classified < x.bottom - x.top + 1))
    (hl : l = Listing.closeAll s.cu.effMinArea v x.generation cut s.bt.openTable ⟨s.lw.queue, s.bt.nextSerial, 0, 0, 0⟩) :
    s.endPassEffect = { s with
      iu := { unit with pass := .draining }
      lw := { s.lw with queue := l.queue }
      ru := (State.countTimes unlistedBlemish l.unlisted s).ru
      bt := { s.bt with
        openTable := []
        previous := []
        nextSerial := l.nextSerial
        frameEnd := some ⟨v, cut⟩
        tally := { s.bt.tally with
          closed := s.bt.tally.closed + l.closed
          listed := s.bt.tally.listed + l.listed
          unlisted := s.bt.tally.unlisted + l.unlisted } } } := by
  have hfree : State.TrackerFree { s with iu := { unit with pass := .draining } } := hfree
  rw [State.endPassEffect_drained hp hq hstrip, hw.passDrained_eq hq hunit, State.advance_of_unready hfree hf ?_ rfl,
    State.beginFrameEnd_eq]
  · subst hv hcut hl
    refine State.eq_of_blocks rfl rfl rfl rfl rfl rfl rfl rfl ?_ rfl rfl rfl
    exact State.countTimes_ru_congr _ _ rfl rfl
  · rw [State.rowReady_iff]
    rintro ⟨hin, hdone⟩
    subst hv
    rcases hready with hall | hopen
    · exact absurd hin (Nat.not_lt.mpr hall)
    · exact absurd (hdone.symm.trans hopen) nofun

/-- With a ready row of the ACTIVE slot its classification begins (R54, R92). -/
theorem State.endPassEffect_ready (hn : s.NothingPending) (hf : activeSlot s.fl.slots = some v)
    (hv : s.fl.slots.get v = x) (hin : x.classified < x.bottom - x.top + 1)
    (hdone : unit.tracker.hasCompleted (x.top + x.classified) = true) :
    ∃ c w', s.ClassifiesNext w w' v x c ∧ s.endPassEffect = { s with
      iu := { unit with pass := .draining, halfA := w'.halfA, halfB := w'.halfB }
      bt := { s.bt with classifying := some c } } := by
  subst hv
  have hready : State.HasReadyRow { s with iu := { unit with pass := .draining } } v :=
    ⟨hfree, hn, hf, State.rowReady_iff.mpr ⟨hin, hdone⟩⟩
  refine ⟨_, _, State.beginNext_classifiesNext (m := { s with iu := { unit with pass := .draining } }) (v := v) ?_
    ⟨s.cu.posted, rfl⟩, ?_⟩
  · subst hunit
    exact ⟨rfl, rfl⟩
  · rw [State.endPassEffect_drained hp hq hstrip, hw.passDrained_eq hq hunit, State.advance_of_ready hready,
      State.beginNext_eq, IntakeUnit.mapHalf_eq]

end EndPassDrained

/-- Settles O55: each command by its effect on the state with the post taken, END_PASS by the pass it ends. -/
theorem passCommands : Obligations.PassCommands := by
  rintro s u m rfl rfl
  refine ⟨fun ht hp => ⟨_, exec_carried ht (passReason_of_mem hp) rfl, State.settles_of_eq rfl⟩,
    fun ht hp hv => ⟨_, exec_carried ht (State.reason_beginCapture hp hv) rfl, State.settles_of_eq rfl⟩, ?_,
    fun ht hp q v hq hv => exec_endPass_settledFirst ht hp hq hv, fun ht hn hq => ?_⟩
  · rintro ht hp r p hr hpar
    refine ⟨_, exec_relocate (u := { s with cu := { s.cu with posted := none } }) rfl rfl ht hp hr hpar, ?_, ?_, ?_, ?_⟩ <;>
      intros <;> refine State.settles_of_eq ?_
    · rw [if_neg (by omega)]
    · rw [if_pos (by omega), if_neg (by omega)]
    · rw [if_pos (by omega), if_pos (by omega), if_neg (by omega)]
    · rw [if_pos (by omega), if_pos (by omega), if_pos (by omega)]
  · by_cases hp : s.iu.pass ∈ [.surveying, .capturing]
    · refine ⟨_, exec_endPass ht hp, fun r p hp hr hl => ⟨fun h => ?_, ?_⟩, fun w unit hp hstrip hw hunit => ?_⟩
      · exact State.settles_of_eq (congrArg _ (State.endPassEffect_surveying_still (s := s.takePosted) hp hq hr hl h))
      · rintro row e hrow hopen rfl
        exact State.settles_of_eq
          (congrArg _ (State.endPassEffect_surveying_open (s := s.takePosted) hp hq hr hl ⟨hrow, hopen⟩))
      · have hfree : s.takePosted.TrackerFree := (ht.2.2 (by simp [BusySubject])).2
        refine ⟨fun hnone => State.settles_of_eq (congrArg _
            (State.endPassEffect_noActive (s := s.takePosted) hfree hp hq hstrip hw hunit hnone)),
          fun v x cut l hf hv hready hcut hl => State.settles_of_eq (congrArg _
            (State.endPassEffect_unready (s := s.takePosted) hfree hp hq hstrip hw hunit hf hv hready hcut hl)),
          fun v x hf hv hin hdone => ?_⟩
        obtain ⟨c, w', hc, heff⟩ :=
          State.endPassEffect_ready (s := s.takePosted) hfree hp hq hstrip hw hunit hn hf hv hin hdone
        exact ⟨c, w', hc, State.settles_of_eq (congrArg _ heff)⟩
    · refine ⟨_, exec_refusedState ht rfl (passReason_of_not_mem hp), fun r p h => ?_, fun w unit h => ?_⟩ <;>
        simp [h] at hp

end Sys2Proof.Machine

/-! # Capture storage: a routed word's half, Ymax and slot (R51, R52, R55, R108). -/

namespace Sys2Proof.Machine

/-! ## Slots changed in what no route or search looks at -/

section Slots
variable {slots : Vector Slot 8} {v : SlotId} {y : Slot}

theorem slots_set_get : slots.set v.val (slots.get v) = slots := by simp [Vector.get_eq_getElem]

/-- A search looks at what its test looks at alone. -/
theorem findSlot_congr {slots' : Vector Slot 8} {test : Slot → Bool}
    (h : ∀ w, test (slots'.get w) = test (slots.get w)) : findSlot slots' test = findSlot slots test := by
  rw [findSlot, findSlot, funext h]

theorem activeSlot_set (h : y.state = (slots.get v).state) : activeSlot (slots.set v.val y) = activeSlot slots :=
  findSlot_congr fun w => by
    rw [slots_get_set]
    split
    · rename_i hw
      rw [hw, h]
    · rfl

/-- Of a slot that storage changes these stay: its window, its clear level, its count of classified rows, and that it takes
words (R51). -/
structure Slot.Keeps (x y : Slot) : Prop where
  takes : y.state = .planned ∨ y.state = .active ↔ x.state = .planned ∨ x.state = .active
  top : y.top = x.top
  bottom : y.bottom = x.bottom
  left : y.left = x.left
  right : y.right = x.right
  clearLevel : y.clearLevel = x.clearLevel
  classified : y.classified = x.classified

theorem Slot.Keeps.refl (x : Slot) : x.Keeps x := ⟨Iff.rfl, rfl, rfl, rfl, rfl, rfl, rfl⟩

theorem Slot.Keeps.trans {x z : Slot} (h : x.Keeps y) (h' : y.Keeps z) : x.Keeps z :=
  ⟨h'.takes.trans h.takes, h'.top.trans h.top, h'.bottom.trans h.bottom, h'.left.trans h.left, h'.right.trans h.right,
    h'.clearLevel.trans h.clearLevel, h'.classified.trans h.classified⟩

theorem Slot.Keeps.routes {x : Slot} (h : x.Keeps y) (row col : Nat) : y.routes row col = x.routes row col := by
  simp only [Slot.routes, h.top, h.bottom, h.left, h.right, ← Bool.decide_or, h.takes]

theorem Slot.Keeps.set {x : Slot} (h : (slots.get v).Keeps x) (w : SlotId) :
    (slots.get w).Keeps ((slots.set v.val x).get w) := by
  rw [slots_get_set]
  split
  · rename_i hw
    exact hw ▸ h
  · exact Slot.Keeps.refl _

/-- Words go where they went before (R51). -/
theorem routeOf_congr {slots' : Vector Slot 8} (h : ∀ w, (slots.get w).Keeps (slots'.get w)) (row col : Nat) :
    routeOf slots' row col = routeOf slots row col := findSlot_congr fun w => (h w).routes row col

end Slots

/-! ## What the storage of a routed word changes -/

/-- Ymax after a routed word of frame row `y` that is not late (R51). -/
def Slot.withRow (x : Slot) (y : Nat) : Slot := { x with newest := newestAfter x.newest y }

/-- The spans once frame row `y` is in slot `v`: those of rows that lost their band lines by it are retired (R108). -/
def spansAfter (spans : List Span) (v : SlotId) (x : Slot) (y : Nat) : List Span :=
  if x.raisesNewest y then spans.filter fun sp => decide (sp.slot ≠ v) || decide (y < sp.row + x.bandLines) else spans

/-- The access's view once frame row `y` is in slot `v` (R127). -/
def Access.sees (a : Access) (v : SlotId) (x : Slot) (y : Nat) : Access :=
  { a with view := if x.raisesNewest y then a.view.raiseNewest v y else a.view }

/-- The intake unit once the row of a routed word has begun: the first takes an EMPTY half if there is one (R55). -/
def State.rowBegun (row : Nat) (v : SlotId) (s : State) : IntakeUnit :=
  { s.iu with
    tracker := { s.iu.tracker with begun := true }
    halfA := if s.iu.tracker.begun = false ∧ s.iu.halfA.state = .empty then IrHalf.freshFor row v (s.slot v) else s.iu.halfA
    halfB := if s.iu.tracker.begun = false ∧ s.iu.halfA.state ≠ .empty ∧ s.iu.halfB.state = .empty then
        IrHalf.freshFor row v (s.slot v)
      else s.iu.halfB }

/-- A word routed to slot `v` and not late is stored, short of the start of its slot (R51, R55, R108, R127). -/
def State.wordStored (v : SlotId) (p : IntakePlace) (b : Beat) (s : State) : State :=
  let x := s.slot v
  let y := p.row - x.top
  { s with
    mem := s.mem.writeBeat (x.bandAddress (y % x.bandLines) (p.col - x.left) p.word) b
    upstream := s.upstream.map fun a => a.sees v x y
    iu := s.rowBegun p.row v
    fl := { s.fl with slots := s.fl.slots.set v.val (x.withRow y) }
    bt := { s.bt with spans := spansAfter s.bt.spans v x y } }

/-- The record of a slot that starts: OPAQUE below the IR floor (R52). -/
def Slot.started (x : Slot) (floor : Nat) : Slot :=
  { x with cleanup := if x.clearLevel < floor then .opaqueFilm else x.cleanup }

/-- A PLANNED slot outside the start queue is started by its first routed word, short of what the Blemish Tracker begins by
that: ACTIVE, or behind the start queue while a slot is ACTIVE (R52). -/
def State.slotStarted (v : SlotId) (s : State) : State :=
  if (s.slot v).state = .planned ∧ v ∉ s.iu.startQueue then
    let started := s.setSlot v ((s.slot v).started s.cu.effIrFloor)
    match activeSlot s.fl.slots with
    | none => started.activate v
    | some _ => { started with iu := { s.iu with startQueue := s.iu.startQueue ++ [v] } }
  else s

section Store
variable {s : State} {p : IntakePlace} {b : Beat} {v : SlotId} {y row : Nat} {x : Slot}

theorem State.setSlot_slot : s.setSlot v (s.slot v) = s := by rw [State.setSlot, State.slot, slots_set_get]

theorem State.takeHalf_eq : s.takeHalf row v = { s with iu := s.rowBegun row v } := by
  cases hb : s.iu.tracker.begun with
  | true =>
    have hsame : { s.iu.tracker with begun := true } = s.iu.tracker := by rw [← hb]
    simp only [State.takeHalf, State.rowBegun, hb, hsame]
    rfl
  | false =>
    by_cases hA : s.iu.halfA.state = .empty <;> by_cases hB : s.iu.halfB.state = .empty <;>
      simp [State.takeHalf, State.rowBegun, hb, hA, hB] <;> rfl

/-- A row that is not new leaves Ymax (R51). -/
theorem Slot.withRow_of_not_raises (h : ¬x.raisesNewest y = true) : x.withRow y = x := by
  cases hn : x.newest with
  | none => simp [Slot.raisesNewest, hn] at h
  | some n =>
    have hle : y ≤ n := by simpa [Slot.raisesNewest, hn] using h
    rw [Slot.withRow, newestAfter, hn, Option.getD_some, max_eq_right hle, ← hn]

/-- A new row is Ymax (R51). -/
theorem Slot.withRow_of_raises (h : x.raisesNewest y = true) : x.withRow y = { x with newest := some y } := by
  cases hn : x.newest with
  | none => simp [Slot.withRow, newestAfter, hn]
  | some n =>
    have hlt : n < y := by simpa [Slot.raisesNewest, hn] using h
    rw [Slot.withRow, newestAfter, hn, Option.getD_some, max_eq_left hlt.le]

theorem State.raiseNewest_eq : s.raiseNewest v y = { s with
    upstream := s.upstream.map fun a => a.sees v (s.slot v) y
    fl := { s.fl with slots := s.fl.slots.set v.val ((s.slot v).withRow y) }
    bt := { s.bt with spans := spansAfter s.bt.spans v (s.slot v) y } } := by
  have hraise : s.raiseNewest v y = if (s.slot v).raisesNewest y then
      let x' := { s.slot v with newest := some y }
      { s.setSlot v x' with
        bt := { s.bt with spans := retireLostSpans v x' s.bt.spans }
        upstream := s.upstream.map fun a => { a with view := a.view.raiseNewest v y } }
    else s := rfl
  rw [hraise]
  by_cases h : (s.slot v).raisesNewest y = true
  · rw [if_pos h, Slot.withRow_of_raises h]
    simp only [spansAfter, Access.sees, if_pos h]
    have hlost : ∀ sp : Span, (!Slot.hasLost { s.slot v with newest := some y } sp.row)
        = decide (y < sp.row + (s.slot v).bandLines) := fun sp => by simp [Slot.hasLost, ← decide_not]
    simp only [retireLostSpans, hlost]
    rfl
  · have hslots : s.fl.slots.set v.val (s.slot v) = s.fl.slots := slots_set_get
    rw [if_neg h, Slot.withRow_of_not_raises h, hslots]
    simp [spansAfter, Access.sees, h]

/-- A routed word that is not late is stored, and then its slot may start (R51, R52). -/
theorem State.storeCapture_routed (hv : routeOf s.fl.slots p.row p.col = some v) :
    s.storeCapture p b false = (s.wordStored v p b).startSlot v := by
  rw [State.storeCapture, hv]
  dsimp only
  rw [if_neg nofun, State.takeHalf_eq, State.raiseNewest_eq]
  rfl

theorem State.storeCapture_unrouted (hv : routeOf s.fl.slots p.row p.col = none) (late : Bool) :
    s.storeCapture p b late = s := by
  rw [State.storeCapture, hv]

/-- A slot that is ACTIVE or waits to be has started (R52, R53). -/
theorem State.slotStarted_of_started (h : (s.slot v).state = .active ∨ v ∈ s.iu.startQueue) : s.slotStarted v = s := by
  refine if_neg fun ⟨hplanned, hout⟩ => ?_
  rcases h with hactive | hin
  · rw [hplanned] at hactive
    cases hactive
  · exact hout hin

/-- The Blemish Tracker is told of a slot that becomes ACTIVE (R92). -/
theorem State.startSlot_eq : s.startSlot v =
    if (s.slot v).state = .planned ∧ v ∉ s.iu.startQueue ∧ activeSlot s.fl.slots = none then (s.slotStarted v).advance
    else s.slotStarted v := by
  have hstarted : (if (s.slot v).clearLevel < s.cu.effIrFloor then s.setSlot v { s.slot v with cleanup := .opaqueFilm } else s)
      = s.setSlot v ((s.slot v).started s.cu.effIrFloor) := by
    unfold Slot.started
    split
    · rfl
    · exact State.setSlot_slot.symm
  have hactive : activeSlot (s.setSlot v ((s.slot v).started s.cu.effIrFloor)).fl.slots = activeSlot s.fl.slots :=
    activeSlot_set rfl
  simp only [State.startSlot, State.slotStarted, hstarted, hactive]
  by_cases h : (s.slot v).state = .planned ∧ v ∉ s.iu.startQueue
  · rw [if_pos h, if_pos h]
    cases activeSlot s.fl.slots with
    | none => rw [if_pos ⟨h.1, h.2, rfl⟩]
    | some w => rw [if_neg (by simp)]; rfl
  · rw [if_neg h, if_neg h, if_neg fun h' => h ⟨h'.1, h'.2.1⟩]

end Store

/-! ## A word of a capture pixel stored -/

/-- A word that is not late is stored where it is routed, short of what the Blemish Tracker begins by the start of its slot
(R51, R52). -/
def State.captureStored (p : IntakePlace) (b : Beat) (s : State) : State :=
  match routeOf s.fl.slots p.row p.col with
  | none => s
  | some v => (s.wordStored v p b).slotStarted v

section CaptureStored
variable {s : State} {p : IntakePlace} {b : Beat} {v : SlotId} {y row : Nat} {x : Slot}

theorem State.captureStored_none (hv : routeOf s.fl.slots p.row p.col = none) : s.captureStored p b = s := by
  rw [State.captureStored, hv]

theorem State.captureStored_some (hv : routeOf s.fl.slots p.row p.col = some v) :
    s.captureStored p b = (s.wordStored v p b).slotStarted v := by
  rw [State.captureStored, hv]

theorem State.wordStored_slot : (s.wordStored v p b).slot v = (s.slot v).withRow (p.row - (s.slot v).top) := by
  rw [State.slot, State.wordStored, slots_get_set, if_pos rfl]

theorem State.wordStored_activeSlot : activeSlot (s.wordStored v p b).fl.slots = activeSlot s.fl.slots := activeSlot_set rfl

/-- Storage, field by field, of a word whose slot has started (R51, R108). -/
theorem State.captureStored_started (hv : routeOf s.fl.slots p.row p.col = some v)
    (h : (s.slot v).state = .active ∨ v ∈ s.iu.startQueue) : s.captureStored p b = s.wordStored v p b := by
  rw [State.captureStored_some hv, State.slotStarted_of_started]
  rw [State.wordStored_slot]
  exact h

/-- The start of a slot, field by field (R52). -/
theorem State.slotStarted_active (hx : (s.slot v).state = .planned) (hq : v ∉ s.iu.startQueue)
    (hnone : activeSlot s.fl.slots = none) : s.slotStarted v = { s with
      fl := { s.fl with slots := s.fl.slots.set v.val { (s.slot v).started s.cu.effIrFloor with state := .active } }
      bt := { s.bt with tally := .zero, openTable := [], previous := [] } } := by
  rw [State.slotStarted, if_pos ⟨hx, hq⟩, hnone]
  simp only [State.activate, State.setSlot, State.slot, slots_get_set, if_pos, Vector.set_set]

theorem State.slotStarted_queued {w : SlotId} (hx : (s.slot v).state = .planned) (hq : v ∉ s.iu.startQueue)
    (hw : activeSlot s.fl.slots = some w) : s.slotStarted v = { s with
      fl := { s.fl with slots := s.fl.slots.set v.val ((s.slot v).started s.cu.effIrFloor) }
      iu := { s.iu with startQueue := s.iu.startQueue ++ [v] } } := by
  rw [State.slotStarted, if_pos ⟨hx, hq⟩, hw]
  rfl

/-- A slot has started, becomes ACTIVE or joins the start queue (R52, R53). -/
theorem State.slotStarted_cases (v : SlotId) (s : State) :
    (¬((s.slot v).state = .planned ∧ v ∉ s.iu.startQueue) ∧ s.slotStarted v = s)
    ∨ ((s.slot v).state = .planned ∧ v ∉ s.iu.startQueue ∧ activeSlot s.fl.slots = none ∧ s.slotStarted v = { s with
        fl := { s.fl with slots := s.fl.slots.set v.val { (s.slot v).started s.cu.effIrFloor with state := .active } }
        bt := { s.bt with tally := .zero, openTable := [], previous := [] } })
    ∨ ((s.slot v).state = .planned ∧ v ∉ s.iu.startQueue ∧ activeSlot s.fl.slots ≠ none ∧ s.slotStarted v = { s with
        fl := { s.fl with slots := s.fl.slots.set v.val ((s.slot v).started s.cu.effIrFloor) }
        iu := { s.iu with startQueue := s.iu.startQueue ++ [v] } }) := by
  by_cases h : (s.slot v).state = .planned ∧ v ∉ s.iu.startQueue
  · obtain ⟨hx, hq⟩ := h
    cases hw : activeSlot s.fl.slots with
    | none => exact .inr (.inl ⟨hx, hq, rfl, State.slotStarted_active hx hq hw⟩)
    | some w => exact .inr (.inr ⟨hx, hq, nofun, State.slotStarted_queued hx hq hw⟩)
  · exact .inl ⟨h, if_neg h⟩

/-- The start of a slot touches the slots, the start queue and the frame being followed (R52). -/
theorem State.slotStarted_eq : s.slotStarted v = { s with
    fl := { s.fl with slots := (s.slotStarted v).fl.slots }
    iu := { s.iu with startQueue := (s.slotStarted v).iu.startQueue }
    bt := { s.bt with
      tally := (s.slotStarted v).bt.tally
      openTable := (s.slotStarted v).bt.openTable
      previous := (s.slotStarted v).bt.previous } } := by
  rcases State.slotStarted_cases v s with ⟨-, h⟩ | ⟨-, -, -, h⟩ | ⟨-, -, -, h⟩ <;> rw [h]

theorem State.slotStarted_keeps (w : SlotId) : (s.slot w).Keeps ((s.slotStarted v).slot w) := by
  rcases State.slotStarted_cases v s with ⟨-, h⟩ | ⟨hx, -, -, h⟩ | ⟨-, -, -, h⟩ <;> rw [h]
  · exact Slot.Keeps.refl _
  · have hactive : (s.fl.slots.get v).Keeps { (s.slot v).started s.cu.effIrFloor with state := .active } :=
      ⟨⟨fun _ => .inl hx, fun _ => .inr rfl⟩, rfl, rfl, rfl, rfl, rfl, rfl⟩
    exact hactive.set w
  · have hqueued : (s.fl.slots.get v).Keeps ((s.slot v).started s.cu.effIrFloor) := ⟨Iff.rfl, rfl, rfl, rfl, rfl, rfl, rfl⟩
    exact hqueued.set w

theorem State.slotStarted_withPairing (q : Option PendingWord) :
    (s.withPairing q).slotStarted v = (s.slotStarted v).withPairing q := by
  rcases State.slotStarted_cases v s with ⟨hn, h⟩ | ⟨hx, hq, hnone, h⟩ | ⟨hx, hq, hsome, h⟩ <;> rw [h]
  · exact if_neg hn
  · exact State.slotStarted_active (s := s.withPairing q) hx hq hnone
  · obtain ⟨w, hw⟩ := Option.ne_none_iff_exists'.mp hsome
    exact State.slotStarted_queued (s := s.withPairing q) hx hq hw

/-- Storage keeps windows, clear levels and what each slot takes (R51). -/
theorem State.captureStored_keeps (w : SlotId) : (s.slot w).Keeps ((s.captureStored p b).slot w) := by
  cases hv : routeOf s.fl.slots p.row p.col with
  | none => rw [State.captureStored_none hv]; exact Slot.Keeps.refl _
  | some v =>
    rw [State.captureStored_some hv]
    have hrow : (s.fl.slots.get v).Keeps ((s.slot v).withRow (p.row - (s.slot v).top)) :=
      ⟨Iff.rfl, rfl, rfl, rfl, rfl, rfl, rfl⟩
    exact (hrow.set w).trans (State.slotStarted_keeps (s := s.wordStored v p b) w)

theorem State.captureStored_routeOf (row col : Nat) :
    routeOf (s.captureStored p b).fl.slots row col = routeOf s.fl.slots row col :=
  routeOf_congr State.captureStored_keeps row col

/-- What storage changes. -/
theorem State.captureStored_eq : s.captureStored p b = { s with
    mem := (s.captureStored p b).mem
    upstream := (s.captureStored p b).upstream
    fl := (s.captureStored p b).fl
    iu := { s.iu with
      startQueue := (s.captureStored p b).iu.startQueue
      halfA := (s.captureStored p b).iu.halfA
      halfB := (s.captureStored p b).iu.halfB
      tracker := { s.iu.tracker with begun := s.iu.tracker.begun || (routeOf s.fl.slots p.row p.col).isSome } }
    bt := { s.bt with
      spans := (s.captureStored p b).bt.spans
      tally := (s.captureStored p b).bt.tally
      openTable := (s.captureStored p b).bt.openTable
      previous := (s.captureStored p b).bt.previous } } := by
  cases hv : routeOf s.fl.slots p.row p.col with
  | none =>
    rw [State.captureStored_none hv, Option.isSome_none, Bool.or_false]
  | some v =>
    rw [State.captureStored_some hv, Option.isSome_some, Bool.or_true, State.slotStarted_eq]
    rfl

theorem State.captureStored_withPairing (q : Option PendingWord) :
    (s.withPairing q).captureStored p b = (s.captureStored p b).withPairing q := by
  cases hv : routeOf s.fl.slots p.row p.col with
  | none =>
    rw [State.captureStored_none hv]
    exact State.captureStored_none (s := s.withPairing q) hv
  | some v =>
    rw [State.captureStored_some hv, State.captureStored_some (s := s.withPairing q) hv]
    exact State.slotStarted_withPairing (s := s.wordStored v p b) q

/-- The Blemish Tracker may begin by the start of a slot: then the slot is the ACTIVE one (R92). -/
theorem State.storeCapture_cases : s.storeCapture p b false = s.captureStored p b
    ∨ activeSlot s.fl.slots = none ∧ (∃ v, routeOf s.fl.slots p.row p.col = some v
        ∧ activeSlot (s.captureStored p b).fl.slots = some v)
      ∧ s.storeCapture p b false = (s.captureStored p b).advance := by
  cases hv : routeOf s.fl.slots p.row p.col with
  | none => exact .inl (by rw [State.storeCapture_unrouted hv, State.captureStored_none hv])
  | some v =>
    rw [State.storeCapture_routed hv, State.captureStored_some hv, State.startSlot_eq]
    split
    · rename_i h
      obtain ⟨hx, hq, hnone⟩ := h
      refine .inr ⟨State.wordStored_activeSlot.symm.trans hnone, ⟨v, rfl, ?_⟩, rfl⟩
      rw [State.slotStarted_active hx hq hnone]
      refine activeSlot_eq_some ?_ fun w hw => ?_
      · rw [slots_get_set, if_pos rfl]
      · rw [slots_get_set, if_neg hw]
        intro hactive
        have := List.find?_eq_none.mp hnone w (mem_allSlots w)
        exact this (decide_eq_true hactive)
    · exact .inl rfl

theorem State.storeCapture_started (hv : routeOf s.fl.slots p.row p.col = some v)
    (h : (s.slot v).state = .active ∨ v ∈ s.iu.startQueue) : s.storeCapture p b false = s.wordStored v p b := by
  rw [State.storeCapture_routed hv, State.startSlot_eq, if_neg, State.slotStarted_of_started]
  · rw [State.wordStored_slot]
    exact h
  · rw [State.wordStored_slot]
    rintro ⟨hx, hq, -⟩
    rcases h with hactive | hin
    · exact absurd (hactive.symm.trans hx) nofun
    · exact hq hin

/-! ## What is said of storage -/

theorem State.captureStored_mem (hv : routeOf s.fl.slots p.row p.col = some v) : (s.captureStored p b).mem =
    s.mem.writeBeat ((s.slot v).bandAddress ((p.row - (s.slot v).top) % (s.slot v).bandLines) (p.col - (s.slot v).left)
      p.word) b := by
  rw [State.captureStored_some hv, State.slotStarted_eq]
  rfl

theorem State.captureStored_upstream {a : Access} (hv : routeOf s.fl.slots p.row p.col = some v) (ha : s.upstream = some a) :
    (s.captureStored p b).upstream = some (a.sees v (s.slot v) (p.row - (s.slot v).top)) := by
  rw [State.captureStored_some hv, State.slotStarted_eq]
  simp [State.wordStored, ha]

theorem State.captureStored_halves (hv : routeOf s.fl.slots p.row p.col = some v) :
    (s.rowBegun p.row v).SameHalves (s.captureStored p b).iu := by
  rw [State.captureStored_some hv, State.slotStarted_eq]
  exact ⟨rfl, rfl⟩

/-- R51, R52 and R108 of a routed word that is not late. -/
theorem State.storedInto_captureStored (hv : routeOf s.fl.slots p.row p.col = some v) (hx : s.fl.slots.get v = x) :
    s.StoredInto (s.captureStored p b) v x p.row p.col p.word b := by
  subst hx
  refine ⟨?_, ?_, ?_⟩
  · rw [State.captureStored_mem hv]
    exact Memory.holdsBeat_writeBeat
  · rw [State.captureStored_some hv, State.slotStarted_eq]
    rfl
  · rintro y rfl
    refine ⟨fun h => ?_, ?_⟩
    · rw [State.captureStored_started hv h]
      exact ⟨rfl, rfl, rfl, rfl, rfl⟩
    · rintro hx hq z rfl
      have hx' : ((s.wordStored v p b).slot v).state = .planned := by rw [State.wordStored_slot]; exact hx
      refine ⟨fun hnone => ?_, fun hsome => ?_⟩
      · have hnone' : activeSlot (s.wordStored v p b).fl.slots = none := State.wordStored_activeSlot.trans hnone
        rw [State.captureStored_some hv, State.slotStarted_active hx' hq hnone', State.wordStored_slot]
        refine ⟨?_, rfl, rfl, rfl, rfl⟩
        simp only [State.wordStored, Vector.set_set]
        rfl
      · obtain ⟨w, hw⟩ := Option.ne_none_iff_exists'.mp hsome
        rw [State.captureStored_some hv, State.slotStarted_queued hx' hq (State.wordStored_activeSlot.trans hw),
          State.wordStored_slot]
        refine ⟨?_, rfl, rfl, rfl, rfl⟩
        simp only [State.wordStored, Vector.set_set]
        rfl

/-- The storage of a word is said alike of two states that agree on what it says. -/
theorem State.StoredInto.congr {t t' : State} {col k : Nat} (h : s.StoredInto t v x row col k b) (hmem : t'.mem = t.mem)
    (hfl : t'.fl = t.fl) (hq : t'.iu.startQueue = t.iu.startQueue)
    (hbt : t'.bt = { t.bt with classifying := t'.bt.classifying }) : s.StoredInto t' v x row col k b := by
  unfold State.StoredInto State.SameFrame
  rw [hmem, hfl, hq, hbt]
  exact h

/-- The halves once a row has begun that had not (R55). -/
theorem State.captureStored_rowBegun (hb : s.iu.tracker.begun = false) :
    s.iu.RowBegun (s.captureStored p b).iu s.fl.slots p.row p.col := by
  refine ⟨fun hv => by rw [State.captureStored_none hv]; exact ⟨rfl, rfl⟩, fun v x hv hx => ?_⟩
  subst hx
  obtain ⟨hA, hB⟩ := State.captureStored_halves (b := b) hv
  rw [hA, hB]
  simp only [State.rowBegun, hb, true_and]
  exact ⟨rfl, rfl⟩

theorem State.captureStored_begun (hb : s.iu.tracker.begun = true) : s.iu.SameHalves (s.captureStored p b).iu := by
  cases hv : routeOf s.fl.slots p.row p.col with
  | none => rw [State.captureStored_none hv]; exact ⟨rfl, rfl⟩
  | some v =>
    obtain ⟨hA, hB⟩ := State.captureStored_halves (b := b) hv
    rw [IntakeUnit.SameHalves, hA, hB]
    simp [State.rowBegun, hb]

end CaptureStored

end Sys2Proof.Machine

/-! # A capture row completed (R48, R54, R92). -/

namespace Sys2Proof.Machine

section RowCompleted
variable {s m : State} {r : StripRecord} {row rows : Nat} {v : SlotId}

/-- The intake unit once the open row has completed as one of `rows` declared rows, the last of which begins draining (R48,
R54). -/
def State.completedUnit (row rows : Nat) (m : State) : IntakeUnit :=
  { m.iu with
    halfA := (m.iu.mapHalf IrHalf.afterRow row).halfA
    halfB := (m.iu.mapHalf IrHalf.afterRow row).halfB
    tracker := { m.iu.tracker with complete := true }
    pass := if row + 1 = rows then .draining else m.iu.pass
    pairing := if row + 1 = rows then none else m.iu.pairing }

/-- The state as the open row has completed, short of what the Blemish Tracker begins by that (R48). -/
def State.rowCompleted (row rows : Nat) (m : State) : State := { m with iu := m.completedUnit row rows }

/-- The Blemish Tracker goes on from there (R54, R92). -/
theorem State.completeOpenRow_advance (hp : m.iu.pass = .capturing) (hr : m.iu.strip = some r)
    (hrow : m.iu.tracker.current = some row) : m.completeOpenRow = (m.rowCompleted row r.captureRows).advance := by
  rw [State.completeOpenRow_capturing hp hr hrow, State.rowCompleted, State.completedUnit]
  split_ifs
  · rw [State.advance_endPassState (s := m.rowWaiting row) (by rw [State.rowWaiting_eq]; exact hp), State.rowWaiting_eq]
    rfl
  · rw [State.rowWaiting_eq]
    rfl

/-- Up to the row that completed all have. -/
theorem State.rowReady_rowCompleted (hrow : m.iu.tracker.current = some row) {n : Nat} :
    (m.rowCompleted row rows).rowReady v n = true ↔
      n < (m.slot v).bottom - (m.slot v).top + 1 ∧ (m.slot v).top + n ≤ row := by
  rw [State.rowReady_iff]
  simp only [State.rowCompleted, State.completedUnit, RowTracker.hasCompleted, hrow, Bool.and_true, Bool.or_eq_true,
    decide_eq_true_eq, ← Nat.le_iff_lt_or_eq]
  rfl

/-- R48, R54 and R92 of the completion of a capture row. -/
theorem State.rowCompleted_completeOpenRow (hp : m.iu.pass = .capturing) (hr : m.iu.strip = some r)
    (hrow : m.iu.tracker.current = some row) : m.RowCompleted m.completeOpenRow row r.captureRows := by
  rw [State.completeOpenRow_advance hp hr hrow]
  have hpass : (m.rowCompleted row r.captureRows).iu.pass = .draining ↔ row + 1 = r.captureRows := by
    simp [State.rowCompleted, State.completedUnit, hp]
  refine ⟨m.iu.mapHalf IrHalf.afterRow row, m.completedUnit row r.captureRows, IntakeUnit.mapHalf_halfChanged, rfl,
    fun hbusy => State.advance_of_not_free (s := m.rowCompleted row _) hbusy, fun hfree hnone => ?_, ?_⟩
  · rw [State.advance_of_noActive (s := m.rowCompleted row _) hfree hnone]
    simp only [hpass]
    rfl
  · rintro v x ready hfree hv rfl hready
    have hready' : (m.rowCompleted row r.captureRows).rowReady v (m.slot v).classified = true ↔ ready :=
      (State.rowReady_rowCompleted hrow).trans hready.symm
    refine ⟨fun h hn => State.advance_of_hindered (s := m.rowCompleted row _) hv (hready'.mpr h) hn, fun h hn => ?_,
      fun h hlast => ?_, fun cut l h hlast hcut hl => ?_⟩
    · have hnext : (m.rowCompleted row r.captureRows).HasReadyRow v := ⟨hfree, hn, hv, hready'.mpr h⟩
      refine ⟨_, _, State.beginNext_classifiesNext (m := m.rowCompleted row r.captureRows) ⟨rfl, rfl⟩ ⟨_, rfl⟩, ?_⟩
      rw [State.advance_of_ready hnext, State.beginNext_eq, IntakeUnit.mapHalf_eq]
      rfl
    · refine State.advance_of_none (s := m.rowCompleted row _) (hpass.not.mpr hlast) fun w hw => ?_
      obtain rfl : v = w := Option.some.inj (hv.symm.trans hw.active)
      exact h (hready'.mp hw.ready)
    · subst hcut hl
      rw [State.advance_of_unready (s := m.rowCompleted row _) hfree hv (fun hn => h (hready'.mp hn)) (hpass.mpr hlast),
        State.beginFrameEnd_eq]
      refine State.eq_of_blocks rfl rfl rfl rfl rfl rfl rfl rfl ?_ rfl rfl rfl
      exact State.countTimes_ru_congr _ _ rfl rfl

end RowCompleted

/-! ## A row that is classified as a slot starts -/

section Started
variable {s : State} {r : StripRecord} {row col g i : Nat} {torn : Bool} {f : IrHalf → IrHalf} {t : RowTracker}

/-- The same state with the half of a row changed, and another row tracker, pass state, Report Unit and pairing state. -/
def State.rehalved (f : IrHalf → IrHalf) (row : Nat) (t : RowTracker) (pass : PassState) (ru : ReportUnit)
    (q : Option PendingWord) (s : State) : State :=
  State.retracked t pass ru q { s with iu := s.iu.mapHalf f row }

/-- What the Blemish Tracker has begun before a half of another row changes it would begin after that (R56, R92). -/
theorem State.advance_rehalved_advance (hp : s.iu.pass ≠ .draining) (hf : IrHalf.KeepsRow f)
    (hrow : ∀ n, s.iu.tracker.hasCompleted n = true → n ≠ row)
    (hmono : ∀ n, s.iu.tracker.hasCompleted n = true → t.hasCompleted n = true) (pass : PassState) (ru : ReportUnit)
    (q : Option PendingWord) :
    (s.advance.rehalved f row t pass ru q).advance = (s.rehalved f row t pass ru q).advance := by
  by_cases h : ∃ v, s.HasReadyRow v
  · obtain ⟨v, hv⟩ := h
    have hne := hrow _ (State.rowReady_iff.mp hv.ready).2
    have hready : (s.rehalved f row t pass ru q).HasReadyRow v :=
      State.HasReadyRow.retracked (s := { s with iu := s.iu.mapHalf f row })
        ⟨hv.free, hv.unhindered, hv.active, by
          rw [IntakeUnit.mapHalf_eq]
          exact hv.ready⟩ (by rw [IntakeUnit.mapHalf_eq]; exact hmono) pass ru q
    rw [State.advance_of_ready hv, State.advance_of_ready hready, State.advance_of_not_free]
    · have hcomm := IntakeUnit.mapHalf_comm (u := s.iu) (Ne.symm hne) hf IrHalf.keepsRow_classified
      have hhalf := IntakeUnit.halfOf_mapHalf (u := s.iu) (Ne.symm hne) hf
      have hnext : (s.rehalved f row t pass ru q).nextOf v = s.nextOf v := by
        have hslot : (s.rehalved f row t pass ru q).slot v = s.slot v := rfl
        have hhalf' : (s.rehalved f row t pass ru q).iu.halfOf ((s.slot v).top + (s.slot v).classified)
            = s.iu.halfOf ((s.slot v).top + (s.slot v).classified) := hhalf
        simp only [State.nextOf, State.classificationOf, hslot, hhalf']
        rfl
      have hunit : (s.rehalved f row t pass ru q).iu.mapHalf IrHalf.classified ((s.slot v).top + (s.slot v).classified)
          = { (s.iu.mapHalf f row).mapHalf IrHalf.classified ((s.slot v).top + (s.slot v).classified) with
              tracker := t, pass := pass, pairing := q } := by
        rw [IntakeUnit.mapHalf_eq, IntakeUnit.mapHalf_eq IrHalf.classified]
        rfl
      have hslot : (s.rehalved f row t pass ru q).slot v = s.slot v := rfl
      rw [State.beginNext_eq, State.beginNext_eq, hnext, hslot, hunit, hcomm]
      rfl
    · rintro ⟨hk, -⟩
      cases hk
  · rw [State.advance_of_none hp (not_exists.mp h)]

/-- What a settling pixel does to its row's half (R45). -/
def State.pixelHalf (row col ir : Nat) (torn : Bool) (s : State) : IrHalf → IrHalf :=
  match routeOf s.fl.slots row col with
  | some v => fun h => h.afterPixel (col - (s.slot v).left) (s.slot v).clearLevel ir torn
  | none => id

theorem IrHalf.keepsRow_pixelHalf : IrHalf.KeepsRow (s.pixelHalf row col i torn) := by
  unfold State.pixelHalf
  split
  · exact IrHalf.keepsRow_afterPixel _ _ _ _
  · exact fun _ hne => ⟨hne, rfl⟩

theorem IrHalf.KeepsRow.comp {g : IrHalf → IrHalf} (hg : IrHalf.KeepsRow g) (hf : IrHalf.KeepsRow f) :
    IrHalf.KeepsRow (g ∘ f) := fun h hne => by
  obtain ⟨hne', hrow⟩ := hf h hne
  obtain ⟨hne'', hrow'⟩ := hg (f h) hne'
  exact ⟨hne'', hrow'.trans hrow⟩

/-- Two changes of the half of one row are one. -/
theorem IntakeUnit.mapHalf_mapHalf {u : IntakeUnit} {g : IrHalf → IrHalf} (hf : IrHalf.KeepsRow f) :
    (u.mapHalf f row).mapHalf g row = u.mapHalf (g ∘ f) row := by
  obtain ⟨hA, hB⟩ := IntakeUnit.holds_mapHalf (u := u) (row := row) (row' := row) hf
  rw [IntakeUnit.mapHalf_eq g, hA, hB, IntakeUnit.mapHalf_eq f, IntakeUnit.mapHalf_eq]
  cases u.halfA.holds row <;> cases u.halfB.holds row <;> rfl

theorem State.pixelHalves_eq : s.pixelHalves row col i torn = s.iu.mapHalf (s.pixelHalf row col i torn) row := by
  cases hv : routeOf s.fl.slots row col with
  | none => simp [State.pixelHalves_none hv, State.pixelHalf, hv, IntakeUnit.mapHalf_eq]
  | some v => simp [State.pixelHalves_some hv, State.pixelHalf, hv]

/-- A pixel that fills its row sets its entry, and then the half is WAITING (R45, R48). -/
theorem State.rowCompleted_settled {rows : Nat} (hp : s.iu.pass = .capturing) :
    (s.settled row col torn g i).rowCompleted row rows =
      s.rehalved (IrHalf.afterRow ∘ s.pixelHalf row col i torn) row
        { s.iu.tracker with settled := s.iu.tracker.settled + 1, complete := true }
        (if row + 1 = rows then .draining else s.iu.pass) (if torn then s.count tornPixel else s).ru
        (if row + 1 = rows then none else s.iu.pairing) := by
  have hhalves : (s.settled row col torn g i).iu.mapHalf IrHalf.afterRow row
      = { s.iu.mapHalf (IrHalf.afterRow ∘ s.pixelHalf row col i torn) row with
          tracker := { s.iu.tracker with settled := s.iu.tracker.settled + 1 } } := by
    rw [State.settled_capturing hp, State.pixelHalves_eq, ← IntakeUnit.mapHalf_mapHalf IrHalf.keepsRow_pixelHalf,
      IntakeUnit.mapHalf_eq (s.pixelHalf row col i torn), IntakeUnit.mapHalf_eq IrHalf.afterRow,
      IntakeUnit.mapHalf_eq IrHalf.afterRow]
  rw [State.rowCompleted, State.completedUnit, hhalves, State.settled_capturing hp, State.rehalved, IntakeUnit.mapHalf_eq]
  rfl

/-- Where the start of a slot has begun a classification, the completion of the row would begin it (R56, R92). -/
theorem State.settled_advance_completeOpenRow (hp : s.iu.pass = .capturing) (hr : s.iu.strip = some r)
    (ho : s.iu.tracker.OpenAt row) :
    (s.advance.settled row col torn g i).completeOpenRow = (s.settled row col torn g i).completeOpenRow := by
  have hdraining : s.iu.pass ≠ .draining := by rw [hp]; nofun
  have hframe := State.advance_eq hdraining
  have hp' : s.advance.iu.pass = .capturing := by rw [hframe]; exact hp
  have hcount : (if torn then s.advance.count tornPixel else s.advance).ru = (if torn then s.count tornPixel else s).ru := by
    split
    · exact State.count_ru_congr tornPixel (by rw [hframe]) (by rw [hframe])
    · rw [hframe]
  have hsame : s.advance.pixelHalf row col i torn = s.pixelHalf row col i torn ∧ s.advance.iu.tracker = s.iu.tracker
      ∧ s.advance.iu.pairing = s.iu.pairing := by
    rw [hframe]
    exact ⟨rfl, rfl, rfl⟩
  obtain ⟨hpixel, htracker, hpairing⟩ := hsame
  have hcomplete : ∀ m : State, m.iu.pass = .capturing → m.iu.strip = some r → m.iu.tracker.current = some row →
      (m.settled row col torn g i).completeOpenRow = ((m.settled row col torn g i).rowCompleted row r.captureRows).advance := by
    intro m hm hmr hmrow
    refine State.completeOpenRow_advance ?_ ?_ ?_ <;> rw [State.settled_capturing hm] <;> assumption
  rw [hcomplete s hp hr ho.1, hcomplete s.advance hp' (by rw [hframe]; exact hr) (htracker ▸ ho.1),
    State.rowCompleted_settled hp, State.rowCompleted_settled hp', hpixel, htracker, hpairing, hp, hp', hcount]
  have hbelow : ∀ n, s.iu.tracker.hasCompleted n = true → n < row := by
    intro n hn
    simpa [RowTracker.hasCompleted, ho.1, ho.2] using hn
  refine State.advance_rehalved_advance hdraining (IrHalf.keepsRow_afterRow.comp IrHalf.keepsRow_pixelHalf)
    (fun n hn => (hbelow n hn).ne) (fun n hn => ?_) _ _ _
  have := hbelow n hn
  simp [RowTracker.hasCompleted, ho.1, this]

end Started

end Sys2Proof.Machine

/-! # What a capture word does (R44 to R48, R51, R52). -/

namespace Sys2Proof.Machine

section CaptureEffect
variable {s m : State} {a : Access} {r : StripRecord} {p : IntakePlace} {b : Beat} {v : SlotId} {torn : Bool}

/-- A word of the open row is stored, and a word 1 settles its pixel (R44, R51). -/
theorem State.takeCaptureWord_open (hown : ∀ q, s.iu.pairing = some q → q.Own p) (ho : s.iu.tracker.OpenAt p.row) :
    s.takeCaptureWord p b
      = ((s.withPairing (p.pending b)).storeCapture p b false).settleOwn p b s.iu.pairing := by
  have hlate : (s.pairWord p b).iu.tracker.isLate p.row = false := by
    rw [State.pairWord_own hown]
    exact Bool.eq_false_of_not_eq_true ho.not_late
  rw [State.takeCaptureWord, State.followWord_open hown ho, hlate]

/-- A word 0 of the open row becomes the pending word (R44). -/
theorem State.takeCaptureWord_word0 (hk : p.word = 0) (hown : ∀ q, s.iu.pairing = some q → q.Own p)
    (ho : s.iu.tracker.OpenAt p.row) : s.takeCaptureWord p b
      = (s.withPairing (some ⟨p.row, p.col, b.isFull, b.data⟩)).storeCapture p b false := by
  rw [State.takeCaptureWord_open hown ho, State.settleOwn_word0 hk, IntakePlace.pending, if_pos hk]

/-- Memory after a late word: it is written where its row is resident (R47). -/
def State.lateStored (p : IntakePlace) (b : Beat) (s : State) : Memory :=
  match routeOf s.fl.slots p.row p.col with
  | some v =>
    if (s.slot v).isResident (p.row - (s.slot v).top) then
      s.mem.writeBeat ((s.slot v).bandAddress ((p.row - (s.slot v).top) % (s.slot v).bandLines)
        (p.col - (s.slot v).left) p.word) b
    else s.mem
  | none => s.mem

theorem State.storeCapture_late : s.storeCapture p b true = { s with mem := s.lateStored p b } := by
  unfold State.storeCapture State.lateStored
  cases routeOf s.fl.slots p.row p.col with
  | none => rfl
  | some v =>
    dsimp only
    rw [if_pos rfl]
    split <;> rfl

/-- A late word settles nothing, and is counted once for its access (R47). -/
theorem State.takeCaptureWord_late (hown : ∀ q, s.iu.pairing = some q → q.Own p) (hl : s.iu.tracker.Late p.row)
    (ha : s.upstream = some a) : s.takeCaptureWord p b = { s with
      mem := s.lateStored p b
      ru := (if a.lateCounted then s else s.count lateWrite).ru
      upstream := some { a with lateCounted := true }
      iu := { s.iu with pairing := p.pending b } } := by
  have hlate : (s.pairWord p b).iu.tracker.isLate p.row = true := by
    rw [State.pairWord_own hown]
    exact RowTracker.isLate_iff.mpr hl
  have hru : (if a.lateCounted then s.withPairing (p.pending b) else (s.withPairing (p.pending b)).count lateWrite).ru
      = (if a.lateCounted then s else s.count lateWrite).ru := by
    split
    · rfl
    · exact State.count_ru_congr lateWrite rfl rfl
  rw [State.takeCaptureWord, State.followWord_late hown hl, hlate, State.storeCapture_late,
    State.countLate_eq (s := s.withPairing (p.pending b)) ha, hru]
  refine State.settleOwn_elsewhere ?_ _
  exact hl.not_openAt

theorem State.captureMoved_withPairing (q : Option PendingWord) (row : Nat) :
    (s.withPairing q).captureMoved row = (s.captureMoved row).withPairing q := by
  have hclosed : (s.withPairing q).rowClosed = s.rowClosed.withPairing q := by
    unfold State.rowClosed
    cases hn : s.iu.tracker.complete <;> cases hc : s.iu.tracker.current <;> simp [State.withPairing, hn, hc]
    rw [State.rowWaiting_eq, State.rowWaiting_eq, IntakeUnit.mapHalf_eq, IntakeUnit.mapHalf_eq]
  rw [State.captureMoved, hclosed]
  exact State.eq_of_blocks rfl rfl rfl rfl rfl rfl rfl rfl (State.countSkips_ru rfl rfl) rfl rfl rfl

/-- A word of a higher row has the effect it has in that row, once it is current (R46). -/
theorem State.takeCaptureWord_moved (hp : s.iu.pass = .capturing) (hr : s.iu.strip = some r)
    (hrow : p.row < r.captureRows) (hown : ∀ q, s.iu.pairing = some q → q.Own p) (hb : s.iu.tracker.Below p.row) :
    s.takeCaptureWord p b = (s.captureMoved p.row).advance.takeCaptureWord p b := by
  have hframe := State.advance_eq (s := s.captureMoved p.row) (by
    rw [State.captureMoved, State.retracked, hp]; nofun)
  have hpair : (s.captureMoved p.row).advance.iu.pairing = s.iu.pairing := by rw [hframe]; rfl
  have ho : (s.captureMoved p.row).advance.iu.tracker.OpenAt p.row := by rw [hframe]; exact RowTracker.openAt_fresh
  have hlate : (s.pairWord p b).iu.tracker.isLate p.row = false := by
    rw [State.pairWord_own hown]
    exact Bool.eq_false_of_not_eq_true hb.not_late
  rw [State.takeCaptureWord, State.takeCaptureWord_open (hpair ▸ hown) ho, hpair, State.followWord_moves hown hb,
    State.moveTracker_capturing (s := s.withPairing (p.pending b)) hp hr hrow hb, State.captureMoved_withPairing,
    State.advance_withPairing, hlate]

/-! ## The settling of a pixel by its word 1 -/

/-- A torn pixel in CAPTURING settles alike whatever its samples, and an untorn one by its I sample (R45). -/
theorem State.settled_capturing_congr {row col g g' i i' : Nat} (hp : s.iu.pass = .capturing) (hi : torn = false → i = i') :
    s.settled row col torn g i = s.settled row col torn g' i' := by
  have hhalf : s.pixelHalf row col i torn = s.pixelHalf row col i' torn := by
    cases torn with
    | false => rw [hi rfl]
    | true => rfl
  rw [State.settled_capturing hp, State.settled_capturing hp, State.pixelHalves_eq, State.pixelHalves_eq, hhalf]

/-- A word 1 settles its pixel with its I sample, or torn (R44). -/
theorem State.settleOwn_pixel {pending : Option PendingWord} (hk : p.word = 1)
    (htorn : torn = false ↔ b.isFull = true ∧ ∃ w, pending = some ⟨p.row, p.col, true, w⟩) :
    ∃ g i, (torn = false → i = b.data.toNat / 65536)
      ∧ ∀ m : State, m.settleOwn p b pending = m.settlePixel p.row p.col torn g i := by
  cases torn with
  | false =>
    obtain ⟨hb, w, rfl⟩ := htorn.mp rfl
    exact ⟨_, _, fun _ => rfl, fun m => State.settleOwn_untorn hk hb⟩
  | true => exact ⟨0, 0, nofun, fun m => State.settleOwn_torn hk fun h => Bool.noConfusion (htorn.mpr h)⟩

/-- The frame of a capture pass (R12). -/
theorem State.captureFrame (hp : s.iu.pass = .capturing) (hr : s.iu.strip = some r) :
    intakeFrame s.iu.pass s.iu.strip = some ⟨r.capturePitch, r.captureWidth, r.captureRows⟩ := by
  rw [hp, hr]
  rfl

/-- What a word that is not late changes by its storage and by what begins with it. -/
theorem State.storeCapture_eq (hp : s.iu.pass ≠ .draining) : s.storeCapture p b false = { s with
    mem := (s.storeCapture p b false).mem
    upstream := (s.storeCapture p b false).upstream
    fl := (s.storeCapture p b false).fl
    iu := { s.iu with
      startQueue := (s.storeCapture p b false).iu.startQueue
      halfA := (s.storeCapture p b false).iu.halfA
      halfB := (s.storeCapture p b false).iu.halfB
      tracker := { s.iu.tracker with begun := s.iu.tracker.begun || (routeOf s.fl.slots p.row p.col).isSome } }
    bt := { s.bt with
      spans := (s.storeCapture p b false).bt.spans
      tally := (s.storeCapture p b false).bt.tally
      openTable := (s.storeCapture p b false).bt.openTable
      previous := (s.storeCapture p b false).bt.previous
      classifying := (s.storeCapture p b false).bt.classifying } } := by
  rcases State.storeCapture_cases (s := s) (p := p) (b := b) with h | ⟨-, -, h⟩ <;> rw [h]
  · rw [State.captureStored_eq]
  · rw [State.advance_eq (by rw [State.captureStored_eq]; exact hp), State.captureStored_eq]

/-- Neither the storage of a word nor what begins by it moves the pass, the strip or the row that is open. -/
theorem State.storeCapture_follows (hp : s.iu.pass ≠ .draining) : (s.storeCapture p b false).iu.pass = s.iu.pass
    ∧ (s.storeCapture p b false).iu.strip = s.iu.strip
    ∧ (s.storeCapture p b false).iu.tracker.current = s.iu.tracker.current
    ∧ (s.storeCapture p b false).iu.tracker.complete = s.iu.tracker.complete
    ∧ (s.storeCapture p b false).iu.tracker.settled = s.iu.tracker.settled := by
  rw [State.storeCapture_eq hp]
  exact ⟨rfl, rfl, rfl, rfl, rfl⟩

/-- What a word 1 of the open row leaves before its pixel settles: it is stored, and nothing is pending (R44, R51). -/
def State.captureHeld (p : IntakePlace) (b : Beat) (s : State) : State := (s.withPairing none).captureStored p b

/-- The word 1 of a pixel of the open row is stored and settles its pixel (R44, R45). -/
theorem State.takeCaptureWord_settles (hp : s.iu.pass = .capturing) (hr : s.iu.strip = some r) (hk : p.word = 1)
    (hown : ∀ q, s.iu.pairing = some q → q.Own p) (ho : s.iu.tracker.OpenAt p.row)
    (htorn : torn = false ↔ b.isFull = true ∧ ∃ q, s.iu.pairing = some ⟨p.row, p.col, true, q⟩) :
    s.takeCaptureWord p b =
      if s.iu.tracker.settled + 1 = r.captureWidth then
        (((s.withPairing none).storeCapture p b false).settled p.row p.col torn 0 (b.data.toNat / 65536)).completeOpenRow
      else ((s.withPairing none).storeCapture p b false).settled p.row p.col torn 0 (b.data.toNat / 65536) := by
  obtain ⟨g, i, hi, hset⟩ := State.settleOwn_pixel hk htorn
  obtain ⟨hpass, hstrip, hcurrent, hcomplete, hsettled⟩ :=
    State.storeCapture_follows (s := s.withPairing none) (p := p) (b := b) (hp.trans_ne nofun)
  have hp' := hpass.trans hp
  have ho' : ((s.withPairing none).storeCapture p b false).iu.tracker.OpenAt p.row :=
    ⟨hcurrent.trans ho.1, hcomplete.trans ho.2⟩
  have hframe := State.captureFrame hp' (hstrip.trans hr)
  rw [State.takeCaptureWord_open hown ho, IntakePlace.pending, if_neg (by rw [hk]; decide), hset,
    ← State.settled_capturing_congr (g := g) hp' hi]
  split
  · rename_i hfill
    exact State.settlePixel_fills ho' hframe (hsettled.symm ▸ hfill)
  · rename_i hfill
    refine State.settlePixel_open ho' fun f hf => ?_
    obtain rfl := Option.some.inj (hframe.symm.trans hf)
    exact hsettled.symm ▸ hfill

/-- A pixel that fills its row completes it, and the Blemish Tracker begins what it begins then (R48, R92). -/
theorem State.takeCaptureWord_fills (hp : s.iu.pass = .capturing) (hr : s.iu.strip = some r) (hk : p.word = 1)
    (hown : ∀ q, s.iu.pairing = some q → q.Own p) (ho : s.iu.tracker.OpenAt p.row)
    (htorn : torn = false ↔ b.isFull = true ∧ ∃ q, s.iu.pairing = some ⟨p.row, p.col, true, q⟩)
    (hn : s.iu.tracker.settled + 1 = r.captureWidth) : s.takeCaptureWord p b =
      ((s.captureHeld p b).settled p.row p.col torn 0 (b.data.toNat / 65536)).completeOpenRow := by
  rw [State.takeCaptureWord_settles hp hr hk hown ho htorn, if_pos hn, State.captureHeld]
  rcases State.storeCapture_cases (s := s.withPairing none) (p := p) (b := b) with h | ⟨-, -, h⟩ <;> rw [h]
  refine State.settled_advance_completeOpenRow (r := r) ?_ ?_ ?_ <;> rw [State.captureStored_eq]
  · exact hp
  · exact hr
  · exact ho

end CaptureEffect

end Sys2Proof.Machine

/-! # A word of a capture pixel stored, settled and moving the row (R44 to R48, R51, R52, R54, R55, R92). -/

namespace Sys2Proof.Machine

/-! ## What begins by a word beside its storage -/

section Begins
variable {s : State} {a : Access} {p : IntakePlace} {b : Beat} {v : SlotId} {x : Slot} {row : Nat}

/-- A half whose row has not completed is none that begins to be classified (R56, R92). -/
theorem State.advance_halfA (hp : s.iu.pass ≠ .draining) (hrow : s.iu.tracker.hasCompleted row = false)
    (h : s.iu.halfA.holds row = true) : s.advance.iu.halfA = s.iu.halfA := by
  by_cases hready : ∃ v, s.HasReadyRow v
  · obtain ⟨v, hv⟩ := hready
    have hne : row ≠ (s.slot v).top + (s.slot v).classified := by
      rintro rfl
      exact absurd (hrow.symm.trans (State.rowReady_iff.mp hv.ready).2) nofun
    rw [State.advance_of_ready hv, State.beginNext_eq, IntakeUnit.mapHalf_halfA, IrHalf.holds_eq_false hne h]
    rfl
  · rw [State.advance_of_none hp (not_exists.mp hready)]

theorem State.advance_halfB (hp : s.iu.pass ≠ .draining) (hrow : s.iu.tracker.hasCompleted row = false)
    (h : s.iu.halfB.holds row = true) : s.advance.iu.halfB = s.iu.halfB := by
  by_cases hready : ∃ v, s.HasReadyRow v
  · obtain ⟨v, hv⟩ := hready
    have hne : row ≠ (s.slot v).top + (s.slot v).classified := by
      rintro rfl
      exact absurd (hrow.symm.trans (State.rowReady_iff.mp hv.ready).2) nofun
    rw [State.advance_of_ready hv, State.beginNext_eq, IntakeUnit.mapHalf_halfB, IrHalf.holds_eq_false hne h, Bool.and_false]
    rfl
  · rw [State.advance_of_none hp (not_exists.mp hready)]

theorem RowTracker.OpenAt.not_hasCompleted {t : RowTracker} (h : t.OpenAt row) : t.hasCompleted row = false := by
  simp [RowTracker.hasCompleted, h.1, h.2]

/-- The first routed word of a row takes an EMPTY half, if there is one, whatever begins by it (R55). -/
theorem State.storeCapture_takesHalf (hp : s.iu.pass ≠ .draining) (ho : s.iu.tracker.OpenAt p.row)
    (hb : s.iu.tracker.begun = false) (hv : routeOf s.fl.slots p.row p.col = some v) (hx : s.fl.slots.get v = x) :
    s.iu.TakesHalf (s.storeCapture p b false).iu (IrHalf.freshFor p.row v x) := by
  have hhalves := (State.captureStored_rowBegun (p := p) (b := b) hb).2 v x hv hx
  obtain ⟨hA, hB⟩ := hhalves
  have hholds : (IrHalf.freshFor p.row v x).holds p.row = true := by simp [IrHalf.freshFor, IrHalf.holds]
  have hcompleted : (s.captureStored p b).iu.tracker.hasCompleted p.row = false := by
    rw [State.captureStored_eq]
    exact RowTracker.OpenAt.not_hasCompleted (t := { s.iu.tracker with begun := _ }) ho
  have hpass : (s.captureStored p b).iu.pass ≠ .draining := by rw [State.captureStored_eq]; exact hp
  refine ⟨fun hempty => ?_, fun hne hempty => ?_⟩
  · rw [if_pos hempty] at hA
    rcases State.storeCapture_cases (s := s) (p := p) (b := b) with h | ⟨-, -, h⟩ <;> rw [h]
    · exact hA
    · rw [State.advance_halfA hpass hcompleted (by rw [hA]; exact hholds), hA]
  · rw [if_pos ⟨hne, hempty⟩] at hB
    rcases State.storeCapture_cases (s := s) (p := p) (b := b) with h | ⟨-, -, h⟩ <;> rw [h]
    · exact hB
    · rw [State.advance_halfB hpass hcompleted (by rw [hB]; exact hholds), hB]

/-- A routed word is stored alike, whatever begins by it (R51, R52, R108). -/
theorem State.storedInto_storeCapture (hp : s.iu.pass ≠ .draining) (hv : routeOf s.fl.slots p.row p.col = some v)
    (hx : s.fl.slots.get v = x) : s.StoredInto (s.storeCapture p b false) v x p.row p.col p.word b := by
  have hstored := State.storedInto_captureStored (p := p) (b := b) hv hx
  rcases State.storeCapture_cases (s := s) (p := p) (b := b) with h | ⟨-, -, h⟩ <;> rw [h]
  · exact hstored
  · have hframe := State.advance_eq (s := s.captureStored p b) (by rw [State.captureStored_eq]; exact hp)
    exact hstored.congr (by rw [hframe]) (by rw [hframe]) (by rw [hframe]) (by rw [hframe])

/-- A row that is ready once a word is stored was so before, but for the slot being ACTIVE (R56, R92). -/
theorem State.HasReadyRow.of_captureStored (h : (s.captureStored p b).HasReadyRow v) : s.TrackerFree ∧ s.NothingPending
    ∧ (s.slot v).classified < (s.slot v).bottom - (s.slot v).top + 1
    ∧ s.iu.tracker.hasCompleted ((s.slot v).top + (s.slot v).classified) = true := by
  obtain ⟨hfree, hn, -, hready⟩ := h
  obtain ⟨hin, hdone⟩ := State.rowReady_iff.mp hready
  have hkeeps := State.captureStored_keeps (s := s) (p := p) (b := b) v
  rw [Slot.height, hkeeps.bottom, hkeeps.top, hkeeps.classified] at hin
  rw [hkeeps.top, hkeeps.classified] at hdone
  have hframe := State.captureStored_eq (s := s) (p := p) (b := b)
  have hbt : (s.captureStored p b).bt.classifying = s.bt.classifying ∧ (s.captureStored p b).bt.frameEnd = s.bt.frameEnd
      ∧ (s.captureStored p b).bt.restartPending = s.bt.restartPending
      ∧ (s.captureStored p b).bt.closePending = s.bt.closePending := by
    rw [hframe]
    exact ⟨rfl, rfl, rfl, rfl⟩
  obtain ⟨hclass, hframeEnd, hrestart, hclose⟩ := hbt
  rw [State.TrackerFree, hclass, hframeEnd] at hfree
  rw [State.NothingPending, hrestart, hclose] at hn
  rw [hframe] at hdone
  exact ⟨hfree, hn, hin, hdone⟩

/-- Nothing begins by a word whose slot has started. -/
theorem State.storeCapture_eq_captureStored
    (h : ∀ v, routeOf s.fl.slots p.row p.col = some v → (s.slot v).state = .active ∨ v ∈ s.iu.startQueue) :
    s.storeCapture p b false = s.captureStored p b := by
  cases hv : routeOf s.fl.slots p.row p.col with
  | none => rw [State.storeCapture_unrouted hv, State.captureStored_none hv]
  | some v => rw [State.storeCapture_started hv (h v hv), State.captureStored_started hv (h v hv)]

end Begins

/-! ## Word 0 of a pixel whose slot has started -/

section Word0
variable {s : State} {p : IntakePlace} {b : Beat} {v : SlotId} {x : Slot} {row : Nat}

theorem State.rowBegun_begun (hb : s.iu.tracker.begun = true) : s.rowBegun row v = s.iu := by
  have hsame : { s.iu.tracker with begun := true } = s.iu.tracker := by rw [← hb]
  simp [State.rowBegun, hb, hsame]

/-- The first routed word of a row takes half A if it is EMPTY, else half B if that is (R55; which of two is log 9). -/
theorem State.rowBegun_first (hb : s.iu.tracker.begun = false) : s.rowBegun row v = { s.iu with
    tracker := { s.iu.tracker with begun := true }
    halfA := if s.iu.halfA.state = .empty then IrHalf.freshFor row v (s.slot v) else s.iu.halfA
    halfB := if s.iu.halfA.state ≠ .empty ∧ s.iu.halfB.state = .empty then IrHalf.freshFor row v (s.slot v)
      else s.iu.halfB } := by
  simp only [State.rowBegun, hb, true_and]

/-- A word of a row in the band already only writes its bytes (R51). -/
theorem State.wordStored_old (hb : s.iu.tracker.begun = true) (hx : ¬(s.slot v).raisesNewest (p.row - (s.slot v).top) = true) :
    s.wordStored v p b = { s with mem := (s.wordStored v p b).mem } := by
  have hslots : s.fl.slots.set v.val (s.slot v) = s.fl.slots := slots_set_get
  simp [State.wordStored, State.rowBegun_begun hb, Slot.withRow_of_not_raises hx, hslots, spansAfter, hx, Access.sees]

/-- A word of a new row raises Ymax (R51, R108, R127). -/
theorem State.wordStored_new {a : Access} (ha : s.upstream = some a) (hb : s.iu.tracker.begun = true)
    (hx : (s.slot v).raisesNewest (p.row - (s.slot v).top) = true) : s.wordStored v p b = { s with
      mem := (s.wordStored v p b).mem
      upstream := some { a with view := a.view.raiseNewest v (p.row - (s.slot v).top) }
      fl := { s.fl with slots := s.fl.slots.set v.val { s.slot v with newest := some (p.row - (s.slot v).top) } }
      bt := { s.bt with
        spans := s.bt.spans.filter fun sp =>
          decide (sp.slot ≠ v) || decide (p.row - (s.slot v).top < sp.row + (s.slot v).bandLines) } } := by
  simp only [State.wordStored, ha, State.rowBegun_begun hb, Slot.withRow_of_raises hx, spansAfter, Access.sees, if_pos hx,
    Option.map_some]

theorem Slot.raisesNewest_iff {y : Nat} : x.raisesNewest y = true ↔ ∀ n, x.newest = some n → n < y := by
  unfold Slot.raisesNewest
  cases x.newest <;> simp

end Word0

/-! ## The settling of a pixel -/

section Settled
variable {s : State} {a : Access} {p : IntakePlace} {b : Beat} {v : SlotId} {torn : Bool} {row col g i : Nat}

theorem State.wordWritten_upstream {handed : List HandOver} (h : s.upstream = some a) :
    (s.wordWritten handed).upstream = some (a.wroteWord handed) :=
  congrArg State.upstream (State.wordWritten_some h handed)

theorem IntakeUnit.mapHalf_id {u : IntakeUnit} : u.mapHalf id row = u := by simp [IntakeUnit.mapHalf_eq]

/-- Storage leaves what a pixel of the row does to its half (R45). -/
theorem State.captureStored_pixelHalf :
    (s.captureStored p b).pixelHalf row col i torn = s.pixelHalf row col i torn := by
  unfold State.pixelHalf
  rw [State.captureStored_routeOf]
  split
  · rename_i v hv
    have hkeeps := State.captureStored_keeps (s := s) (p := p) (b := b) v
    rw [hkeeps.left, hkeeps.clearLevel]
  · rfl

/-- R45 and R51 of word 1 of a pixel of the open row. -/
theorem State.pixelStored_settled (hp : s.iu.pass = .capturing) (ha : s.upstream = some a) (hk : p.word = 1)
    (hrow : p.row = row) (hcol : p.col = col) :
    s.PixelStored a row col b torn
      (((s.captureHeld p b).settled row col torn g (b.data.toNat / 65536)).wordWritten []) := by
  subst hrow hcol
  have hheld : s.captureHeld p b = (s.captureStored p b).withPairing none := State.captureStored_withPairing none
  have hp' : (s.captureHeld p b).iu.pass = .capturing := by rw [hheld, State.captureStored_eq]; exact hp
  have hru : (if torn then (s.captureHeld p b).count tornPixel else s.captureHeld p b).ru
      = (if torn then s.count tornPixel else s).ru := by
    rw [hheld]
    split
    · exact State.count_ru_congr tornPixel (by rw [State.captureStored_eq]; rfl) (by rw [State.captureStored_eq]; rfl)
    · rw [State.captureStored_eq]
      rfl
  have hpixel : (s.captureHeld p b).pixelHalves p.row p.col (b.data.toNat / 65536) torn
      = (s.captureHeld p b).iu.mapHalf (s.pixelHalf p.row p.col (b.data.toNat / 65536) torn) p.row := by
    rw [State.pixelHalves_eq, hheld]
    exact congrArg (fun f => IntakeUnit.mapHalf f p.row _) State.captureStored_pixelHalf
  have hm := State.settled_capturing (row := p.row) (col := p.col) (torn := torn) (g := g) (i := b.data.toNat / 65536) hp'
  rw [State.pixelCounted, hru, hpixel] at hm
  refine ⟨(s.captureStored p b).iu, fun hb => State.captureStored_begun hb, fun hb => State.captureStored_rowBegun hb,
    ?_, ?_, ?_⟩
  · rw [hm, hheld, State.captureStored_eq]
    rfl
  · intro hv
    have hid : s.pixelHalf p.row p.col (b.data.toNat / 65536) torn = id := by simp [State.pixelHalf, hv]
    rw [hm, hid, IntakeUnit.mapHalf_id, hheld, State.captureStored_none hv]
    refine ⟨rfl, rfl, rfl, State.wordWritten_upstream ?_, rfl, rfl, rfl⟩
    exact ha
  · rintro v x hv hx
    have hafter : (fun h => IrHalf.afterPixel h (p.col - x.left) x.clearLevel (b.data.toNat / 65536) torn)
        = s.pixelHalf p.row p.col (b.data.toNat / 65536) torn := by
      simp [State.pixelHalf, hv, State.slot, hx]
    have hstored := State.storedInto_captureStored (b := b) hv hx
    have hup := State.captureStored_upstream (b := b) hv ha
    rw [hafter, hm, hheld, ← hk]
    refine ⟨hstored.congr rfl rfl rfl rfl, ?_, IntakeUnit.SameHalves.halfChanged ⟨rfl, rfl⟩⟩
    refine State.wordWritten_upstream (a := a.sees v x (p.row - x.top)) ?_
    rw [← hx]
    exact hup

/-- What a word 1 leaves as its pixel has settled of the pass and the row that is open. -/
theorem State.captureHeld_settled_frame (hp : s.iu.pass = .capturing) :
    ((s.captureHeld p b).settled row col torn g i).iu.pass = s.iu.pass
    ∧ ((s.captureHeld p b).settled row col torn g i).iu.strip = s.iu.strip
    ∧ ((s.captureHeld p b).settled row col torn g i).iu.tracker.current = s.iu.tracker.current
    ∧ ((s.captureHeld p b).settled row col torn g i).iu.pairing = none := by
  have hp' : (s.captureHeld p b).iu.pass = .capturing := by rw [State.captureHeld, State.captureStored_eq]; exact hp
  rw [State.settled_capturing hp', State.captureHeld, State.captureStored_eq]
  exact ⟨rfl, rfl, rfl, rfl⟩

end Settled

end Sys2Proof.Machine

/-! # A capture word that moves the row tracker (R46, R48, R55, R92). -/

namespace Sys2Proof.Machine

section Moved
variable {s : State} {r : StripRecord} {p : IntakePlace} {b : Beat} {v : SlotId} {row : Nat}

theorem State.captureMoved_eq : s.captureMoved row = { s with
    ru := (s.countSkips (s.iu.tracker.skips row)).ru
    iu := { s.iu with halfA := s.rowClosed.iu.halfA, halfB := s.rowClosed.iu.halfB, tracker := .fresh row } } := by
  rw [State.captureMoved, State.rowClosed_eq]
  rfl

/-- The rows below the new one have completed (R46, R92). -/
theorem State.captureMoved_hasReadyRow_iff : (s.captureMoved row).HasReadyRow v ↔
    s.TrackerFree ∧ s.NothingPending ∧ activeSlot s.fl.slots = some v
      ∧ (s.slot v).classified < (s.slot v).bottom - (s.slot v).top + 1 ∧ (s.slot v).top + (s.slot v).classified < row := by
  rw [State.captureMoved_eq]
  refine ⟨fun ⟨hfree, hn, hv, hready⟩ => ?_, fun ⟨hfree, hn, hv, hin, hbelow⟩ => ⟨hfree, hn, hv, ?_⟩⟩
  · obtain ⟨hin, hdone⟩ := State.rowReady_iff.mp hready
    exact ⟨hfree, hn, hv, hin, RowTracker.hasCompleted_fresh.mp hdone⟩
  · exact State.rowReady_iff.mpr ⟨hin, RowTracker.hasCompleted_fresh.mpr hbelow⟩

theorem RowTracker.skips_pos {t : RowTracker}
    (h : t.current = none ∧ 0 < row ∨ ∃ c, t.current = some c ∧ c + 1 < row) : t.skips row ≠ 0 := by
  rcases h with ⟨hc, hrow⟩ | ⟨c, hc, hrow⟩ <;> rw [RowTracker.skips, hc] <;> dsimp only <;> omega

theorem RowTracker.skips_zero {t : RowTracker}
    (h : t.current = none ∧ row = 0 ∨ ∃ c, t.current = some c ∧ c + 1 = row) : t.skips row = 0 := by
  rcases h with ⟨hc, hrow⟩ | ⟨c, hc, hrow⟩ <;> rw [RowTracker.skips, hc] <;> dsimp only <;> omega

/-- R46, R48 and R92 of a word that moves the row tracker. -/
theorem State.rowMoved_captureMoved (hp : s.iu.pass ≠ .draining) : s.RowMoved (s.captureMoved row).advance row := by
  have hpass : (s.captureMoved row).iu.pass ≠ .draining := hp
  refine ⟨s.rowClosed.iu, s.captureMoved row, State.rowClosed_rowClosed, State.captureMoved_eq, fun h => ?_, fun h => ?_,
    fun h => State.advance_of_none hpass fun v hv => ?_, ?_⟩
  · rw [State.captureMoved_eq, State.countSkips, if_neg (RowTracker.skips_pos h)]
  · rw [State.captureMoved_eq, State.countSkips, if_pos (RowTracker.skips_zero h)]
  · obtain ⟨hfree, hn, hactive, hin, hbelow⟩ := State.captureMoved_hasReadyRow_iff.mp hv
    rcases h with h | h | h
    · exact h hfree
    · exact h hn
    · have := h v _ hactive rfl
      rw [State.slot] at hin hbelow
      omega
  · rintro v x hfree hn hv rfl hin hbelow
    have hready := State.captureMoved_hasReadyRow_iff.mpr ⟨hfree, hn, hv, hin, hbelow⟩
    have hkeeps : (s.captureMoved row).slot v = s.fl.slots.get v ∧ (s.captureMoved row).cu = s.cu
        ∧ s.bt = (s.captureMoved row).bt ∧ s.rowClosed.iu.SameHalves (s.captureMoved row).iu := by
      rw [State.captureMoved_eq]
      exact ⟨rfl, rfl, rfl, rfl, rfl⟩
    obtain ⟨hslot, hcu, hbt, hhalves⟩ := hkeeps
    refine ⟨_, _, hslot ▸ State.beginNext_classifiesNext (v := v) hhalves ⟨s.cu.posted, hcu⟩, ?_⟩
    rw [State.advance_of_ready hready, State.beginNext_eq, IntakeUnit.mapHalf_eq, hbt]

/-! ## A word 0 that moves the tracker and is stored -/

/-- What begins to be classified was not EMPTY (R55). -/
theorem State.advance_empty_iff (hp : s.iu.pass ≠ .draining) : (s.advance.iu.halfA.state = .empty ↔ s.iu.halfA.state = .empty)
    ∧ (s.advance.iu.halfB.state = .empty ↔ s.iu.halfB.state = .empty) := by
  by_cases hready : ∃ v, s.HasReadyRow v
  · obtain ⟨v, hv⟩ := hready
    rw [State.advance_of_ready hv]
    exact IntakeUnit.mapHalf_empty_iff IrHalf.keepsRow_classified
  · rw [State.advance_of_none hp (not_exists.mp hready)]
    exact ⟨Iff.rfl, Iff.rfl⟩

theorem State.rowClosed_empty_iff : (s.rowClosed.iu.halfA.state = .empty ↔ s.iu.halfA.state = .empty)
    ∧ (s.rowClosed.iu.halfB.state = .empty ↔ s.iu.halfB.state = .empty) := by
  unfold State.rowClosed
  split
  · exact ⟨Iff.rfl, Iff.rfl⟩
  · split
    · exact IntakeUnit.mapHalf_empty_iff (u := { s.iu with tracker := s.iu.tracker.completed }) IrHalf.keepsRow_afterRow
    · exact ⟨Iff.rfl, Iff.rfl⟩

/-- What is said of a word's storage is said of any state with the same memory, slots, spans and frame. -/
theorem State.StoredInto.congr_left {m t : State} {x : Slot} {col k : Nat} (h : m.StoredInto t v x row col k b)
    (hmem : m.mem = s.mem) (hfl : m.fl = s.fl) (hq : m.iu.startQueue = s.iu.startQueue) (hcu : m.cu = s.cu)
    (hbt : m.bt = { s.bt with classifying := m.bt.classifying }) : s.StoredInto t v x row col k b := by
  unfold State.StoredInto State.SameFrame at h ⊢
  rw [hmem, hfl, hq, hcu, hbt] at h
  exact h

theorem IntakeUnit.TakesHalf.congr {u u' w : IntakeUnit} {half : IrHalf} (h : u.TakesHalf w half)
    (hA : u.halfA.state = .empty ↔ u'.halfA.state = .empty) (hB : u.halfB.state = .empty ↔ u'.halfB.state = .empty) :
    u'.TakesHalf w half := by
  obtain ⟨hTA, hTB⟩ := h
  exact ⟨fun hempty => hTA (hA.mpr hempty), fun hne hempty => hTB (fun hn => hne (hA.mp hn)) (hB.mpr hempty)⟩

theorem IntakeUnit.RowBegun.congr {u u' w : IntakeUnit} {slots : Vector Slot 8} {col : Nat}
    (h : u.RowBegun w slots row col) (hs : u'.SameHalves u) : u'.RowBegun w slots row col := by
  obtain ⟨hA, hB⟩ := hs
  unfold IntakeUnit.RowBegun at h ⊢
  rw [hA, hB] at h
  exact h

/-- The state as a word 0 has moved the tracker and is pending, before it is stored (R44, R46). -/
def State.movedPending (p : IntakePlace) (b : Beat) (s : State) : State :=
  (s.captureMoved p.row).advance.withPairing (some ⟨p.row, p.col, b.isFull, b.data⟩)

theorem State.movedPending_eq (hp : s.iu.pass ≠ .draining) : s.movedPending p b = { s with
    ru := (s.countSkips (s.iu.tracker.skips p.row)).ru
    iu := { s.iu with
      pairing := some ⟨p.row, p.col, b.isFull, b.data⟩
      tracker := .fresh p.row
      halfA := (s.captureMoved p.row).advance.iu.halfA
      halfB := (s.captureMoved p.row).advance.iu.halfB }
    bt := { s.bt with classifying := (s.captureMoved p.row).advance.bt.classifying } } := by
  rw [State.movedPending, State.advance_eq (s := s.captureMoved p.row) hp, State.captureMoved_eq]
  rfl

theorem State.movedPending_pass (hp : s.iu.pass ≠ .draining) : (s.movedPending p b).iu.pass ≠ .draining := by
  rw [State.movedPending_eq hp]
  exact hp

/-- A word 0 of a higher row (R44, R46, R51). -/
theorem State.takeCaptureWord_moves0 (hp : s.iu.pass = .capturing) (hr : s.iu.strip = some r)
    (hrow : p.row < r.captureRows) (hk : p.word = 0) (hq : s.iu.pairing = none) (hb : s.iu.tracker.Below p.row) :
    s.takeCaptureWord p b = (s.movedPending p b).storeCapture p b false := by
  have hframe := State.advance_eq (s := s.captureMoved p.row) (hp.trans_ne nofun)
  rw [State.takeCaptureWord_moved hp hr hrow (by rw [hq]; nofun) hb, State.takeCaptureWord_word0 hk]
  · rfl
  · rw [hframe]
    intro q h
    exact absurd (h.symm.trans hq) nofun
  · rw [hframe]
    exact RowTracker.openAt_fresh

/-- What such a word leaves of the tracker, the pairing, the counts and the frame end (R44, R46). -/
theorem State.movedPending_stored_keeps (hp : s.iu.pass ≠ .draining) :
    ((s.movedPending p b).storeCapture p b false).iu.tracker
        = ⟨some p.row, 0, false, (routeOf s.fl.slots p.row p.col).isSome, 0, 0⟩
      ∧ ((s.movedPending p b).storeCapture p b false).iu.pairing = some ⟨p.row, p.col, b.isFull, b.data⟩
      ∧ ((s.movedPending p b).storeCapture p b false).ru = (s.countSkips (s.iu.tracker.skips p.row)).ru
      ∧ ((s.movedPending p b).storeCapture p b false).bt.frameEnd = s.bt.frameEnd := by
  rw [State.storeCapture_eq (State.movedPending_pass hp)]
  generalize (s.movedPending p b).storeCapture p b false = stored
  rw [State.movedPending_eq hp]
  exact ⟨rfl, rfl, rfl, rfl⟩

theorem State.movedPending_storedInto {x : Slot} (hp : s.iu.pass ≠ .draining) (hv : routeOf s.fl.slots p.row p.col = some v)
    (hx : s.fl.slots.get v = x) : s.StoredInto ((s.movedPending p b).storeCapture p b false) v x p.row p.col p.word b := by
  have hframe := State.movedPending_eq (p := p) (b := b) hp
  have hfl : (s.movedPending p b).fl = s.fl := by rw [hframe]
  refine State.StoredInto.congr_left (State.storedInto_storeCapture (State.movedPending_pass hp) (by rw [hfl]; exact hv)
    (by rw [hfl]; exact hx)) ?_ hfl ?_ ?_ ?_ <;> rw [hframe]

theorem State.movedPending_takesHalf {x : Slot} (hp : s.iu.pass ≠ .draining) (hv : routeOf s.fl.slots p.row p.col = some v)
    (hx : s.fl.slots.get v = x) :
    s.iu.TakesHalf ((s.movedPending p b).storeCapture p b false).iu (IrHalf.freshFor p.row v x) := by
  have hframe := State.movedPending_eq (p := p) (b := b) hp
  have hfl : (s.movedPending p b).fl = s.fl := by rw [hframe]
  have htakes := State.storeCapture_takesHalf (p := p) (b := b) (v := v) (x := x) (State.movedPending_pass hp)
    (by rw [hframe]; exact RowTracker.openAt_fresh) (by rw [hframe]; rfl) (by rw [hfl]; exact hv) (by rw [hfl]; exact hx)
  obtain ⟨hA, hB⟩ := State.advance_empty_iff (s := s.captureMoved p.row) hp
  obtain ⟨hA', hB'⟩ := State.rowClosed_empty_iff (s := s)
  exact htakes.congr (hA.trans hA') (hB.trans hB')

/-- A word 0 of a higher row, by which no row begins to be classified: only its own row begins (R55, R92). -/
theorem State.movedPending_unready {w : IntakeUnit} (hp : s.iu.pass ≠ .draining) (hw : s.RowClosed w)
    (h : ¬s.TrackerFree ∨ ¬s.NothingPending
      ∨ ∀ v x, (activeSlot s.fl.slots = some v ∨ activeSlot s.fl.slots = none ∧ routeOf s.fl.slots p.row p.col = some v) →
          s.fl.slots.get v = x → x.bottom - x.top + 1 ≤ x.classified ∨ p.row ≤ x.top + x.classified) :
    w.RowBegun ((s.movedPending p b).storeCapture p b false).iu s.fl.slots p.row p.col
      ∧ ((s.movedPending p b).storeCapture p b false).bt.classifying = s.bt.classifying := by
  have hidle : ∀ v, (activeSlot s.fl.slots = some v ∨ activeSlot s.fl.slots = none ∧ routeOf s.fl.slots p.row p.col = some v) →
      s.TrackerFree → s.NothingPending → ¬((s.slot v).classified < (s.slot v).bottom - (s.slot v).top + 1
        ∧ (s.slot v).top + (s.slot v).classified < p.row) := by
    rintro v hv hfree hn ⟨hin, hbelow⟩
    have := (h.resolve_left (not_not_intro hfree)).resolve_left (not_not_intro hn) v _ hv rfl
    rw [State.slot] at hin hbelow
    omega
  have hstill : (s.captureMoved p.row).advance = s.captureMoved p.row := State.advance_of_none hp fun v hv => by
    obtain ⟨hfree, hn, hactive, hready⟩ := State.captureMoved_hasReadyRow_iff.mp hv
    exact hidle v (.inl hactive) hfree hn hready
  have hm : s.movedPending p b
      = { s with
          ru := (s.countSkips (s.iu.tracker.skips p.row)).ru
          iu := { s.iu with
            pairing := some ⟨p.row, p.col, b.isFull, b.data⟩
            tracker := .fresh p.row
            halfA := s.rowClosed.iu.halfA
            halfB := s.rowClosed.iu.halfB } } := by
    rw [State.movedPending, hstill, State.captureMoved_eq]
    rfl
  have hstored : (s.movedPending p b).storeCapture p b false = (s.movedPending p b).captureStored p b := by
    rcases State.storeCapture_cases (s := s.movedPending p b) (p := p) (b := b) with hc | ⟨hnone, ⟨v, hv, hactive⟩, hc⟩
    · exact hc
    · rw [hc]
      refine State.advance_of_none ?_ fun u hu => ?_
      · have hpass := State.movedPending_pass (p := p) (b := b) hp
        rw [State.captureStored_eq]
        exact hpass
      · obtain rfl : v = u := Option.some.inj (hactive.symm.trans hu.active)
        obtain ⟨hfree, hn, hin, hdone⟩ := hu.of_captureStored
        rw [hm] at hnone hv hfree hn hin hdone
        exact hidle v (.inr ⟨hnone, hv⟩) hfree hn ⟨hin, RowTracker.hasCompleted_fresh.mp hdone⟩
  rw [hstored]
  refine ⟨?_, ?_⟩
  · have hbegun := State.captureStored_rowBegun (s := s.movedPending p b) (p := p) (b := b) (by rw [hm]; rfl)
    have hhalves : w.SameHalves (s.movedPending p b).iu := by
      obtain ⟨hA, hB⟩ := hw.sameHalves
      rw [hm]
      exact ⟨hA.symm, hB.symm⟩
    have hfl : (s.movedPending p b).fl = s.fl := by rw [hm]
    rw [hfl] at hbegun
    exact hbegun.congr hhalves
  · rw [State.captureStored_eq, hm]

/-- A word 0 of a higher row, by which the next row of the ACTIVE slot begins to be classified (R55, R92). -/
theorem State.movedPending_ready {w : IntakeUnit} (hp : s.iu.pass ≠ .draining) (hw : s.RowClosed w) (hfree : s.TrackerFree)
    (hn : s.NothingPending) (hv : activeSlot s.fl.slots = some v)
    (hin : (s.slot v).classified < (s.slot v).bottom - (s.slot v).top + 1)
    (hbelow : (s.slot v).top + (s.slot v).classified < p.row) :
    ∃ c w', s.ClassifiesNext w w' v (s.slot v) c
      ∧ ((s.movedPending p b).storeCapture p b false).bt.classifying = some c
      ∧ w'.RowBegun ((s.movedPending p b).storeCapture p b false).iu s.fl.slots p.row p.col := by
  have hready := State.captureMoved_hasReadyRow_iff.mpr ⟨hfree, hn, hv, hin, hbelow⟩
  have hkeeps : (s.captureMoved p.row).slot v = s.slot v ∧ (s.captureMoved p.row).cu = s.cu
      ∧ w.SameHalves (s.captureMoved p.row).iu := by
    obtain ⟨hA, hB⟩ := hw.sameHalves
    rw [State.captureMoved_eq]
    exact ⟨rfl, rfl, hA.symm, hB.symm⟩
  obtain ⟨hslot, hcu, hhalves⟩ := hkeeps
  have hframe := State.movedPending_eq (p := p) (b := b) hp
  have hstored : (s.movedPending p b).storeCapture p b false = (s.movedPending p b).captureStored p b := by
    rcases State.storeCapture_cases (s := s.movedPending p b) (p := p) (b := b) with hc | ⟨hnone, -, -⟩
    · exact hc
    · rw [hframe] at hnone
      exact absurd (hv.symm.trans hnone) nofun
  refine ⟨_, _, hslot ▸ State.beginNext_classifiesNext (v := v) hhalves ⟨s.cu.posted, hcu⟩, ?_, ?_⟩
  · rw [hstored, State.captureStored_eq, State.movedPending, State.advance_of_ready hready]
    rfl
  · have hbegun := State.captureStored_rowBegun (s := s.movedPending p b) (p := p) (b := b) (by rw [hframe]; rfl)
    have hfl : (s.movedPending p b).fl = s.fl := by rw [hframe]
    rw [hfl] at hbegun
    rw [hstored]
    refine hbegun.congr ?_
    rw [State.movedPending, State.advance_of_ready hready]
    exact ⟨rfl, rfl⟩

end Moved

end Sys2Proof.Machine

/-! # Capture words: the statement (R44 to R48, R51, R52, R54, R55, R92, R108, R127). -/

namespace Sys2Proof.Machine

section CaptureClauses
variable {s u : State} {a : Access} {r : StripRecord} {row col k : Nat} {b : Beat} {v : SlotId} {x : Slot} {q : PendingWord}
  {torn : Bool}

theorem State.CaptureWord.upstream (h : s.CaptureWord a r row col k b) : s.upstream = some a := by
  obtain ⟨w, ha, -⟩ := h
  exact ha

theorem State.CaptureWord.row_lt (h : s.CaptureWord a r row col k b) : row < r.captureRows := by
  obtain ⟨w, -, -, -, -, -, -, -, hrow, -⟩ := h
  exact hrow

theorem State.CaptureWord.word_lt (h : s.CaptureWord a r row col k b) : k < 2 := by
  obtain ⟨w, -, -, -, -, -, -, -, -, -, -, -, hk, -⟩ := h
  exact hk

/-- A word has the same effect in states at one port in which it is taken alike (R44, R46). -/
theorem State.CaptureWord.exec_congr (h : s.CaptureWord a r row col k b) (hup : u.upstream = s.upstream) (hcu : u.cu = s.cu)
    (hmc : u.mc = s.mc) (htake : s.takeCaptureWord ⟨row, col, k⟩ b = u.takeCaptureWord ⟨row, col, k⟩ b) :
    exec .intakeWrite s = exec .intakeWrite u := by
  rw [h.exec_next rfl rfl rfl, h.exec_next hup hcu hmc, htake]

/-- With nothing pending, nothing is left over (R44). -/
theorem State.leavesNone_of_none {p : IntakePlace} (hq : s.iu.pairing = none) : ∀ q, s.iu.pairing = some q → q.Own p := by
  rw [hq]
  nofun

/-- Word 0 of the open row at a slot that has started (R51). -/
theorem State.takeCaptureWord_word0_started (hq : s.iu.pairing = none) (ho : s.iu.tracker.OpenAt row)
    (hv : routeOf s.fl.slots row col = some v) (hx : (s.slot v).state = .active ∨ v ∈ s.iu.startQueue) :
    s.takeCaptureWord ⟨row, col, 0⟩ b
      = (s.withPairing (some ⟨row, col, b.isFull, b.data⟩)).wordStored v ⟨row, col, 0⟩ b := by
  rw [State.takeCaptureWord_word0 rfl (State.leavesNone_of_none hq) ho]
  exact State.storeCapture_started (s := s.withPairing _) hv hx

/-- The pixel that word 1 settles in a row it does not fill, its slot, if any, started (R45, R51). -/
theorem State.takeCaptureWord_pixelStored (hc : s.Captures r) (ha : s.upstream = some a)
    (hown : ∀ q, s.iu.pairing = some q → q.Own ⟨row, col, 1⟩) (ho : s.iu.tracker.OpenAt row)
    (htorn : s.SettlesTorn row col b torn) (hn : s.iu.tracker.settled + 1 ≠ r.captureWidth)
    (hstarted : ∀ v, routeOf s.fl.slots row col = some v → (s.slot v).state = .active ∨ v ∈ s.iu.startQueue) :
    s.PixelStored a row col b torn ((s.takeCaptureWord ⟨row, col, 1⟩ b).wordWritten []) := by
  obtain ⟨hp, hr⟩ := hc
  rw [State.takeCaptureWord_settles (p := ⟨row, col, 1⟩) hp hr rfl hown ho htorn, if_neg hn,
    State.storeCapture_eq_captureStored (s := s.withPairing none) (p := ⟨row, col, 1⟩) hstarted]
  exact State.pixelStored_settled (p := ⟨row, col, 1⟩) hp ha rfl rfl rfl

/-- A pixel whose slot, if any, has started leaves the start queue (R52). -/
theorem State.PixelStored.startQueue_eq (h : s.PixelStored a row col b torn u)
    (hstarted : ∀ v, routeOf s.fl.slots row col = some v → (s.slot v).state = .active ∨ v ∈ s.iu.startQueue) :
    u.iu.startQueue = s.iu.startQueue := by
  obtain ⟨w, -, -, -, hunrouted, hrouted⟩ := h
  cases hv : routeOf s.fl.slots row col with
  | none =>
    obtain ⟨-, -, -, -, hqueue, -⟩ := hunrouted hv
    exact hqueue
  | some v =>
    obtain ⟨⟨-, -, hslot⟩, -⟩ := hrouted v _ hv rfl
    obtain ⟨-, hqueue, -⟩ := (hslot _ rfl).1 (hstarted v hv)
    exact hqueue

theorem State.lateStored_unrouted {p : IntakePlace} (hv : routeOf s.fl.slots p.row p.col = none) :
    s.lateStored p b = s.mem := by
  rw [State.lateStored, hv]

/-- A late word of a resident row (R47, R107). -/
theorem State.lateStored_resident {p : IntakePlace} (hv : routeOf s.fl.slots p.row p.col = some v)
    (hx : s.fl.slots.get v = x) (h : x.isResident (p.row - x.top) = true) : s.mem.HoldsBeat (s.lateStored p b)
      (x.bandBase + (p.row - x.top) % x.bandLines * x.bandPitch + (p.col - x.left) * 8 + p.word * 4) b := by
  subst hx
  have hmem : s.lateStored p b = s.mem.writeBeat ((s.slot v).bandAddress ((p.row - (s.slot v).top) % (s.slot v).bandLines)
      (p.col - (s.slot v).left) p.word) b := by
    rw [State.lateStored, hv]
    exact if_pos h
  rw [hmem]
  exact Memory.holdsBeat_writeBeat

theorem State.lateStored_gone {p : IntakePlace} (hv : routeOf s.fl.slots p.row p.col = some v)
    (hx : s.fl.slots.get v = x) (h : x.isResident (p.row - x.top) = false) : s.lateStored p b = s.mem := by
  subst hx
  rw [State.lateStored, hv]
  exact if_neg (by rw [State.slot, h]; nofun)

theorem State.settlesTorn_of_none (hq : s.iu.pairing = none) : s.SettlesTorn row col b true :=
  ⟨nofun, fun ⟨_, _, h⟩ => absurd (hq.symm.trans h) nofun⟩

theorem IntakeUnit.HalfChanged.congr {w w' w'' : IntakeUnit} {f : IrHalf → IrHalf} (h : w.HalfChanged w' row f)
    (hA : w.halfA = w''.halfA) (hB : w.halfB = w''.halfB) : w''.HalfChanged w' row f := by
  unfold IntakeUnit.HalfChanged at h ⊢
  rw [hA, hB] at h
  exact h

/-- A row completed at the access whose word completed it. -/
theorem State.completeOpenRow_wordWritten (hq : s.iu.pairing = none) (handed : List HandOver) :
    (s.wordWritten handed).completeOpenRow = s.completeOpenRow.wordWritten handed := by
  have hpair : s.withPairing none = s := by rw [State.withPairing, ← hq]
  have hport : s.wordWritten handed = s.atPort (s.wordWritten handed).upstream none := by
    rw [State.atPort, ← hq]
    rfl
  rw [hport, State.completeOpenRow_atPort]
  have hdone : s.completeOpenRow.withPairing none = s.completeOpenRow := by
    rw [← State.completeOpenRow_withoutPairing, hpair]
  have hup : (s.completeOpenRow.wordWritten handed).upstream = (s.wordWritten handed).upstream := by
    simp [State.wordWritten]
  rw [← hup]
  exact congrArg (State.wordWritten handed) hdone

end CaptureClauses

/-- Settles O27: the place of the word decides, as in O26; what it stores is told apart from what begins to be classified by it. -/
theorem captureWordStored : Obligations.CaptureWordStored := by
  intro s a r row col k b h
  have ha := h.upstream
  have hrow := h.row_lt
  refine ⟨_, h.exec_next rfl rfl rfl, ?_, ?_, ?_, ?_, ?_, ?_, ?_, ?_, ?_, ?_, ?_, ?_⟩
  -- word 0 in the margin of the open row
  · rintro rfl hq hcur hopen hv
    rw [State.takeCaptureWord_word0 (p := ⟨row, col, 0⟩) rfl (State.leavesNone_of_none hq) ⟨hcur, hopen⟩,
      State.storeCapture_unrouted (s := s.withPairing (some ⟨row, col, b.isFull, b.data⟩)) (p := ⟨row, col, 0⟩) hv]
    exact State.written_settles rfl ha
  -- word 0 in an open row that has its first routed word
  · rintro rfl hq ⟨hcur, hopen, hb⟩ v x hv rfl hx
    rw [State.takeCaptureWord_word0_started hq ⟨hcur, hopen⟩ hv hx]
    refine ⟨Memory.holdsBeat_writeBeat, fun n hn hle => ?_, fun hnew => ?_⟩
    · rw [State.wordStored_old (s := s.withPairing (some ⟨row, col, b.isFull, b.data⟩)) (p := ⟨row, col, 0⟩) hb]
      · exact State.written_settles rfl ha
      · rw [Slot.raisesNewest_iff]
        exact fun hall => absurd (hall n hn) (Nat.not_lt.mpr hle)
    · rw [State.wordStored_new (s := s.withPairing (some ⟨row, col, b.isFull, b.data⟩)) (p := ⟨row, col, 0⟩) ha hb
        (Slot.raisesNewest_iff.mpr hnew)]
      exact State.written_settles rfl rfl
  -- the first routed word of its row: a word 0
  · rintro rfl hq ⟨hcur, hopen, hb⟩ v x half hv rfl hx rfl
    rw [State.takeCaptureWord_word0_started hq ⟨hcur, hopen⟩ hv hx]
    exact ⟨Memory.holdsBeat_writeBeat, rfl,
      State.rowBegun_first (s := s.withPairing (some ⟨row, col, b.isFull, b.data⟩)) hb⟩
  -- the first routed word of its row: a word 1, which settles its pixel torn
  · rintro rfl hq hc ⟨hcur, hopen, hb⟩ hn v x hv hx hstate
    have hstarted : ∀ w, routeOf s.fl.slots row col = some w → (s.slot w).state = .active ∨ w ∈ s.iu.startQueue := by
      intro w hw
      obtain rfl := Option.some.inj (hv.symm.trans hw)
      rw [State.slot, hx]
      exact hstate
    have hstored := State.takeCaptureWord_pixelStored hc ha (State.leavesNone_of_none hq) ⟨hcur, hopen⟩
      (State.settlesTorn_of_none (b := b) hq) hn hstarted
    have hqueue := hstored.startQueue_eq hstarted
    obtain ⟨w, -, hbegun, hm, -, hrouted⟩ := hstored
    obtain ⟨-, -, hchanged⟩ := hrouted v x hv hx
    have hru := congrArg State.ru hm
    have hiu := congrArg State.iu hm
    refine ⟨hru, hiu.trans ?_, w, hbegun hb, hchanged⟩
    rw [hqueue, hv, ← hq, Option.isSome_some, Bool.or_true]
    rfl
  -- a routed word of the open row, stored whatever begins by it
  · rintro hfill hq hc hcur hopen v x hv hx
    have hp : s.iu.pass ≠ .draining := hc.1.trans_ne nofun
    obtain rfl | rfl : k = 0 ∨ k = 1 := by
      have := h.word_lt
      omega
    · have hstored := State.storedInto_storeCapture (s := s.withPairing (some ⟨row, col, b.isFull, b.data⟩))
        (p := ⟨row, col, 0⟩) (b := b) hp hv hx
      rw [State.takeCaptureWord_word0 (p := ⟨row, col, 0⟩) rfl (State.leavesNone_of_none hq) ⟨hcur, hopen⟩]
      exact ⟨hstored.congr rfl rfl rfl rfl, fun _ hb => State.storeCapture_takesHalf
        (s := s.withPairing (some ⟨row, col, b.isFull, b.data⟩)) (p := ⟨row, col, 0⟩) hp ⟨hcur, hopen⟩ hb hv hx⟩
    · have hstored := State.storedInto_storeCapture (s := s.withPairing none) (p := ⟨row, col, 1⟩) (b := b) hp hv hx
      obtain ⟨hpass, -⟩ := State.storeCapture_follows (s := s.withPairing none) (p := ⟨row, col, 1⟩) (b := b) hp
      rw [State.takeCaptureWord_settles (p := ⟨row, col, 1⟩) hc.1 hc.2 rfl (State.leavesNone_of_none hq) ⟨hcur, hopen⟩
        (State.settlesTorn_of_none hq), if_neg (hfill.resolve_left nofun), State.settled_capturing (hpass.trans hc.1)]
      exact ⟨hstored.congr rfl rfl rfl rfl, nofun⟩
  -- the settling of a pixel by its word 1
  · rintro torn begun rfl hc ⟨hcur, hopen, hb⟩ hunrouted hown htorn hstate hn
    have hstored := State.takeCaptureWord_pixelStored hc ha (fun q hq => ⟨rfl, hown q hq⟩) ⟨hcur, hopen⟩ htorn hn hstate
    have hqueue := hstored.startQueue_eq hstate
    obtain ⟨w, hold, hbegun, hm, hunstored, hrouted⟩ := hstored
    have hru := congrArg State.ru hm
    have hiu := congrArg State.iu hm
    have hhalves : w.halfA = s.iu.halfA ∧ w.halfB = s.iu.halfB := by
      cases hbegan : s.iu.tracker.begun with
      | true => exact hold hbegan
      | false => exact (hbegun hbegan).1 (hunrouted (hb.symm.trans hbegan))
    obtain ⟨hA, hB⟩ := hhalves
    have hstill : (s.iu.tracker.begun || (routeOf s.fl.slots row col).isSome) = s.iu.tracker.begun := by
      cases hbegan : s.iu.tracker.begun with
      | true => rfl
      | false => rw [hunrouted (hb.symm.trans hbegan)]; rfl
    refine ⟨hru, hiu.trans ?_, fun hv => ?_, fun v x hv hx => ?_⟩
    · rw [hstill, hqueue]
      rfl
    · obtain ⟨hmem, -, -, -, -, hmA, hmB⟩ := hunstored hv
      exact ⟨hmA.trans hA, hmB.trans hB, hmem⟩
    · obtain ⟨⟨hmem, -⟩, -, hchanged⟩ := hrouted v x hv hx
      exact ⟨hmem, hchanged.congr hA hB⟩
  -- the pixel that fills its row
  · rintro torn rfl hc hcur hopen hown htorn hn
    obtain ⟨hpass, hstrip, hcurrent, hpair⟩ := State.captureHeld_settled_frame (p := ⟨row, col, 1⟩) (b := b) (torn := torn)
      (row := row) (col := col) (g := 0) (i := b.data.toNat / 65536) hc.1
    refine ⟨_, _, State.pixelStored_settled (p := ⟨row, col, 1⟩) (g := 0) hc.1 ha rfl rfl rfl,
      State.rowCompleted_completeOpenRow (hpass.trans hc.1) (hstrip.trans hc.2) (hcurrent.trans hcur), ?_⟩
    rw [State.takeCaptureWord_fills (p := ⟨row, col, 1⟩) hc.1 hc.2 rfl hown ⟨hcur, hopen⟩ htorn hn,
      State.completeOpenRow_wordWritten hpair]
    exact State.settles_of_eq rfl
  -- a pending word 0 of the open row that another word 0 settles torn
  · rintro q rfl hc ⟨hcur, hopen, hb⟩ hq rfl hn hv
    have hsettled : s.settlePixel q.row q.col true 0 0 = s.settled q.row q.col true 0 0 :=
      State.settlePixel_open ⟨hcur, hopen⟩ fun f hf => by
        obtain rfl := Option.some.inj ((State.captureFrame hc.1 hc.2).symm.trans hf)
        exact hn
    have hpixel := State.settled_capturing (row := q.row) (col := q.col) (torn := true) (g := 0) (i := 0) hc.1
    have ho : ((s.settled q.row q.col true 0 0).withPairing none).iu.tracker.OpenAt q.row := by
      rw [hpixel]
      exact ⟨hcur, hopen⟩
    rw [State.takeCaptureWord_settledFirst hq (by rintro ⟨⟨⟩, -⟩), hsettled,
      State.takeCaptureWord_word0 (p := ⟨q.row, col, 0⟩) rfl (State.leavesNone_of_none rfl) ho,
      State.storeCapture_unrouted (p := ⟨q.row, col, 0⟩) (by rw [hpixel]; exact hv), hpixel]
    refine ⟨rfl, rfl, rfl, fun hnone => ?_, fun v x hsome hx => ?_⟩
    · rw [State.pixelHalves_none hnone]
      exact ⟨rfl, rfl⟩
    · subst hx
      rw [State.pixelHalves_some hsome]
      exact IntakeUnit.mapHalf_halfChanged
  -- a pending word 0 that settles torn first
  · rintro q u hq hown hc hu
    obtain ⟨hup, hcu, hmc, hfl, hpass, hstrip⟩ := hu.keeps
    have hframe := State.captureFrame hc.1 hc.2
    have hexec : ∀ m : State, (s.settlePixel q.row q.col true 0 0).withPairing none = m → m.upstream = u.upstream →
        m.cu = u.cu → m.mc = u.mc → exec .intakeWrite s = exec .intakeWrite m := by
      rintro m rfl hmu hmcu hmmc
      exact h.exec_congr (hmu.trans hup) (hmcu.trans hcu) (hmmc.trans hmc)
        (State.takeCaptureWord_settledFirst (p := ⟨row, col, k⟩) hq hown)
    refine ⟨fun hn => hexec u (hu.settlePixel_eq (hn.imp_right fun hne f hf => ?_)) rfl rfl rfl, fun hcur hopen hfill => ?_⟩
    · obtain rfl := Option.some.inj (hframe.symm.trans hf)
      exact hne
    · have hcurrent : u.iu.tracker.current = some q.row := by rw [(hu.2 hcur hopen).1]; exact hcur
      exact ⟨u.completeOpenRow,
        State.rowCompleted_completeOpenRow (hpass.trans hc.1) (hstrip.trans hc.2) hcurrent,
        hexec _ (hu.settlePixel_fills ⟨hcur, hopen⟩ hframe hfill) (State.completeOpenRow_upstream u)
          (State.completeOpenRow_cu u) (State.completeOpenRow_mc u)⟩
  -- a late word
  · rintro c hown hcur hlate
    rw [State.takeCaptureWord_late (p := ⟨row, col, k⟩) hown ⟨c, hcur, hlate⟩ ha]
    refine ⟨State.written_settles rfl rfl, fun hv => State.lateStored_unrouted hv, fun v x hv hx => ⟨?_, ?_⟩⟩
    · rintro ⟨n, hn, hle, hlt⟩
      refine State.lateStored_resident hv hx ?_
      simp [Slot.isResident, hn, hle, hlt]
    · intro hgone
      refine State.lateStored_gone hv hx ?_
      cases hn : x.newest with
      | none => simp [Slot.isResident, hn]
      | some n =>
        have := hgone n hn
        simp only [Slot.isResident, hn, Bool.and_eq_false_iff, decide_eq_false_iff_not]
        omega
  -- a move of the row tracker
  · rintro hown hc hbelow
    have hp : s.iu.pass ≠ .draining := hc.1.trans_ne nofun
    have hframe := State.advance_eq (s := s.captureMoved row) hp
    have hkeeps : (s.captureMoved row).advance.upstream = s.upstream ∧ (s.captureMoved row).advance.cu = s.cu
        ∧ (s.captureMoved row).advance.mc = s.mc := by
      rw [hframe, State.captureMoved_eq]
      exact ⟨rfl, rfl, rfl⟩
    obtain ⟨hup, hcu, hmc⟩ := hkeeps
    exact ⟨_, State.rowMoved_captureMoved hp, h.exec_congr hup hcu hmc
      (State.takeCaptureWord_moved (p := ⟨row, col, k⟩) hc.1 hc.2 hrow hown hbelow)⟩
  -- a move of the row tracker by a word 0, taken together
  · rintro rfl hq hc hbelow
    have hp : s.iu.pass ≠ .draining := hc.1.trans_ne nofun
    obtain ⟨htracker, hpair, hru, hframeEnd⟩ := State.movedPending_stored_keeps (p := ⟨row, col, 0⟩) (b := b) hp
    rw [State.takeCaptureWord_moves0 (p := ⟨row, col, 0⟩) hc.1 hc.2 hrow rfl hq hbelow]
    refine ⟨htracker, hpair, fun hskips => ?_, fun hskips => ?_, fun hv => ?_, fun v x hv hx => ?_,
      fun w hw => ⟨fun hidle => ?_, ?_⟩⟩
    · refine hru.trans ?_
      rw [State.countSkips, if_neg (RowTracker.skips_pos hskips)]
    · refine hru.trans ?_
      rw [State.countSkips, if_pos (RowTracker.skips_zero hskips)]
    · have hmoved := State.movedPending_eq (p := ⟨row, col, 0⟩) (b := b) hp
      rw [State.storeCapture_unrouted (p := ⟨row, col, 0⟩) (by rw [hmoved]; exact hv), hmoved]
      exact ⟨rfl, rfl, rfl⟩
    · exact ⟨State.StoredInto.congr (State.movedPending_storedInto (p := ⟨row, col, 0⟩) hp hv hx) rfl rfl rfl rfl,
        State.movedPending_takesHalf (p := ⟨row, col, 0⟩) hp hv hx⟩
    · obtain ⟨hbegun, hclass⟩ := State.movedPending_unready (p := ⟨row, col, 0⟩) (b := b) hp hw hidle
      exact ⟨hbegun, hclass, hframeEnd⟩
    · rintro v x hfree hn hv rfl hin hbelow
      exact State.movedPending_ready (p := ⟨row, col, 0⟩) hp hw hfree hn hv hin hbelow

end Sys2Proof.Machine

/-! # The plan area (R77, R204). -/

namespace Sys2Proof.Machine

/-! ## The entries of a grant -/

section PlanArea
variable {size : Nat} {entries : List (SlotId × PlanEntry)} {m : Memory}

@[simp] theorem le16_length (n : Nat) : (le16 n).length = 2 := rfl

@[simp] theorem le32_length (n : Nat) : (le32 n).length = 4 := rfl

/-- An entry of either occupancy, with or without a survey window, has the 32 bytes of R204. -/
theorem PlanEntry.bytes_length (e : PlanEntry) : e.bytes.length = 32 := by
  cases e with
  | none => rfl
  | planned b => cases h : b.survey <;> simp [PlanEntry.bytes, h]

theorem writePlanEntries_cons (e : SlotId × PlanEntry) :
    writePlanEntries size (e :: entries) m =
      writePlanEntries size entries (m.writeBytes (bulletinBase size + 0x200 + 32 * e.1.val) e.2.bytes) := rfl

/-- A byte in none of the entries' places is as it was. -/
theorem read_writePlanEntries_outside {x : Nat}
    (h : ∀ e ∈ entries, x < bulletinBase size + 0x200 + 32 * e.1.val ∨ bulletinBase size + 0x200 + 32 * e.1.val + 32 ≤ x) :
    (writePlanEntries size entries m).read x = m.read x := by
  induction entries generalizing m with
  | nil => rfl
  | cons e rest ih =>
    obtain ⟨hout, hrest⟩ := List.forall_mem_cons.mp h
    rw [writePlanEntries_cons, ih hrest, Memory.read_writeBytes, PlanEntry.bytes_length, if_neg (by omega)]

/-- Distinct slots' places share no byte, so no later entry overwrites an earlier one. -/
theorem read_writePlanEntries_inside {v : SlotId} {e : PlanEntry} {k : Nat} (hnodup : (entries.map Prod.fst).Nodup)
    (he : (v, e) ∈ entries) (hk : k < 32) :
    (writePlanEntries size entries m).read (bulletinBase size + 0x200 + 32 * v.val + k) = e.bytes.getD k 0 := by
  induction entries generalizing m with
  | nil => cases he
  | cons d rest ih =>
    obtain ⟨hd, hrest⟩ := List.nodup_cons.mp hnodup
    rw [writePlanEntries_cons]
    rcases List.mem_cons.mp he with rfl | he
    · have hother : ∀ c ∈ rest, c.1.val ≠ v.val := fun c hc heq =>
        hd (List.mem_map.mpr ⟨c, hc, Fin.ext heq⟩)
      have hin : bulletinBase size + 0x200 + 32 * v.val ≤ bulletinBase size + 0x200 + 32 * v.val + k := Nat.le_add_right ..
      rw [read_writePlanEntries_outside fun c hc => by have := hother c hc; omega, Memory.read_writeBytes,
        PlanEntry.bytes_length, if_pos ⟨hin, Nat.add_lt_add_left hk _⟩, Nat.add_sub_cancel_left]
    · exact ih hrest he

end PlanArea

/-- Settles O39: each entry's place holds it after every later entry, and a byte of no place is never written. -/
theorem planEntriesWritten : Obligations.PlanEntriesWritten := by
  intro size base entries m hsize hnodup
  have hbase : bulletinBase size = base := by simp only [bulletinBase, Config.bulletinLength]; omega
  subst hbase
  exact ⟨fun v e he => ⟨e.bytes_length, fun k hk => read_writePlanEntries_inside hnodup he hk⟩,
    fun x hx => read_writePlanEntries_outside fun e he => hx e.1 e.2 he⟩

end Sys2Proof.Machine

/-! # SET_FRAME carried out (R80 to R82). -/

namespace Sys2Proof.Machine

/-! ## The greatest of a window of the profile -/

theorem le_greatest {l : List Nat} {n : Nat} (h : n ∈ l) : n ≤ greatest l := by
  induction l with
  | nil => cases h
  | cons m rest ih =>
    rcases List.mem_cons.mp h with rfl | h
    · exact Nat.le_max_left ..
    · exact (ih h).trans (Nat.le_max_right ..)

theorem greatest_mem {l : List Nat} (h : l ≠ []) : greatest l ∈ l := by
  induction l with
  | nil => exact absurd rfl h
  | cons m rest ih =>
    rcases max_choice m (greatest rest) with hmax | hmax
    · exact List.mem_cons.mpr (.inl hmax)
    · by_cases hrest : rest = []
      · subst hrest
        exact List.mem_cons.mpr (.inl (Nat.max_zero m))
      · exact List.mem_cons.mpr (.inr (by rw [greatest, hmax]; exact ih hrest))

theorem isGreatest_greatest (l : List Nat) : IsGreatest l (greatest l) :=
  ⟨fun _ h => le_greatest h, fun h => by rw [h]; rfl, greatest_mem⟩

/-- The values of a window of the profile are those of its rows that the profile holds. -/
theorem mem_window_iff {profile : List ProfileEntry} {top bottom n : Nat} :
    n ∈ ((profile.drop top).take (bottom + 1 - top)).map (·.ir) ↔
      ∃ i e, top ≤ i ∧ i ≤ bottom ∧ profile[i]? = some e ∧ e.ir = n := by
  rw [List.mem_map]
  constructor
  · rintro ⟨e, he, hn⟩
    obtain ⟨j, hj⟩ := List.mem_iff_getElem?.mp he
    rw [List.getElem?_take, List.getElem?_drop] at hj
    split at hj
    · exact ⟨top + j, e, by omega, by omega, hj, hn⟩
    · cases hj
  · rintro ⟨i, e, hlo, hhi, he, hn⟩
    refine ⟨e, List.mem_iff_getElem?.mpr ⟨i - top, ?_⟩, hn⟩
    rw [List.getElem?_take, List.getElem?_drop, if_pos (by omega), Nat.add_sub_cancel' hlo, he]

/-! ## The clear level -/

section ClearLevel
variable {s : State} {r : StripRecord} {f : FrameRecord}

/-- A clear level of the record is taken as it is (R81). -/
theorem State.chosenClear_given (h : f.clearLevel ≠ 0) : s.chosenClear f = f.clearLevel := if_pos h

/-- A window that begins past the profile gives clear level 0 (R81). -/
theorem State.chosenClear_outside (h : f.clearLevel = 0) (hr : s.iu.strip = some r)
    (hp : s.fl.profile.length ≤ f.top * r.ks / r.kc) : s.chosenClear f = 0 := by
  simp [State.chosenClear, h, hr, hp.not_gt]

/-- A window that begins in the profile gives the greatest Ir of its rows there (R81). -/
theorem State.chosenClear_inside (h : f.clearLevel = 0) (hr : s.iu.strip = some r) (hrows : f.top ≤ f.bottom)
    (hp : f.top * r.ks / r.kc < s.fl.profile.length) :
    (∃ i e, f.top * r.ks / r.kc ≤ i ∧ i ≤ f.bottom * r.ks / r.kc ∧ s.fl.profile[i]? = some e ∧ e.ir = s.chosenClear f)
      ∧ ∀ i e, f.top * r.ks / r.kc ≤ i → i ≤ f.bottom * r.ks / r.kc → s.fl.profile[i]? = some e →
          e.ir ≤ s.chosenClear f := by
  generalize hlast : f.bottom * r.ks / r.kc = last
  have hle : f.top * r.ks / r.kc ≤ last := hlast ▸ Nat.div_le_div_right (Nat.mul_le_mul_right _ hrows)
  have hclear : s.chosenClear f
      = clearLevelOf s.fl.profile (f.top * r.ks / r.kc) (min last (s.fl.profile.length - 1)) := by
    simp [State.chosenClear, h, hr, hp, hlast]
  generalize f.top * r.ks / r.kc = first at *
  obtain ⟨hall, -, hmem⟩ := isGreatest_greatest
    (((s.fl.profile.drop first).take (min last (s.fl.profile.length - 1) + 1 - first)).map (·.ir))
  rw [hclear]
  constructor
  · obtain ⟨i, e, hlo, hhi, he⟩ := mem_window_iff.mp (hmem (List.ne_nil_of_mem
      (mem_window_iff.mpr ⟨first, s.fl.profile[first], le_rfl, by omega, List.getElem?_eq_getElem hp, rfl⟩)))
    exact ⟨i, e, hlo, hhi.trans (Nat.min_le_left ..), he⟩
  · intro i e hlo hhi he
    have hi : i < s.fl.profile.length := (List.getElem?_eq_some_iff.mp he).1
    exact hall _ (mem_window_iff.mpr ⟨i, e, hlo, by omega, he, rfl⟩)

end ClearLevel

/-! ## The slot -/

/-- A plan gives one slot its values and its entry, and retires its spans (R64). -/
theorem State.planSlot_eq {r : StripRecord} {s : State} (v : SlotId) (p : SlotPlan) (hr : s.iu.strip = some r) :
    s.planSlot v p = { s with
      bt := { s.bt with spans := s.bt.spans.filter fun sp => decide (sp.slot ≠ v) }
      fl := { s.fl with
        slots := s.fl.slots.set v.val (p.slot s.fl.generation r.dx)
        planPending := s.fl.planPending.set v.val (some (p.entry s.fl.generation)) } } := by
  simp only [State.planSlot, hr]
  rfl

/-! ## The command -/

section SetFrame
variable {s : State} {r : StripRecord} {m : Memory} {v : SlotId}

theorem slotOfByte_eq (hv : v.val = (m.read 0).toNat) : slotOfByte (rec8 m 0x000) = v :=
  (congrArg slotOfByte hv.symm).trans (slotOfByte_val v)

/-- A PLAN gives its slot what the record's layout says, with the clear level chosen (R81). -/
theorem State.setFramePlanEffect_eq (hm : m = s.cu.shadow) (hv : v.val = (m.read 0).toNat) (hr : s.iu.strip = some r) :
    s.setFramePlanEffect = { s with
      bt := { s.bt with spans := s.bt.spans.filter fun sp => decide (sp.slot ≠ v) }
      fl := { s.fl with
        slots := s.fl.slots.set v.val
          (((setFrameRecord m).slotPlan (s.chosenClear (setFrameRecord m))).slot s.fl.generation r.dx)
        planPending := s.fl.planPending.set v.val
          (some (((setFrameRecord m).slotPlan (s.chosenClear (setFrameRecord m))).entry s.fl.generation)) } } := by
  subst hm
  rw [← State.planSlot_eq v _ hr, State.setFramePlanEffect, ← slotOfByte_eq hv]
  rfl

/-- A RELEASE releases its slot (R82). -/
theorem State.setFrameReleaseEffect_eq (hm : m = s.cu.shadow) (hv : v.val = (m.read 0).toNat) :
    s.setFrameReleaseEffect = s.releaseSlot v := by
  subst hm
  rw [State.setFrameReleaseEffect, slotOfByte_eq hv]

/-- A slot of 0 to 7 is all a RELEASE checks (R80). -/
theorem setFrameReleaseChecks_firstBad :
    firstBad (setFrameReleaseChecks m) = if (m.read 0).toNat ≤ 7 then none else some 0 :=
  if_congr decide_eq_true_iff rfl rfl

/-- A record without a bad field has its window's rows in order (R80). -/
theorem setFramePlan_rows_le {size : Nat} {slots : Vector Slot 8}
    (h : firstBad (setFramePlanChecks size (some r) slots m) = none) : m.read32 0x004 ≤ m.read32 0x008 := by
  obtain ⟨hrows, -⟩ := (setFramePlanChecks_checks size r slots m).firstBad_eq_none.mp h 0x008
  exact hrows

end SetFrame

/-- Settles O56: the plan's values as the record's layout gives them, with the clear level by R81's cases, and the release. -/
theorem setFrame : Obligations.SetFrame := by
  rintro s u m rfl rfl
  refine ⟨fun htakes hpass => ?_, fun htakes hpass => ?_⟩
  · have hreason : (s.checksOf .setFramePlan).reason = none := passReason_of_mem hpass
    cases hbad : firstBad (setFramePlanChecks s.mc.size s.iu.strip s.fl.slots s.cu.shadow) with
    | some o =>
      refine ⟨_, exec_refusedMalformed htakes rfl hreason hbad, fun o' ho => ?_, nofun⟩
      obtain rfl := Option.some.inj ho
      exact State.settles_of_eq rfl
    | none =>
      refine ⟨_, exec_carried htakes hreason hbad, nofun, ?_⟩
      rintro v r cleanup hv hr rfl -
      have hrows := setFramePlan_rows_le (hr ▸ hbad)
      rw [← ofCode_toNat]
      exact ⟨s.chosenClear (setFrameRecord s.cu.shadow),
        State.settles_of_eq (congrArg (State.stageAck 0x05 .done 0)
          (State.setFramePlanEffect_eq (s := s.takePosted) rfl hv hr)),
        fun h => State.chosenClear_given (f := setFrameRecord s.cu.shadow) h,
        fun h => State.chosenClear_outside (f := setFrameRecord s.cu.shadow) h hr,
        fun h => State.chosenClear_inside (f := setFrameRecord s.cu.shadow) h hr hrows⟩
  · have hreason : (s.checksOf .setFrameRelease).reason = none := passReason_of_mem hpass
    have hbad : (s.checksOf .setFrameRelease).badField = _ := setFrameReleaseChecks_firstBad
    by_cases hle : (s.cu.shadow.read 0).toNat ≤ 7
    · refine ⟨_, exec_carried htakes hreason (hbad.trans (if_pos hle)), fun h => absurd hle h.not_ge, fun v hv => ?_⟩
      exact State.settles_of_eq (congrArg (State.stageAck 0x05 .done 0)
        (State.setFrameReleaseEffect_eq (s := s.takePosted) rfl hv))
    · exact ⟨_, exec_refusedMalformed htakes rfl hreason (hbad.trans (if_neg hle)), fun _ => State.settles_of_eq rfl,
        fun v hv => absurd (hv ▸ Nat.le_of_lt_succ v.isLt) hle⟩

end Sys2Proof.Machine

/-! # The end of a locate operation (R73, R74, R76). -/

namespace Sys2Proof.Machine

/-! ## The frame a free slot takes -/

section Assigned
variable {α : Type} {free : List SlotId} {v : SlotId}

/-- Zipping stops at the end of the shorter list. -/
theorem map_fst_zip_eq_take (free : List SlotId) (frames : List α) :
    (free.zip frames).map Prod.fst = free.take frames.length := by
  induction free generalizing frames with
  | nil => simp
  | cons v rest ih => cases frames <;> simp [ih]

/-- In an ascending list a member is paired with the element at the number of members below it. -/
theorem find?_zip_of_ascending {frames : List α} (hfree : free.Pairwise (· < ·)) (hv : v ∈ free) :
    ((free.zip frames).find? fun p => decide (p.1 = v)).map Prod.snd = frames[(free.filter fun u => decide (u < v)).length]? := by
  induction free generalizing frames with
  | nil => cases hv
  | cons w rest ih =>
    obtain ⟨hw, hrest⟩ := List.pairwise_cons.mp hfree
    rcases List.mem_cons.mp hv with rfl | hv
    · have hnone : (rest.filter fun u => decide (u < v)) = [] :=
        List.filter_eq_nil_iff.mpr fun u hu => by simpa using (hw u hu).le
      cases frames <;> simp [hnone]
    · have hlt := hw v hv
      cases frames with
      | nil => simp
      | cons f more => simp [hlt, hlt.ne, ih hrest hv]

theorem freeSlots_ascending (slots : Vector Slot 8) : (freeSlots slots).Pairwise (· < ·) :=
  List.Pairwise.filter _ (by decide : allSlots.Pairwise (· < ·))

theorem mem_freeSlots {slots : Vector Slot 8} : v ∈ freeSlots slots ↔ (slots.get v).state ≠ .held := by
  simp [freeSlots, mem_allSlots]

end Assigned

/-! ## The slots placed -/

/-- The record of a free slot after a locate operation: that of the frame it takes, or the vacant values (R74). -/
def placedSlot (strip : StripRecord) (generation : Half16) (dx : Int) (v : SlotId) : Option LocatedFrame → Slot
  | some f => (f.slotPlan strip v).slot generation dx
  | none => Slot.vacantValues

/-- Its pending plan entry (R74, R77). -/
def placedEntry (strip : StripRecord) (generation : Half16) (v : SlotId) : Option LocatedFrame → PlanEntry
  | some f => (f.slotPlan strip v).entry generation
  | none => .none

/-- The frame that the assignments give a slot. -/
def frameOf (placed : List (SlotId × LocatedFrame)) (v : SlotId) : Option LocatedFrame :=
  (placed.find? fun p => decide (p.1 = v)).map Prod.snd

section Placed
variable {s : State} {r strip : StripRecord} {placed : List (SlotId × LocatedFrame)} {v : SlotId} {l : List SlotId}

/-- Whether it takes a frame or none, a free slot loses its spans and gets its record and entry (R63, R64, R74). -/
theorem State.placeFrame_eq (hr : s.iu.strip = some r) : s.placeFrame strip placed v = { s with
      bt := { s.bt with spans := s.bt.spans.filter fun sp => decide (sp.slot ≠ v) }
      fl := { s.fl with
        slots := s.fl.slots.set v.val (placedSlot strip s.fl.generation r.dx v (frameOf placed v))
        planPending := s.fl.planPending.set v.val (some (placedEntry strip s.fl.generation v (frameOf placed v))) } } := by
  unfold State.placeFrame frameOf
  cases placed.find? fun p => decide (p.1 = v) with
  | none => rfl
  | some p => exact State.planSlot_eq v _ hr

/-- A table with one value for each slot, after one of them is set. -/
theorem slotTable_get_set {α : Type} (table : Vector α 8) (v w : SlotId) (x : α) :
    (table.set v.val x).get w = if w = v then x else table.get w := by
  rw [Vector.get_eq_getElem, Vector.getElem_set, Vector.get_eq_getElem]
  simp only [Fin.ext_iff, eq_comm]

/-- Placing the frames of several slots changes their records and entries, and retires their spans. -/
theorem State.forSlots_placeFrame (l : List SlotId) (hr : s.iu.strip = some r) :
    ∃ slots planPending, State.forSlots (State.placeFrame strip placed) l s = { s with
        bt := { s.bt with spans := s.bt.spans.filter fun sp => decide (sp.slot ∉ l) }
        fl := { s.fl with slots := slots, planPending := planPending } }
      ∧ ∀ w, slots.get w = (if w ∈ l then placedSlot strip s.fl.generation r.dx w (frameOf placed w) else s.fl.slots.get w)
        ∧ planPending.get w = (if w ∈ l then some (placedEntry strip s.fl.generation w (frameOf placed w))
            else s.fl.planPending.get w) := by
  induction l generalizing s with
  | nil => exact ⟨s.fl.slots, s.fl.planPending, by simp [State.forSlots], fun w => by simp⟩
  | cons v rest ih =>
    obtain ⟨slots, planPending, heq, hget⟩ := ih (s := s.placeFrame strip placed v) (by simpa using hr)
    rw [State.placeFrame_eq hr] at heq hget
    refine ⟨slots, planPending, ?_, fun w => ?_⟩
    · rw [State.forSlots, State.placeFrame_eq hr, heq]
      simp [Bool.and_comm]
    · obtain ⟨hslot, hentry⟩ := hget w
      rw [hslot, hentry, slotTable_get_set, slotTable_get_set]
      by_cases hw : w ∈ rest <;> by_cases hv : w = v <;> simp [hw, hv]

end Placed

/-! ## The plan's report -/

theorem planReportOf_assignments (generation : Half16) (k : LocateInputs) (slots : Vector Slot 8) :
    planReportOf generation k k.plan (assignments slots k.plan.frames) =
      ⟨decide (8 < k.plan.frames.length), k.plan.noImage, generation, k.profile.length, k.plan.base,
        min (freeSlots slots).length k.plan.frames.length, (freeSlots slots).take k.plan.frames.length, k.plan.slivers,
        k.plan.frames.length - (freeSlots slots).length⟩ := by
  have hrest : k.plan.frames.length - min (freeSlots slots).length k.plan.frames.length
      = k.plan.frames.length - (freeSlots slots).length := by omega
  rw [planReportOf, assignments, List.length_zip, hrest]
  exact congrArg (PlanReport.mk _ _ _ _ _ _ · _ _) (map_fst_zip_eq_take _ _)

/-- The end of a locate operation: the free slots as their frames leave them, the report and the pass state (R73, R74, R76). -/
theorem State.endLocate_eq {s : State} {r : StripRecord} (k : LocateInputs) (hr : s.iu.strip = some r) :
    ∃ slots planPending, s.endLocate k = { s with
        fl := { s.fl with slots := slots, planPending := planPending, locating := none }
        iu := { s.iu with pass := .planned }
        bt := { s.bt with spans := s.bt.spans.filter fun sp => decide ((s.fl.slots.get sp.slot).state = .held) }
        ru := (State.stage
          (.plan (planReportOf s.fl.generation k k.plan (assignments s.fl.slots k.plan.frames))) s).ru }
      ∧ ∀ w, slots.get w = (if (s.fl.slots.get w).state ≠ .held
            then placedSlot k.strip s.fl.generation r.dx w (frameOf (assignments s.fl.slots k.plan.frames) w)
            else s.fl.slots.get w)
        ∧ planPending.get w = (if (s.fl.slots.get w).state ≠ .held
            then some (placedEntry k.strip s.fl.generation w (frameOf (assignments s.fl.slots k.plan.frames) w))
            else s.fl.planPending.get w) := by
  obtain ⟨slots, planPending, heq, hget⟩ := State.forSlots_placeFrame (strip := k.strip)
    (placed := assignments s.fl.slots k.plan.frames) (freeSlots s.fl.slots) hr
  simp only [mem_freeSlots, not_not] at heq hget
  refine ⟨slots, planPending, ?_, hget⟩
  simp only [State.endLocate, heq]
  rfl

/-- The frame a free slot takes is the one at its place among the free slots (R73). -/
theorem frameOf_assignments {slots : Vector Slot 8} {frames : List LocatedFrame} {v : SlotId}
    (hv : (slots.get v).state ≠ .held) :
    frameOf (assignments slots frames) v = frames[((freeSlots slots).filter fun u => decide (u < v)).length]? :=
  find?_zip_of_ascending (freeSlots_ascending slots) (mem_freeSlots.mpr hv)

/-- Settles O47: the free slots placed in turn leave what each takes, and the report is staged over that. -/
theorem locateEnd : Obligations.LocateEnd := by
  rintro s k r free hk hr (hdef : free = freeSlots s.fl.slots)
  subst hdef
  obtain ⟨slots, planPending, heq, hget⟩ := State.endLocate_eq k hr
  rw [planReportOf_assignments] at heq
  have hexec : exec .locateEnd s = .next (s.endLocate k).settleRequests := by
    simp only [exec, execLocateEnd, hk, occurs_true]
  rw [heq] at hexec
  refine ⟨_, hexec, State.settles_of_eq rfl, rfl, fun hroom hring => ?_, fun v => ?_⟩
  · exact congrArg State.ru (State.stage_of_room hroom hring)
  · obtain ⟨hslot, hentry⟩ := hget v
    refine ⟨fun hheld => ?_, fun hfree => ?_⟩
    · rw [if_neg (not_not.mpr hheld)] at hslot hentry
      exact ⟨hslot, hentry⟩
    · rw [if_pos hfree, frameOf_assignments hfree] at hslot hentry
      refine ⟨fun f hf => ?_, fun hnone => ?_⟩
      · rw [hf] at hslot hentry
        exact ⟨hslot, hentry⟩
      · rw [List.getElem?_eq_none hnone] at hslot hentry
        exact ⟨hslot, hentry⟩

end Sys2Proof.Machine

/-! # The candidates of a locate operation: the maximal runs of image rows (R67, R68). -/

namespace Sys2Proof.Machine

/-! ## Rows in runs -/

/-- The runs of the list, in order, are rows `s` up to `rows`: each begins where the one before it ends and holds the rows of one
mark of `p`, and no two next to each other have the same mark. -/
def RunsFrom (p : Nat → Bool) (rows : Nat) : Nat → List RowRun → Prop
  | s, [] => s = rows
  | s, r :: rest =>
    r.first = s ∧ r.first ≤ r.last ∧ (∀ i, r.first ≤ i → i ≤ r.last → p i = r.gap)
      ∧ (∀ d ∈ rest.head?, d.gap ≠ r.gap) ∧ RunsFrom p rows (r.last + 1) rest

/-- The runs of a list of marks are its rows in runs. -/
theorem runsOf_runsFrom {p : Nat → Bool} {marks : List Bool} {s : Nat}
    (hp : ∀ j g, marks[j]? = some g → p (s + j) = g) : RunsFrom p (s + marks.length) s (runsOf s marks) := by
  induction marks generalizing s with
  | nil => exact Nat.add_zero s |>.symm
  | cons g rest ih =>
    have hfirst : p s = g := hp 0 g rfl
    have hruns := ih (s := s + 1) fun j g' hj => by rw [Nat.add_right_comm]; exact hp (j + 1) g' hj
    rw [Nat.add_right_comm, Nat.add_assoc, ← List.length_cons (a := g)] at hruns
    have hone : ∀ i, s ≤ i → i ≤ s → p i = g := fun i hlo hhi => Nat.le_antisymm hlo hhi ▸ hfirst
    unfold runsOf
    cases hrest : runsOf (s + 1) rest with
    | nil => exact ⟨rfl, le_rfl, hone, nofun, hrest ▸ hruns⟩
    | cons r more =>
      rw [hrest] at hruns
      obtain ⟨hr, hle, hall, hhead, hmore⟩ := id hruns
      dsimp only
      split
      · rename_i hgap
        subst hgap
        refine ⟨rfl, by dsimp only; omega, fun i hlo hhi => ?_, hhead, hmore⟩
        rcases Nat.eq_or_lt_of_le hlo with rfl | hlt
        · exact hfirst
        · exact hall i (hr ▸ hlt) hhi
      · rename_i hgap
        exact ⟨rfl, le_rfl, hone, fun d hd => Option.some.inj hd ▸ hgap, hruns⟩

section RunsFrom
variable {p : Nat → Bool} {rows s : Nat} {l : List RowRun} {r : RowRun}

theorem RunsFrom.bounds (h : RunsFrom p rows s l) : s ≤ rows ∧ ∀ r ∈ l, s ≤ r.first ∧ r.first ≤ r.last ∧ r.last < rows := by
  induction l generalizing s with
  | nil => exact ⟨Nat.le_of_eq h, nofun⟩
  | cons r rest ih =>
    obtain ⟨rfl, hle, -, -, hrest⟩ := h
    obtain ⟨hrows, hall⟩ := ih hrest
    refine ⟨by omega, List.forall_mem_cons.mpr ⟨⟨le_rfl, hle, hrows⟩, fun d hd => ?_⟩⟩
    obtain ⟨hlo, hd⟩ := hall d hd
    exact ⟨by omega, hd⟩

theorem RunsFrom.pairwise (h : RunsFrom p rows s l) : l.Pairwise fun c d => c.last < d.first := by
  induction l generalizing s with
  | nil => exact .nil
  | cons r rest ih =>
    obtain ⟨-, -, -, -, hrest⟩ := h
    exact .cons (fun d hd => (hrest.bounds.2 d hd).1) (ih hrest)

theorem RunsFrom.marked (h : RunsFrom p rows s l) (hr : r ∈ l) {i : Nat} (hlo : r.first ≤ i) (hhi : i ≤ r.last) :
    p i = r.gap := by
  induction l generalizing s with
  | nil => cases hr
  | cons d rest ih =>
    obtain ⟨-, -, hall, -, hrest⟩ := h
    rcases List.mem_cons.mp hr with rfl | hr
    · exact hall i hlo hhi
    · exact ih hrest hr

theorem RunsFrom.covers (h : RunsFrom p rows s l) {i : Nat} (hlo : s ≤ i) (hhi : i < rows) :
    ∃ r ∈ l, r.first ≤ i ∧ i ≤ r.last := by
  induction l generalizing s with
  | nil => exact absurd (h ▸ hhi) hlo.not_gt
  | cons r rest ih =>
    obtain ⟨hfirst, -, -, -, hrest⟩ := h
    by_cases hi : i ≤ r.last
    · exact ⟨r, List.mem_cons_self, hfirst ▸ hlo, hi⟩
    · obtain ⟨d, hd, hin⟩ := ih hrest (by omega)
      exact ⟨d, List.mem_cons_of_mem _ hd, hin⟩

/-- The row below a run, if the runs hold it, has the other mark. -/
theorem RunsFrom.before (h : RunsFrom p rows s l) (hr : r ∈ l) : l.head? = some r ∨ p (r.first - 1) ≠ r.gap := by
  induction l generalizing s with
  | nil => cases hr
  | cons d rest ih =>
    obtain ⟨-, hle, hall, hhead, hrest⟩ := h
    rcases List.mem_cons.mp hr with rfl | hr
    · exact .inl rfl
    · refine .inr ?_
      rcases ih hrest hr with hfirst | hne
      · have hbegins : r.first = d.last + 1 := by
          cases rest with
          | nil => cases hr
          | cons c more =>
            obtain rfl := Option.some.inj hfirst
            exact hrest.1
        rw [hbegins, Nat.add_sub_cancel, hall d.last hle le_rfl]
        exact (hhead r hfirst).symm
      · exact hne

/-- The row above a run, if the runs hold it, has the other mark. -/
theorem RunsFrom.after (h : RunsFrom p rows s l) (hr : r ∈ l) : r.last + 1 = rows ∨ p (r.last + 1) ≠ r.gap := by
  induction l generalizing s with
  | nil => cases hr
  | cons d rest ih =>
    obtain ⟨-, -, -, hhead, hrest⟩ := h
    rcases List.mem_cons.mp hr with rfl | hr
    · cases rest with
      | nil => exact .inl hrest
      | cons c more =>
        obtain ⟨hc, hle, hall, -⟩ := hrest
        rw [← hc, hall c.first le_rfl hle]
        exact .inr (hhead c rfl)
    · exact ih hrest hr

/-- The runs of one mark are the maximal runs of the rows that have it. -/
theorem RunsFrom.maximalRun_iff (h : RunsFrom p rows 0 l) {g : Bool} {a b : Nat} :
    MaximalRun (fun i => p i = g) rows a b ↔ ⟨g, a, b⟩ ∈ l := by
  constructor
  · rintro ⟨hab, hb, hall, hbefore, hafter⟩
    obtain ⟨⟨g', first, last⟩, hr, hlo, hhi⟩ := h.covers (Nat.zero_le a) (hab.trans_lt hb)
    obtain rfl : g' = g := (h.marked hr hlo hhi).symm.trans (hall a le_rfl hab)
    have hmark : ∀ i, first ≤ i → i ≤ last → p i = g' := fun i => h.marked hr
    obtain ⟨-, -, hlast⟩ := h.bounds.2 _ hr
    have hend := h.after hr
    dsimp only at hlo hhi hlast hend
    obtain rfl : first = a := by
      by_contra hne
      rcases hbefore with rfl | hbefore
      · omega
      · exact hbefore (hmark (a - 1) (by omega) (by omega))
    obtain rfl : last = b := by
      rcases Nat.lt_trichotomy last b with hlt | heq | hgt
      · rcases hend with hend | hend
        · omega
        · exact absurd (hall (last + 1) (by omega) hlt) hend
      · exact heq
      · rcases hafter with hafter | hafter
        · omega
        · exact absurd (hmark (b + 1) (by omega) hgt) hafter
    exact hr
  · intro hr
    obtain ⟨-, hle, hlt⟩ := h.bounds.2 _ hr
    refine ⟨hle, hlt, fun i => h.marked hr, (h.before hr).imp_left fun hhead => ?_, h.after hr⟩
    cases l with
    | nil => cases hr
    | cons d rest =>
      obtain rfl := Option.some.inj hhead
      exact h.1

end RunsFrom

theorem MaximalRun.congr {p q : Nat → Prop} {rows a b : Nat} (h : ∀ i < rows, (p i ↔ q i)) (hp : MaximalRun p rows a b) :
    MaximalRun q rows a b := by
  obtain ⟨hab, hb, hall, hbefore, hafter⟩ := hp
  refine ⟨hab, hb, fun i hlo hhi => (h i (by omega)).mp (hall i hlo hhi), hbefore.imp_right fun hne hq => ?_, ?_⟩
  · exact hne ((h _ (by omega)).mpr hq)
  · rcases Nat.eq_or_lt_of_le (Nat.succ_le_of_lt hb) with heq | hlt
    · exact .inl heq
    · exact hafter.imp_right fun hne hq => hne ((h _ hlt).mpr hq)

theorem maximalRun_congr {p q : Nat → Prop} {rows a b : Nat} (h : ∀ i < rows, (p i ↔ q i)) :
    MaximalRun p rows a b ↔ MaximalRun q rows a b :=
  ⟨.congr h, .congr fun i hi => (h i hi).symm⟩

/-! ## Gap rows and image rows -/

/-- The rows of a list of runs after short gaps are turned back: as many as before, and each as its run has it. -/
theorem RunsFrom.flatMap_marks {p : Nat → Bool} {rows s minGap q : Nat} {l : List RowRun} (h : RunsFrom p rows s l) :
    s + (l.flatMap (RowRun.marks minGap q)).length = rows
      ∧ ∀ r ∈ l, ∀ i, r.first ≤ i → i ≤ r.last → (l.flatMap (RowRun.marks minGap q))[i - s]?
          = some (r.gap && (decide (minGap ≤ r.last - r.first + 1) || decide (r.first = 0) || decide (r.last + 1 = q))) := by
  induction l generalizing s with
  | nil => exact ⟨h, nofun⟩
  | cons d rest ih =>
    obtain ⟨rfl, hle, -, -, hrest⟩ := h
    obtain ⟨hlength, hall⟩ := ih hrest
    have hd : (d.marks minGap q).length = d.last - d.first + 1 := List.length_replicate
    rw [List.flatMap_cons]
    refine ⟨by rw [List.length_append, hd]; omega, List.forall_mem_cons.mpr ⟨fun i hlo hhi => ?_, fun r hr i hlo hhi => ?_⟩⟩
    · rw [List.getElem?_append_left (by omega), RowRun.marks, List.getElem?_replicate, if_pos (by omega)]
    · have hfirst := (hrest.bounds.2 r hr).1
      rw [List.getElem?_append_right (by omega), hd, ← hall r hr i hlo hhi]
      congr 1
      omega

section Candidates
variable (k : LocateInputs)

/-- The marks of the profile's rows, before short gaps are turned back (R67). -/
def LocateInputs.gapMarks : List Bool := gapRows k.profile k.params.gapTolerance

/-- The marks after it (R67). -/
def LocateInputs.finalMarks : List Bool :=
  (runsOf 0 k.gapMarks).flatMap (RowRun.marks k.params.minGap k.profile.length)

theorem runsOf_zero_runsFrom (marks : List Bool) :
    RunsFrom (fun i => marks.getD i false) marks.length 0 (runsOf 0 marks) := by
  have h := runsOf_runsFrom (p := fun i => marks.getD i false) (marks := marks) (s := 0) fun j g hj => by
    simp [List.getD_eq_getElem?_getD, hj]
  rwa [Nat.zero_add] at h

theorem LocateInputs.gapMarks_runs :
    RunsFrom (fun i => k.gapMarks.getD i false) k.profile.length 0 (runsOf 0 k.gapMarks) := by
  have h := runsOf_zero_runsFrom k.gapMarks
  rwa [show k.gapMarks.length = k.profile.length from List.length_map _] at h

theorem LocateInputs.finalMarks_length : k.finalMarks.length = k.profile.length := by
  have h := (k.gapMarks_runs.flatMap_marks (minGap := k.params.minGap) (q := k.profile.length)).1
  rwa [Nat.zero_add] at h

theorem LocateInputs.finalMarks_runs :
    RunsFrom (fun i => k.finalMarks.getD i false) k.profile.length 0 (runsOf 0 k.finalMarks) := by
  have h := runsOf_zero_runsFrom k.finalMarks
  rwa [k.finalMarks_length] at h

/-- A row is marked a gap row by its mean (R67). -/
theorem LocateInputs.gapMarks_iff (s : Nat) :
    k.gapMarks.getD s false = true ↔ k.GapByThreshold (baseLevel k.profile) s := by
  unfold LocateInputs.GapByThreshold LocateInputs.gapMarks gapRows
  rw [List.getD_eq_getElem?_getD, List.getElem?_map]
  cases k.profile[s]? <;> simp

/-- The rows marked at the end are those that stay gap rows (R67). -/
theorem LocateInputs.finalMarks_iff {s : Nat} (hs : s < k.profile.length) :
    k.finalMarks.getD s false = true ↔ k.StaysGap (baseLevel k.profile) s := by
  have hruns := k.gapMarks_runs
  have hmarks := (hruns.flatMap_marks (minGap := k.params.minGap) (q := k.profile.length)).2
  have hmark : ∀ r ∈ runsOf 0 k.gapMarks, r.first ≤ s → s ≤ r.last → k.finalMarks.getD s false = (r.gap &&
      (decide (k.params.minGap ≤ r.last - r.first + 1) || decide (r.first = 0) || decide (r.last + 1 = k.profile.length))) :=
    fun r hr hlo hhi => by
      rw [List.getD_eq_getElem?_getD]
      exact congrArg (Option.getD · false) (hmarks r hr s hlo hhi)
  have hmaximal : ∀ a b, MaximalRun (k.GapByThreshold (baseLevel k.profile)) k.profile.length a b
      ↔ ⟨true, a, b⟩ ∈ runsOf 0 k.gapMarks := fun a b =>
    (maximalRun_congr fun i _ => (k.gapMarks_iff i).symm).trans hruns.maximalRun_iff
  constructor
  · intro hgap
    obtain ⟨⟨g, a, b⟩, hr, hlo, hhi⟩ := hruns.covers (Nat.zero_le s) hs
    rw [hmark _ hr hlo hhi, Bool.and_eq_true] at hgap
    obtain ⟨rfl, hstays⟩ := hgap
    exact ⟨a, b, (hmaximal a b).mpr hr, hlo, hhi, by simpa [or_assoc] using hstays⟩
  · rintro ⟨a, b, hrun, hlo, hhi, hstays⟩
    rw [hmark _ ((hmaximal a b).mp hrun) hlo hhi]
    simpa [or_assoc] using hstays

theorem LocateInputs.isImage_iff {s : Nat} (hs : s < k.profile.length) :
    k.IsImage (baseLevel k.profile) s ↔ k.finalMarks.getD s false = false := by
  rw [← Bool.not_eq_true, k.finalMarks_iff hs, LocateInputs.IsImage, and_iff_right hs]

theorem LocateInputs.candidatesOf_eq :
    candidatesOf k.profile k.params = (runsOf 0 k.finalMarks).filter fun r => !r.gap := rfl

/-- The candidates are the maximal runs of image rows (R68). -/
theorem LocateInputs.maximalRun_iff (a b : Nat) :
    MaximalRun (k.IsImage (baseLevel k.profile)) k.profile.length a b
      ↔ ∃ c ∈ candidatesOf k.profile k.params, c.first = a ∧ c.last = b := by
  rw [maximalRun_congr fun i hi => k.isImage_iff hi, k.finalMarks_runs.maximalRun_iff, k.candidatesOf_eq]
  constructor
  · exact fun h => ⟨_, List.mem_filter.mpr ⟨h, rfl⟩, rfl, rfl⟩
  · rintro ⟨⟨g, first, last⟩, hc, rfl, rfl⟩
    obtain ⟨hc, hgap⟩ := List.mem_filter.mp hc
    obtain rfl : g = false := by simpa using hgap
    exact hc

theorem LocateInputs.candidates_pairwise :
    (candidatesOf k.profile k.params).Pairwise fun c d => c.last < d.first :=
  k.finalMarks_runs.pairwise.filter _

theorem LocateInputs.candidate_bounds {c : RowRun} (hc : c ∈ candidatesOf k.profile k.params) :
    c.first ≤ c.last ∧ c.last < k.profile.length :=
  (k.finalMarks_runs.bounds.2 c (List.mem_filter.mp hc).1).2

/-- There is no candidate exactly when there is no image row (R68). -/
theorem LocateInputs.candidates_isEmpty_iff :
    (candidatesOf k.profile k.params).isEmpty = true ↔ ∀ s, ¬k.IsImage (baseLevel k.profile) s := by
  rw [List.isEmpty_iff]
  constructor
  · intro hnone s himage
    obtain ⟨r, hr, hlo, hhi⟩ := k.finalMarks_runs.covers (Nat.zero_le s) himage.1
    have hgap := (k.finalMarks_runs.marked hr hlo hhi).symm.trans ((k.isImage_iff himage.1).mp himage)
    have hc : r ∈ candidatesOf k.profile k.params := List.mem_filter.mpr ⟨hr, by rw [hgap]; rfl⟩
    exact List.not_mem_nil (hnone ▸ hc)
  · intro hnone
    refine List.eq_nil_iff_forall_not_mem.mpr fun c hc => ?_
    obtain ⟨hle, -, hall, -⟩ := (k.maximalRun_iff c.first c.last).mpr ⟨c, hc, rfl, rfl⟩
    exact hnone c.first (hall c.first le_rfl hle)

end Candidates

end Sys2Proof.Machine

/-! # The frames of a locate operation: made, put in order, trimmed and converted (R69 to R72). -/

namespace Sys2Proof.Machine

/-! ## The frames of a candidate -/

/-- A survey window of a frame length of 1 or more, moved inside the profile: its rows are in order, and its bottom is told by its
top. -/
structure SurveyFrame.Windowed (p : LocateParams) (rows : Nat) (f : SurveyFrame) : Prop where
  ordered : f.top ≤ f.bottom
  bottom : f.bottom = min (f.top + p.frameLength - 1) (rows - 1)
  inside : f.bottom < rows

section Frames
variable {p : LocateParams} {rows : Nat} {c : RowRun} {f : SurveyFrame}

theorem RowRun.frames_length : (c.frames p rows).length = frameCount p c.length := by
  simp [RowRun.frames]

theorem RowRun.frames_getElem? {i : Nat} (h : (c.frames p rows)[i]? = some f) :
    f = ⟨(windowAbout p rows (c.first + c.length * (2 * i + 1) / (2 * frameCount p c.length))).1,
        (windowAbout p rows (c.first + c.length * (2 * i + 1) / (2 * frameCount p c.length))).2,
        (decide (c.first = 0) || decide (c.last + 1 = rows)) && decide (c.length < p.frameLength),
        decide (1 < frameCount p c.length)⟩ := by
  obtain ⟨hi, rfl⟩ := List.getElem?_eq_some_iff.mp h
  simp [RowRun.frames]

theorem windowAbout_windowed {centre : Nat} {partialFrame splitFrame : Bool} (hp : 1 ≤ p.frameLength) (hrows : 1 ≤ rows) :
    SurveyFrame.Windowed p rows
      ⟨(windowAbout p rows centre).1, (windowAbout p rows centre).2, partialFrame, splitFrame⟩ := by
  unfold windowAbout
  dsimp only
  generalize (if p.frameLength / 2 ≤ centre then centre - p.frameLength / 2 else 0) = top
  split <;> constructor <;> dsimp only <;> omega

theorem RowRun.frames_windowed (hp : 1 ≤ p.frameLength) (hrows : 1 ≤ rows) (hf : f ∈ c.frames p rows) :
    f.Windowed p rows := by
  obtain ⟨i, hi⟩ := List.mem_iff_getElem?.mp hf
  rw [RowRun.frames_getElem? hi]
  exact windowAbout_windowed hp hrows

/-- The frames of a candidate stand about its centres (R69). -/
theorem RowRun.frames_frameOf {i : Nat} (hrows : 1 ≤ rows) (h : (c.frames p rows)[i]? = some f) :
    p.FrameOf rows c.first c.last (frameCount p c.length) i f := by
  rw [RowRun.frames_getElem? h]
  refine ⟨?_, by simp⟩
  rintro len centre top (rfl : len = c.length) rfl rfl
  refine ⟨fun hin => ?_, fun hout => ?_, by simp⟩
  · unfold windowAbout
    rw [if_neg (by omega)]
    exact ⟨rfl, rfl⟩
  · unfold windowAbout
    rw [if_pos (by omega)]
    exact ⟨rfl, rfl⟩

end Frames

/-! ## The order of survey tops -/

/-- `sorted` holds the frames of `made` in ascending order of top, those of equal tops as they were made (R70). -/
structure StableSort (made sorted : List SurveyFrame) : Prop where
  perm : sorted.Perm made
  ascending : sorted.Pairwise fun a b => a.top ≤ b.top
  stable : ∀ top, sorted.filter (fun f => decide (f.top = top)) = made.filter fun f => decide (f.top = top)

theorem insertFrame_perm (f : SurveyFrame) (l : List SurveyFrame) : (insertFrame f l).Perm (f :: l) := by
  induction l with
  | nil => exact .refl _
  | cons g rest ih =>
    unfold insertFrame
    split
    · exact .refl _
    · exact (ih.cons g).trans (.swap f g rest)

theorem insertFrame_ascending {f : SurveyFrame} {l : List SurveyFrame} (h : l.Pairwise fun a b => a.top ≤ b.top) :
    (insertFrame f l).Pairwise fun a b => a.top ≤ b.top := by
  induction l with
  | nil => exact List.pairwise_singleton ..
  | cons g rest ih =>
    obtain ⟨hg, hrest⟩ := List.pairwise_cons.mp h
    unfold insertFrame
    split
    · rename_i hlt
      refine .cons (List.forall_mem_cons.mpr ⟨hlt.le, fun d hd => hlt.le.trans (hg d hd)⟩) h
    · rename_i hge
      refine .cons (fun d hd => ?_) (ih hrest)
      rcases List.mem_cons.mp ((insertFrame_perm f rest).mem_iff.mp hd) with rfl | hd
      · exact not_lt.mp hge
      · exact hg d hd

/-- A frame is put behind those of its own top. -/
theorem insertFrame_stable {f : SurveyFrame} {l : List SurveyFrame} (h : l.Pairwise fun a b => a.top ≤ b.top) (top : Nat) :
    (insertFrame f l).filter (fun g => decide (g.top = top)) = (l ++ [f]).filter fun g => decide (g.top = top) := by
  induction l with
  | nil => rfl
  | cons g rest ih =>
    obtain ⟨hg, hrest⟩ := List.pairwise_cons.mp h
    unfold insertFrame
    split
    · rename_i hlt
      have habove : ∀ d ∈ g :: rest, f.top < d.top :=
        List.forall_mem_cons.mpr ⟨hlt, fun d hd => hlt.trans_le (hg d hd)⟩
      by_cases htop : f.top = top
      · have hnone : (g :: rest).filter (fun d => decide (d.top = top)) = [] :=
          List.filter_eq_nil_iff.mpr fun d hd => by simpa using (htop ▸ habove d hd).ne'
        rw [List.filter_append, List.filter_cons_of_pos (by simpa using htop), hnone]
        simp [htop]
      · rw [List.filter_append, List.filter_cons_of_neg (by simpa using htop)]
        simp [htop]
    · rw [List.filter_cons, ih hrest, List.cons_append, List.filter_cons]

theorem StableSort.insert {made sorted : List SurveyFrame} (h : StableSort made sorted) (f : SurveyFrame) :
    StableSort (made ++ [f]) (insertFrame f sorted) where
  perm := (insertFrame_perm f sorted).trans ((h.perm.cons f).trans (List.perm_append_singleton f made).symm)
  ascending := insertFrame_ascending h.ascending
  stable top := by rw [insertFrame_stable h.ascending, List.filter_append, h.stable, ← List.filter_append]

theorem StableSort.foldl {made sorted : List SurveyFrame} (h : StableSort made sorted) (fs : List SurveyFrame) :
    StableSort (made ++ fs) (fs.foldl (fun acc f => insertFrame f acc) sorted) := by
  induction fs generalizing made sorted with
  | nil => rwa [List.append_nil]
  | cons f rest ih =>
    have := ih (h.insert f)
    rwa [List.append_assoc] at this

/-- The frames are put in order of their tops and otherwise stay as they were made (R70). -/
theorem sortFrames_stableSort (fs : List SurveyFrame) : StableSort fs (sortFrames fs) :=
  StableSort.foldl ⟨.nil, .nil, fun _ => rfl⟩ fs

/-! ## Trimming -/

section Trims
variable {t : Trimming} {f g : SurveyFrame} {rest : List SurveyFrame}

theorem Trimming.keep_kept (h : f.top ≤ f.bottom) : t.keep f = { t with kept := f :: t.kept } := if_neg h.not_gt

theorem Trimming.keep_dropped (h : f.bottom < f.top) : t.keep f = { t with dropped := t.dropped + 1 } := if_pos h

theorem Trimming.next_apart (hkept : t.kept = g :: rest) (h : g.bottom < f.top) : t.next f = t.keep f := by
  simp [Trimming.next, hkept, h.not_ge]

theorem Trimming.next_shared (hkept : t.kept = g :: rest) (h : f.top ≤ g.bottom) :
    t.next f = (Trimming.keep { t with kept := rest } { g with bottom := (g.bottom + f.top) / 2 }).keep
      { f with top := (g.bottom + f.top) / 2 + 1 } := by
  simp [Trimming.next, hkept, h]

/-- Each frame is trimmed against the last kept as R70 has it. -/
theorem Trimming.next_trims (t : Trimming) (f : SurveyFrame) : t.Trims f (t.next f) := by
  refine ⟨fun hnil => ?_, ?_⟩
  · simp only [Trimming.next, hnil, Trimming.keep]
  · rintro g rest m hkept rfl
    refine ⟨fun hlt hf => ?_, fun hlt hf => ?_, fun hover hg hf => ?_, fun hover hg hf => ?_, fun hover hg hf => ?_,
      fun hover hg hf => ?_⟩
    · rw [Trimming.next_apart hkept hlt, Trimming.keep_kept hf, hkept]
    · rw [Trimming.next_apart hkept hlt, Trimming.keep_dropped hf]
    · rw [Trimming.next_shared hkept hover, Trimming.keep_kept hf, Trimming.keep_kept hg]
    · rw [Trimming.next_shared hkept hover, Trimming.keep_dropped hf, Trimming.keep_kept hg]
    · rw [Trimming.next_shared hkept hover, Trimming.keep_kept hf, Trimming.keep_dropped hg]
    · rw [Trimming.next_shared hkept hover, Trimming.keep_dropped hf, Trimming.keep_dropped hg]

end Trims

/-- A trimming that has taken frame `last`: the frames kept, latest first, share no row; the latest ends where `last` does, and
those before it end at the middle of `last` or above, so that no later frame reaches them. -/
structure Trimming.Spaced (t : Trimming) (last : SurveyFrame) : Prop where
  apart : t.kept.Pairwise fun f g => g.bottom < f.top
  ordered : ∀ f ∈ t.kept, f.top ≤ f.bottom ∧ f.bottom ≤ last.bottom
  latest : ∃ g rest, t.kept = g :: rest ∧ g.bottom = last.bottom ∧ ∀ h ∈ rest, h.bottom ≤ (last.bottom + last.top) / 2

section Trimming
variable {t : Trimming} {a f : SurveyFrame}

theorem Trimming.Spaced.of_kept {kept : List SurveyFrame} {g : SurveyFrame} {dropped : Nat}
    (hg : g.top ≤ g.bottom) (hbottom : g.bottom = f.bottom)
    (hapart : kept.Pairwise fun f g => g.bottom < f.top)
    (hkept : ∀ h ∈ kept, h.top ≤ h.bottom ∧ h.bottom < g.top ∧ h.bottom ≤ (f.bottom + f.top) / 2) :
    Trimming.Spaced ⟨g :: kept, dropped⟩ f where
  apart := .cons (fun h hh => (hkept h hh).2.1) hapart
  ordered := List.forall_mem_cons.mpr ⟨⟨hg, hbottom.le⟩, fun h hh => by obtain ⟨hle, hlt, -⟩ := hkept h hh; omega⟩
  latest := ⟨g, kept, rfl, hbottom, fun h hh => (hkept h hh).2.2⟩

/-- A next frame that begins and ends no higher is spaced from the rest in its turn (R70). -/
theorem Trimming.Spaced.next (h : t.Spaced a) (htop : a.top ≤ f.top) (hbottom : a.bottom ≤ f.bottom)
    (hf : f.top ≤ f.bottom) : (t.next f).Spaced f := by
  obtain ⟨g, rest, hkept, hlast, hmiddle⟩ := h.latest
  obtain ⟨hgap, -, hboth, hfirst, hsecond, -⟩ := (t.next_trims f).2 g rest _ hkept rfl
  have happart := h.apart
  have hordered := h.ordered
  rw [hkept] at happart hordered
  obtain ⟨hg, hrest⟩ := List.pairwise_cons.mp happart
  obtain ⟨⟨hgo, -⟩, hresto⟩ := List.forall_mem_cons.mp hordered
  rcases Nat.lt_or_ge g.bottom f.top with hlt | hover
  · rw [hgap hlt hf]
    refine .of_kept hf rfl happart (List.forall_mem_cons.mpr ⟨⟨hgo, hlt, by omega⟩, fun d hd => ?_⟩)
    have := hmiddle d hd
    have := hg d hd
    exact ⟨(hresto d hd).1, by omega, by omega⟩
  · rcases Nat.lt_or_ge ((g.bottom + f.top) / 2) g.top with hdrop | hstay
    · rw [hsecond hover hdrop (by omega)]
      refine .of_kept (by dsimp only; omega) rfl hrest fun d hd => ?_
      have := hmiddle d hd
      exact ⟨(hresto d hd).1, by dsimp only; omega, by omega⟩
    · rcases Nat.lt_or_ge f.bottom ((g.bottom + f.top) / 2 + 1) with hnone | hsome
      · rw [hfirst hover hstay hnone]
        refine .of_kept hstay (by dsimp only; omega) hrest fun d hd => ?_
        have := hmiddle d hd
        exact ⟨(hresto d hd).1, hg d hd, by omega⟩
      · rw [hboth hover hstay hsome]
        refine .of_kept hsome rfl (.cons hg hrest) (List.forall_mem_cons.mpr ⟨⟨hstay, Nat.lt_succ_self _, ?_⟩, fun d hd => ?_⟩)
        · dsimp only
          omega
        · have := hmiddle d hd
          exact ⟨(hresto d hd).1, by dsimp only; omega, by omega⟩

/-- All frames trimmed in order, those that follow `a` too (R70). -/
theorem Trimming.Spaced.foldl (h : t.Spaced a) {fs : List SurveyFrame}
    (hfs : (a :: fs).Pairwise fun a b => a.top ≤ b.top ∧ a.bottom ≤ b.bottom) (hordered : ∀ f ∈ fs, f.top ≤ f.bottom) :
    ∃ last ∈ a :: fs, (fs.foldl Trimming.next t).Spaced last := by
  induction fs generalizing t a with
  | nil => exact ⟨a, List.mem_cons_self, h⟩
  | cons f rest ih =>
    obtain ⟨ha, hrest⟩ := List.pairwise_cons.mp hfs
    obtain ⟨htop, hbottom⟩ := ha f List.mem_cons_self
    obtain ⟨hf, horest⟩ := List.forall_mem_cons.mp hordered
    obtain ⟨last, hlast, hspaced⟩ := ih (h.next htop hbottom hf) hrest horest
    exact ⟨last, List.mem_cons_of_mem _ hlast, hspaced⟩

end Trimming

section Plan
variable {p : LocateParams} {rows : Nat} {fs : List SurveyFrame}

/-- The frames kept of windows inside the profile share no row and lie inside the profile (R70). -/
theorem trimFrames_kept (h : ∀ f ∈ fs, f.Windowed p rows) :
    (trimFrames fs).kept.Pairwise (fun f g => g.bottom < f.top)
      ∧ ∀ f ∈ (trimFrames fs).kept, f.top ≤ f.bottom ∧ f.bottom < rows := by
  have hsort := sortFrames_stableSort fs
  have hwindowed : ∀ f ∈ sortFrames fs, f.Windowed p rows := fun f hf => h f (hsort.perm.mem_iff.mp hf)
  have hascending : (sortFrames fs).Pairwise fun a b => a.top ≤ b.top ∧ a.bottom ≤ b.bottom :=
    hsort.ascending.imp_of_mem fun {a b} ha hb hle =>
      ⟨hle, by rw [(hwindowed a ha).bottom, (hwindowed b hb).bottom]; omega⟩
  unfold trimFrames
  generalize sortFrames fs = sorted at *
  cases sorted with
  | nil => exact ⟨.nil, nofun⟩
  | cons a rest =>
    have ha := hwindowed a List.mem_cons_self
    have hfirst : (Trimming.next ⟨[], 0⟩ a).Spaced a := by
      rw [show Trimming.next ⟨[], 0⟩ a = ⟨[a], 0⟩ from Trimming.keep_kept ha.ordered]
      exact .of_kept ha.ordered rfl .nil nofun
    obtain ⟨last, hlast, hspaced⟩ := hfirst.foldl hascending fun f hf => (hwindowed f (List.mem_cons_of_mem _ hf)).ordered
    refine ⟨hspaced.apart, fun f hf => ?_⟩
    obtain ⟨hle, hbottom⟩ := hspaced.ordered f hf
    exact ⟨hle, hbottom.trans_lt (hwindowed last hlast).inside⟩

end Plan

/-! ## Conversion to capture rows -/

section Convert
variable {k : LocateInputs} {f : SurveyFrame} {g : LocatedFrame}

/-- A frame is converted exactly when it keeps rows and columns (R71). -/
theorem SurveyFrame.convert_isSome_iff : (f.convert k).isSome = true ↔ k.Converts f := by
  unfold SurveyFrame.convert LocateInputs.Converts captureBottom
  dsimp only
  generalize (f.bottom + 1) * k.strip.kc / k.strip.ks = bottom
  generalize f.top * k.strip.kc / k.strip.ks = top
  split
  · simp only [Option.isSome_none, Bool.false_eq_true, false_iff]
    omega
  · simp only [Option.isSome_some, true_iff]
    omega

/-- What a frame is converted to (R71, R72). -/
theorem SurveyFrame.convert_convertedTo (h : f.convert k = some g) : k.ConvertedTo f g := by
  have hkeeps : k.Converts f := SurveyFrame.convert_isSome_iff.mp (by rw [h]; rfl)
  obtain ⟨hrows, hinset, -⟩ := hkeeps
  unfold SurveyFrame.convert captureBottom at h
  dsimp only at h
  split at h
  · cases h
  · obtain rfl := Option.some.inj h
    refine ⟨rfl, rfl, rfl, rfl, rfl, ?_, rfl, rfl, isGreatest_greatest _, rfl⟩
    dsimp only
    omega

/-- The capture window of a frame lies within the capture rows and the film window, and ends before the capture row at which the
survey row after the frame's begins (R71). -/
theorem LocateInputs.ConvertedTo.window (hk : k.Converts f) (h : k.ConvertedTo f g) :
    g.top ≤ g.bottom ∧ g.bottom < k.strip.captureRows ∧ k.strip.filmLeft ≤ g.left ∧ g.left ≤ g.right
      ∧ g.right ≤ k.strip.filmRight ∧ g.bottom < (f.bottom + 1) * k.strip.kc / k.strip.ks := by
  obtain ⟨-, -, -, -, htop, hbottom, hleft, hright, -, -⟩ := h
  obtain ⟨hrows, hinset, hcolumns⟩ := hk
  omega

/-- Frames that share no survey row share no capture row (R71). -/
theorem SurveyFrame.convert_apart {f' : SurveyFrame} {g' : LocatedFrame} (h : f.convert k = some g)
    (h' : f'.convert k = some g') (hapart : f.bottom < f'.top) :
    g.surveyBottom < g'.surveyTop ∧ g.bottom < g'.top := by
  have hkeeps : k.Converts f := SurveyFrame.convert_isSome_iff.mp (by rw [h]; rfl)
  obtain ⟨-, -, -, -, -, hlast⟩ := (SurveyFrame.convert_convertedTo h).window hkeeps
  obtain ⟨-, hbottom, -⟩ := SurveyFrame.convert_convertedTo h
  obtain ⟨htop, -, -, -, hfirst, -⟩ := SurveyFrame.convert_convertedTo h'
  have hle : (f.bottom + 1) * k.strip.kc / k.strip.ks ≤ f'.top * k.strip.kc / k.strip.ks :=
    Nat.div_le_div_right (Nat.mul_le_mul_right _ hapart)
  omega

end Convert

/-- The results of a partial function are, in order, those of the members at which it has one. -/
theorem map_filter_isSome {α β : Type} (convert : α → Option β) (l : List α) :
    (l.filter fun f => (convert f).isSome).map convert = (l.filterMap convert).map some := by
  induction l with
  | nil => rfl
  | cons f rest ih => cases h : convert f <;> simp [h, ih]

/-! ## The plan -/

/-- The candidates that are no slivers (R68). -/
def LocateInputs.wholeCandidates (k : LocateInputs) : List RowRun :=
  (candidatesOf k.profile k.params).filter fun c => decide (k.params.frameLength / 2 ≤ c.last - c.first + 1)

/-- Their frames as they are made (R69). -/
def LocateInputs.madeFrames (k : LocateInputs) : List SurveyFrame :=
  k.wholeCandidates.flatMap fun c => c.frames k.params k.profile.length

section Located
variable (k : LocateInputs)

theorem LocateInputs.wholeCandidates_eq :
    ((candidatesOf k.profile k.params).filter fun r => !r.isSliver k.params) = k.wholeCandidates :=
  List.filter_congr fun c _ => by
    rw [RowRun.isSliver, ← decide_not]
    exact decide_eq_decide.mpr not_lt

/-- A plan's frames are the kept ones converted, its slivers those of the candidates and the frames dropped (R68 to R72). -/
theorem LocateInputs.plan_eq : k.plan =
    ⟨(trimFrames k.madeFrames).kept.reverse.filterMap (SurveyFrame.convert k),
      ((candidatesOf k.profile k.params).length - k.wholeCandidates.length) + (trimFrames k.madeFrames).dropped
        + ((trimFrames k.madeFrames).kept.length
            - ((trimFrames k.madeFrames).kept.reverse.filterMap (SurveyFrame.convert k)).length),
      baseLevel k.profile, (candidatesOf k.profile k.params).isEmpty⟩ := by
  rw [LocateInputs.plan, k.wholeCandidates_eq]
  rfl

variable {k}

theorem LocateInputs.madeFrames_windowed (hp : 1 ≤ k.params.frameLength) :
    ∀ f ∈ k.madeFrames, f.Windowed k.params k.profile.length := by
  intro f hf
  obtain ⟨c, hc, hf⟩ := List.mem_flatMap.mp hf
  have hlt := (k.candidate_bounds (List.mem_filter.mp hc).1).2
  exact RowRun.frames_windowed hp (by omega) hf

/-- A plan's frames share no survey row and no capture row (R70, R71). -/
theorem LocateInputs.plan_frames_apart (hp : 1 ≤ k.params.frameLength) :
    k.plan.frames.Pairwise fun a b => a.surveyBottom < b.surveyTop ∧ a.bottom < b.top := by
  rw [k.plan_eq]
  refine List.Pairwise.filterMap (R := fun f f' => f.bottom < f'.top) _
    (fun f f' hapart g hg g' hg' => SurveyFrame.convert_apart hg hg' hapart) ?_
  exact List.pairwise_reverse.mpr (trimFrames_kept (madeFrames_windowed hp)).1

/-- A plan's windows lie inside the profile and the strip (R64, R71). -/
theorem LocateInputs.plan_frames_inside (hp : 1 ≤ k.params.frameLength) {g : LocatedFrame} (hg : g ∈ k.plan.frames) :
    g.surveyTop ≤ g.surveyBottom ∧ g.surveyBottom < k.profile.length ∧ g.top ≤ g.bottom
      ∧ g.bottom < k.strip.captureRows ∧ k.strip.filmLeft ≤ g.left ∧ g.left ≤ g.right ∧ g.right ≤ k.strip.filmRight := by
  rw [k.plan_eq] at hg
  obtain ⟨f, hf, hconvert⟩ := List.mem_filterMap.mp hg
  obtain ⟨hle, hlt⟩ := (trimFrames_kept (madeFrames_windowed hp)).2 f (List.mem_reverse.mp hf)
  have hto := SurveyFrame.convert_convertedTo hconvert
  obtain ⟨hrows, hcapture, hleft, hcolumns, hright, -⟩ :=
    hto.window (SurveyFrame.convert_isSome_iff.mp (by rw [hconvert]; rfl))
  obtain ⟨htop, hbottom, -⟩ := hto
  exact ⟨htop.trans_le (hle.trans hbottom.ge), hbottom.trans_lt hlt, hrows, hcapture, hleft, hcolumns, hright⟩

/-- The plan's frames are, in order, the kept frames that keep rows and columns, converted; and what it counts as slivers (R70 to
R72). -/
theorem LocateInputs.plan_of_kept {kept : List SurveyFrame} {dropped : Nat} {converts : SurveyFrame → Bool}
    (hkept : trimFrames k.madeFrames = ⟨kept.reverse, dropped⟩) (hconverts : ∀ f, converts f = true ↔ k.Converts f) :
    (kept.filter converts).map (SurveyFrame.convert k) = k.plan.frames.map some
      ∧ k.plan.slivers = ((candidatesOf k.profile k.params).length - k.wholeCandidates.length) + dropped
          + (kept.length - k.plan.frames.length) := by
  rw [k.plan_eq, hkept, List.reverse_reverse, List.length_reverse]
  refine ⟨?_, rfl⟩
  rw [← map_filter_isSome, List.filter_congr fun f _ => Bool.eq_iff_iff.mpr ((hconverts f).trans
    SurveyFrame.convert_isSome_iff.symm)]

end Located

/-- Settles O46: the candidates are the runs of image rows, their frames are put in order, and the trimming leaves each frame kept
above the row from which the next can begin. -/
theorem locateWindowsDisjoint : Obligations.LocateWindowsDisjoint := by
  intro k hp _
  have hbase : k.plan.base = baseLevel k.profile := by rw [k.plan_eq]
  have hnone : k.plan.noImage = (candidatesOf k.profile k.params).isEmpty := by rw [k.plan_eq]
  rw [hbase, hnone]
  refine ⟨k.plan_frames_apart hp, fun f => k.plan_frames_inside hp, isGreatest_greatest _, k.candidates_isEmpty_iff,
    Trimming.next_trims, ?_⟩
  rintro candidates whole rfl rfl
  refine ⟨k.candidates_pairwise, k.maximalRun_iff, ?_, ?_⟩
  · rintro c hc len n rfl rfl
    have hlt := (k.candidate_bounds hc).2
    exact ⟨RowRun.frames_length, fun i f => RowRun.frames_frameOf (by omega)⟩
  · rintro made sorted kept dropped converts rfl rfl hkept hconverts
    obtain ⟨hperm, hascending, hstable⟩ := sortFrames_stableSort k.madeFrames
    obtain ⟨hframes, hslivers⟩ := LocateInputs.plan_of_kept hkept hconverts
    refine ⟨hperm, hascending, hstable, ?_, fun i f g hf hg => ?_, hslivers⟩
    · have := congrArg List.length hframes
      rw [List.length_map, List.length_map] at this
      exact this.symm
    · have hone := congrArg (·[i]?) hframes
      simp only [List.getElem?_map, hf, hg, Option.map_some, Option.some.injEq] at hone
      exact SurveyFrame.convert_convertedTo hone

end Sys2Proof.Machine

/-! # The classes of a row's pixels, and its runs (R84 to R91, R103). -/

namespace Sys2Proof.Machine

/-! ## Classes -/

/-- A transmission below a threshold, without the division (R89). -/
theorem transmission_lt_iff {i c t : Nat} (hc : 1 ≤ c) (ht : t ≤ 256) : transmission i c < t ↔ i * 256 < t * c := by
  rw [transmission, min_lt_iff, Nat.div_lt_iff_lt_mul hc]
  exact or_iff_right (Nat.not_lt.mpr ht)

section Classes
variable {k : Classification} {x j t : Nat}

theorem registeredColumn_eq (hx : x < k.width) (h : k.Registers x j) : registeredColumn k.dx k.width x = j := by
  obtain ⟨hleft, hinside, hright⟩ := h
  unfold registeredColumn
  omega

theorem isListed_iff {columns : List Nat} {left : Nat} : isListed columns left x = true ↔ left + x ∈ columns :=
  List.contains_iff_mem

theorem CleanupState.classifies_iff {c : CleanupState} : c.classifies = true ↔ c ∈ [.full, .denseOnly] := by
  cases c <;> simp [CleanupState.classifies]

theorem CleanupState.not_classifies_iff {c : CleanupState} : c.classifies = false ↔ c ∈ [.off, .opaqueFilm] := by
  cases c <;> simp [CleanupState.classifies]

theorem Classification.classAt_of_not_classifies (h : k.cleanup.classifies = false) (x : Nat) : k.classAt x = .clean := by
  simp [Classification.classAt, h]

theorem Classification.classAt_listed (h : k.cleanup.classifies = true) (hx : k.left + x ∈ k.columns) :
    k.classAt x = .bridge := by
  simp [Classification.classAt, h, isListed_iff.mpr hx]

theorem Classification.classAt_unlisted (h : k.cleanup.classifies = true) (hx : k.left + x ∉ k.columns)
    (hw : x < k.width) (hj : k.Registers x j) :
    k.classAt x = classOfTransmission k.tDense k.tFaint (transmission ((k.values[j]?).getD k.clearLevel) k.clearLevel) := by
  have hlisted : ¬isListed k.columns k.left x = true := fun hl => hx (isListed_iff.mp hl)
  rw [Classification.classAt, if_pos h, if_neg hlisted, registeredColumn_eq hw hj, Classification.irAt,
    List.getD_eq_getElem?_getD]

theorem classOfTransmission_dense {tDense tFaint : Nat} (h : t < tDense) : classOfTransmission tDense tFaint t = .dense :=
  if_pos h

theorem classOfTransmission_faint {tDense tFaint : Nat} (h : tDense ≤ t) (hf : t < tFaint) :
    classOfTransmission tDense tFaint t = .faint := by
  rw [classOfTransmission, if_neg h.not_gt, if_pos hf]

theorem classOfTransmission_clean {tDense tFaint : Nat} (h : tDense ≤ t) (hf : tFaint ≤ t) :
    classOfTransmission tDense tFaint t = .clean := by
  rw [classOfTransmission, if_neg h.not_gt, if_neg hf.not_gt]

end Classes

/-! ## Runs -/

/-- A pixel that a run may hold: dense, or a bridge (R103). -/
def PixelClass.Joins (c : PixelClass) : Prop := c = .dense ∨ c = .bridge

theorem PixelClass.not_joins_iff {c : PixelClass} : ¬c.Joins ↔ c = .faint ∨ c = .clean := by
  cases c <;> simp [PixelClass.Joins]

/-- The number of dense pixels among the columns `first` to `stop`. -/
def denseBetween (c : Nat → PixelClass) (first stop : Nat) : Nat :=
  ((List.range (stop - first + 1)).filter fun i => decide (c (first + i) = .dense)).length

/-- `r` is a sequence of dense pixels and bridges, with its dense ones counted, that no such pixel precedes. -/
structure Run.Gathers (c : Nat → PixelClass) (r : Run) : Prop where
  ascends : r.start ≤ r.stop
  area : r.area = denseBetween c r.start r.stop
  joins : ∀ x, r.start ≤ x → x ≤ r.stop → (c x).Joins
  bounded : 0 < r.start → ¬(c (r.start - 1)).Joins

/-- `r` is a run of a row of a width: such a sequence that no such pixel follows, with a dense pixel in it (R103). -/
structure Run.IsRun (c : Nat → PixelClass) (width : Nat) (r : Run) : Prop extends r.Gathers c where
  inside : r.stop < width
  dense : 1 ≤ r.area
  ended : r.stop + 1 < width → ¬(c (r.stop + 1)).Joins

/-- `acc` is the sequence that reaches the column before `x`, none where that is no pixel of a run. -/
def ReachesTo (c : Nat → PixelClass) (x : Nat) : Option Run → Prop
  | some r => r.Gathers c ∧ r.stop + 1 = x
  | none => 0 < x → ¬(c (x - 1)).Joins

/-- The first column of the sequence that reaches the column before `x`, or `x`. -/
def reachStart (x : Nat) : Option Run → Nat
  | some r => r.start
  | none => x

/-- `l` are the runs, from column `first` on, of a row of a width, apart and in order, with all its dense pixels (R103). -/
structure RunsOf (c : Nat → PixelClass) (width first : Nat) (l : List Run) : Prop where
  isRun : ∀ r ∈ l, first ≤ r.start ∧ r.IsRun c width
  apart : l.Pairwise fun a b => a.stop + 2 ≤ b.start
  covers : ∀ x, first ≤ x → x < width → c x = .dense → ∃ r ∈ l, r.start ≤ x ∧ x ≤ r.stop

section Runs
variable {c : Nat → PixelClass} {width x : Nat} {acc : Option Run} {l : List Run}

theorem denseBetween_self (c : Nat → PixelClass) (x : Nat) : denseBetween c x x = if c x = .dense then 1 else 0 := by
  simp only [denseBetween, Nat.sub_self, Nat.zero_add, List.range_one, List.filter_singleton, Nat.add_zero,
    Bool.cond_decide]
  split <;> rfl

theorem denseBetween_succ {first stop : Nat} (h : first ≤ stop) :
    denseBetween c first (stop + 1) = denseBetween c first stop + if c (stop + 1) = .dense then 1 else 0 := by
  have hcount : stop + 1 - first + 1 = (stop - first + 1) + 1 := by omega
  have hlast : first + (stop - first + 1) = stop + 1 := by omega
  simp only [denseBetween, hcount, List.range_succ (n := stop - first + 1), List.filter_append, List.length_append,
    List.filter_singleton, hlast]
  split_ifs <;> simp_all

theorem one_le_denseBetween {first stop : Nat} (hlo : first ≤ x) (hhi : x ≤ stop) (hx : c x = .dense) :
    1 ≤ denseBetween c first stop := by
  refine List.length_pos_of_mem (a := x - first) (List.mem_filter.mpr ⟨List.mem_range.mpr (by omega), ?_⟩)
  simpa [Nat.add_sub_cancel' hlo] using hx

theorem reachesTo_none (h : ¬(c x).Joins) : ReachesTo c (x + 1) none := fun _ => h

/-- A pixel that joins extends the sequence that reaches it. -/
theorem ReachesTo.extend (h : ReachesTo c x acc) (hx : (c x).Joins) :
    ReachesTo c (x + 1) (some (extendRun x (if c x = .dense then 1 else 0) acc)) := by
  cases acc with
  | none =>
    refine ⟨⟨le_rfl, (denseBetween_self c x).symm, fun y hlo hhi => ?_, h⟩, rfl⟩
    obtain rfl : x = y := le_antisymm hlo hhi
    exact hx
  | some r =>
    obtain ⟨hr, rfl⟩ := h
    refine ⟨⟨Nat.le_succ_of_le hr.ascends, ?_, fun y hlo hhi => ?_, hr.bounded⟩, rfl⟩
    · exact (congrArg (· + _) hr.area).trans (denseBetween_succ hr.ascends).symm
    · rcases Nat.le_succ_iff.mp hhi with hhi | rfl
      · exact hr.joins y hlo hhi
      · exact hx

theorem reachStart_extend (dense : Nat) : reachStart (x + 1) (some (extendRun x dense acc)) = reachStart x acc := by
  cases acc <;> rfl

/-- A sequence that no pixel extends is the one run of its columns, if it holds a dense pixel (R103). -/
theorem ReachesTo.closeRun (h : ReachesTo c x acc) (hx : x ≤ width) (hend : x < width → ¬(c x).Joins) :
    (∀ r ∈ closeRun acc, reachStart x acc ≤ r.start ∧ r.stop + 1 = x ∧ r.IsRun c width)
      ∧ (closeRun acc).Pairwise (fun a b => a.stop + 2 ≤ b.start)
      ∧ ∀ y, reachStart x acc ≤ y → y < x → c y = .dense → ∃ r ∈ closeRun acc, r.start ≤ y ∧ y ≤ r.stop := by
  cases acc with
  | none => exact ⟨nofun, .nil, fun y hlo hhi => absurd hlo (by simpa [reachStart] using hhi)⟩
  | some r =>
    obtain ⟨hr, rfl⟩ := h
    by_cases harea : r.area = 0
    · simp only [Machine.closeRun, harea, if_true]
      refine ⟨nofun, .nil, fun y hlo hhi hy => ?_⟩
      have hpos : 1 ≤ denseBetween c r.start r.stop := one_le_denseBetween hlo (Nat.le_of_lt_succ hhi) hy
      rw [← hr.area, harea] at hpos
      cases hpos
    · simp only [Machine.closeRun, harea, if_false, List.mem_singleton, forall_eq, exists_eq_left]
      exact ⟨⟨le_rfl, trivial, hr, hx, Nat.pos_of_ne_zero harea, hend⟩, List.pairwise_singleton _ _,
        fun y hlo hhi _ => ⟨hlo, Nat.le_of_lt_succ hhi⟩⟩

/-- A sequence closed by the row's end gives its runs. -/
theorem ReachesTo.runsOf_end (h : ReachesTo c width acc) : RunsOf c width (reachStart width acc) (Machine.closeRun acc) := by
  obtain ⟨hrun, honly, hcovers⟩ := h.closeRun le_rfl (fun hlt => absurd hlt (lt_irrefl _))
  refine ⟨fun r hr => ?_, honly, hcovers⟩
  obtain ⟨hlo, -, hr⟩ := hrun r hr
  exact ⟨hlo, hr⟩

/-- A sequence closed by a pixel that does not join stands before the runs behind that pixel. -/
theorem ReachesTo.runsOf_append (h : ReachesTo c x acc) (hx : x < width) (hend : ¬(c x).Joins)
    (hl : RunsOf c width (x + 1) l) : RunsOf c width (reachStart x acc) (Machine.closeRun acc ++ l) := by
  obtain ⟨hrun, honly, hcovers⟩ := h.closeRun hx.le fun _ => hend
  have hstart : reachStart x acc ≤ x := by
    cases acc with
    | none => exact le_rfl
    | some r =>
      obtain ⟨hr, rfl⟩ := h
      exact Nat.le_succ_of_le hr.ascends
  refine ⟨fun r hr => ?_, ?_, fun y hlo hhi hy => ?_⟩
  · rcases List.mem_append.mp hr with hr | hr
    · obtain ⟨hlo, -, hr⟩ := hrun r hr
      exact ⟨hlo, hr⟩
    · obtain ⟨hlo, hr⟩ := hl.isRun r hr
      exact ⟨by omega, hr⟩
  · refine List.pairwise_append.mpr ⟨honly, hl.apart, fun a ha b hb => ?_⟩
    obtain ⟨-, hstop, -⟩ := hrun a ha
    obtain ⟨hlo, -⟩ := hl.isRun b hb
    omega
  · rcases lt_trichotomy y x with hyx | rfl | hyx
    · obtain ⟨r, hr, hin⟩ := hcovers y hlo hyx hy
      exact ⟨r, List.mem_append_left _ hr, hin⟩
    · exact absurd (Or.inl hy) hend
    · obtain ⟨r, hr, hin⟩ := hl.covers y hyx hhi hy
      exact ⟨r, List.mem_append_right _ hr, hin⟩

/-- The search from column `x` on, with the sequence that reaches it, finds the runs from that sequence's start on. -/
theorem runsFrom_runsOf {n : Nat} (hn : x + n = width) (h : ReachesTo c x acc) :
    RunsOf c width (reachStart x acc) (runsFrom x acc ((List.range' x n).map c)) := by
  induction n generalizing x acc with
  | zero =>
    obtain rfl : x = width := hn
    exact h.runsOf_end
  | succ n ih =>
    have hnext : x + 1 + n = width := by omega
    have hlt : x < width := by omega
    have hstays (hx : ¬(c x).Joins) := h.runsOf_append hlt hx (ih hnext (reachesTo_none hx))
    have hjoins (hx : (c x).Joins) := ih hnext (h.extend hx)
    simp only [reachStart_extend] at hjoins
    rw [List.range'_succ, List.map_cons]
    cases hx : c x with
    | dense => simpa only [hx, if_true, runsFrom] using hjoins (.inl hx)
    | bridge => simpa only [hx, reduceCtorEq, if_false, runsFrom] using hjoins (.inr hx)
    | faint => exact hstays (PixelClass.not_joins_iff.mpr (.inl hx))
    | clean => exact hstays (PixelClass.not_joins_iff.mpr (.inr hx))

theorem Classification.runs_runsOf (k : Classification) : RunsOf k.classAt k.width 0 k.runs := by
  rw [Classification.runs, Classification.classes, List.range_eq_range']
  exact runsFrom_runsOf (acc := none) (Nat.zero_add _) fun h => absurd h (lt_irrefl 0)

end Runs

/-- Settles O48: the class of each pixel by its transmission, and the runs by induction on the columns still to come. -/
theorem runsAreMaximal : Obligations.RunsAreMaximal := by
  refine ⟨fun i c t hc _ ht => transmission_lt_iff hc ht, fun k => ⟨fun hoff => ?_, fun hon => ?_, ?_⟩⟩
  · exact Classification.classAt_of_not_classifies (CleanupState.not_classifies_iff.mpr hoff)
  · have hon := CleanupState.classifies_iff.mpr hon
    rintro x j i t hx hj rfl rfl
    refine ⟨Classification.classAt_listed hon, fun hlisted => ?_⟩
    rw [Classification.classAt_unlisted hon hlisted hx hj]
    exact ⟨rfl, classOfTransmission_dense, classOfTransmission_faint, classOfTransmission_clean⟩
  · obtain ⟨hrun, hapart, hcovers⟩ := k.runs_runsOf
    refine ⟨hapart, fun r hr => ?_, fun x => hcovers x (Nat.zero_le x)⟩
    obtain ⟨-, hr⟩ := hrun r hr
    exact ⟨hr.ascends, hr.inside, hr.dense, hr.area, hr.joins, fun h => PixelClass.not_joins_iff.mp (hr.bounded h),
      fun h => PixelClass.not_joins_iff.mp (hr.ended h)⟩

end Sys2Proof.Machine

/-! # Following a row's runs and closing blemishes (R110 to R118). -/

namespace Sys2Proof.Machine

/-! ## Wide runs in order -/

section WideRuns
variable {u v w : WideRun} {a b l : List WideRun}

theorem WideRun.NotAfter.trans (h : u.NotAfter v) (h' : v.NotAfter w) : u.NotAfter w := by
  unfold WideRun.NotAfter at *
  omega

theorem insertWide_perm (w : WideRun) (l : List WideRun) : (insertWide w l).Perm (w :: l) := by
  induction l with
  | nil => rfl
  | cons v rest ih =>
    unfold insertWide
    split
    · rfl
    · exact (ih.cons v).trans (.swap w v rest)

/-- A wide run enters an ordered list in its place (R110). -/
theorem insertWide_pairwise (h : l.Pairwise WideRun.NotAfter) : (insertWide w l).Pairwise WideRun.NotAfter := by
  induction l with
  | nil => exact List.pairwise_singleton _ w
  | cons v rest ih =>
    obtain ⟨hv, hrest⟩ := List.pairwise_cons.mp h
    unfold insertWide
    split
    · rename_i hbefore
      have hwv : w.NotAfter v := hbefore.imp_right fun ⟨hrow, hstart⟩ => ⟨hrow, hstart.le⟩
      refine List.pairwise_cons.mpr ⟨fun u hu => ?_, h⟩
      rcases List.mem_cons.mp hu with rfl | hu
      · exact hwv
      · exact hwv.trans (hv u hu)
    · rename_i hnot
      have hvw : v.NotAfter w := by
        unfold WideRun.NotAfter
        omega
      refine List.pairwise_cons.mpr ⟨fun u hu => ?_, ih hrest⟩
      rcases List.mem_cons.mp ((insertWide_perm w rest).mem_iff.mp hu) with rfl | hu
      · exact hvw
      · exact hv u hu

/-- The wide runs of a second list entered one by one: those of both, in order (R114). -/
theorem foldl_insertWide (ha : a.Pairwise WideRun.NotAfter) (b : List WideRun) :
    (b.foldl (fun acc w => insertWide w acc) a).Perm (a ++ b)
      ∧ (b.foldl (fun acc w => insertWide w acc) a).Pairwise WideRun.NotAfter := by
  induction b generalizing a with
  | nil => exact ⟨by rw [List.append_nil]; rfl, ha⟩
  | cons w rest ih =>
    obtain ⟨hperm, hordered⟩ := ih (insertWide_pairwise (w := w) ha)
    exact ⟨hperm.trans (((insertWide_perm w a).append_right rest).trans List.perm_middle.symm), hordered⟩

theorem mergeWide_sorted (ha : a.Pairwise WideRun.NotAfter) :
    ∃ l : List WideRun, l.Perm (a ++ b) ∧ l.Pairwise WideRun.NotAfter ∧ mergeWide a b = l.take 4 := by
  obtain ⟨hperm, hordered⟩ := foldl_insertWide ha b
  exact ⟨_, hperm, hordered, rfl⟩

end WideRuns

/-! ## One run taken -/

/-- `m` is blemish `b` with the blemishes `others` absorbed into it, each after the one before (R114). -/
structure OpenBlemish.Merges (b : OpenBlemish) (others : List OpenBlemish) (m : OpenBlemish) : Prop where
  key : m.key = b.key
  firstRow : m.firstRow = (others.map (·.firstRow)).foldl min b.firstRow
  left : m.left = (others.map (·.left)).foldl min b.left
  right : m.right = (others.map (·.right)).foldl max b.right
  area : m.area = b.area + (others.map (·.area)).sum
  widest : m.widest = (others.map (·.widest)).foldl max b.widest
  mergeCount : m.mergeCount = b.mergeCount + (others.map (·.mergeCount)).sum + others.length
  wide : m.wide = true ↔ b.wide = true ∨ ∃ o ∈ others, o.wide = true
  partialRec : m.partialRec = true ↔ b.partialRec = true ∨ ∃ o ∈ others, o.partialRec = true
  edge : m.edge = true ↔ b.edge = true ∨ ∃ o ∈ others, o.edge = true
  wideRuns : m.wideRuns = others.foldl (fun l o => mergeWide l o.wideRuns) b.wideRuns

section Taken
variable {b m : OpenBlemish} {others : List OpenBlemish} {r : Run} {c : RunContext} {t : Tracking} {position : Nat}
  {touches : OpenBlemish → Bool}

theorem OpenBlemish.merges_nil (b : OpenBlemish) : b.Merges [] b := by constructor <;> simp

/-- Absorbing one blemish and then the others absorbs all of them. -/
theorem OpenBlemish.Merges.cons {o : OpenBlemish} (h : (b.absorb o).Merges others m) : b.Merges (o :: others) m where
  key := h.key
  firstRow := h.firstRow
  left := h.left
  right := h.right
  area := by rw [h.area, List.map_cons, List.sum_cons]; exact Nat.add_assoc ..
  widest := h.widest
  mergeCount := by
    rw [h.mergeCount, List.map_cons, List.sum_cons, List.length_cons]
    simp only [OpenBlemish.absorb]
    omega
  wide := by rw [h.wide]; simp [OpenBlemish.absorb, or_assoc]
  partialRec := by rw [h.partialRec]; simp [OpenBlemish.absorb, or_assoc]
  edge := by rw [h.edge]; simp [OpenBlemish.absorb, or_assoc]
  wideRuns := h.wideRuns

theorem OpenBlemish.foldl_absorb_merges (b : OpenBlemish) (others : List OpenBlemish) :
    b.Merges others (others.foldl OpenBlemish.absorb b) := by
  induction others generalizing b with
  | nil => exact b.merges_nil
  | cons o rest ih => exact (ih (b.absorb o)).cons

theorem Run.atEdge_iff : r.atEdge c = true ↔ r.start = 0 ∨ r.stop = c.width - 1 ∨ c.row = 0 ∨ c.row = c.height - 1 := by
  simp [Run.atEdge, or_assoc]

/-- The run joins the survivor of the merge (R115). -/
theorem OpenBlemish.Merges.joined (h : b.Merges others m) : b.Joined others r c (m.join r c) := by
  refine ⟨h.key, h.firstRow, rfl, rfl, congrArg (min · r.start) h.left, congrArg (max · r.stop) h.right,
    congrArg (· + r.area) h.area, congrArg (max · r.length) h.widest, h.mergeCount, ?_, ?_, ?_, ?_⟩
  · simp only [OpenBlemish.join, Bool.or_eq_true, h.wide, decide_eq_true_eq, or_assoc]
    rfl
  · simp only [OpenBlemish.join, Bool.or_eq_true, h.partialRec, or_assoc]
  · simp only [OpenBlemish.join, Bool.or_eq_true, h.edge, Run.atEdge_iff, or_assoc]
  · rintro held rfl
    rw [← h.wideRuns]
    exact if_congr (by rw [Bool.and_eq_true, decide_eq_true_eq, decide_eq_true_eq, Run.length]) rfl rfl

theorem Tracking.touched_eq
    (h : ∀ b, touches b = true ↔ ∃ p ∈ t.previous, p.key = b.key ∧ r.start ≤ p.stop + 1 ∧ p.start ≤ r.stop + 1) :
    t.touched r = t.openTable.filter touches := by
  refine List.filter_congr fun b _ => Bool.eq_iff_iff.mpr ?_
  rw [h]
  simp [Run.touches]

theorem Tracking.take_beyond (h : 256 < position) : t.take position r c = { t with untracked := t.untracked + 1 } := if_pos h

theorem Tracking.take_full (hp : position ≤ 256) (ht : t.touched r = []) (hfull : 64 ≤ t.openTable.length) :
    t.take position r c = { t with untracked := t.untracked + 1 } := by
  rw [Tracking.take, if_neg hp.not_gt, ht]
  exact if_neg hfull.not_gt

theorem Tracking.take_opens (hp : position ≤ 256) (ht : t.touched r = []) (hroom : t.openTable.length < 64) :
    t.take position r c = { t with
      openTable := t.openTable ++ [OpenBlemish.opened t.nextKey r c]
      nextKey := t.nextKey + 1
      current := t.current ++ [⟨r.start, r.stop, t.nextKey⟩] } := by
  rw [Tracking.take, if_neg hp.not_gt, ht]
  exact if_pos hroom

theorem OpenBlemish.opened_eq (key : Nat) : OpenBlemish.opened key r c =
    { key := key, firstRow := c.row, lastRow := c.row, left := r.start, right := r.stop, area := r.area, rows := 1,
      widest := r.stop - r.start + 1, mergeCount := 0, wide := decide (c.wMax < r.stop - r.start + 1),
      partialRec := c.refused,
      edge := decide (r.start = 0 ∨ r.stop = c.width - 1 ∨ c.row = 0 ∨ c.row = c.height - 1),
      wideRuns := if c.wMax < r.stop - r.start + 1 then [⟨c.row, r.start, r.stop⟩] else [] } := by
  have hedge : r.atEdge c = decide (r.start = 0 ∨ r.stop = c.width - 1 ∨ c.row = 0 ∨ c.row = c.height - 1) := by
    rw [Bool.eq_iff_iff, Run.atEdge_iff, decide_eq_true_eq]
  simp [OpenBlemish.opened, Run.length, hedge]

theorem rekey_eq (absorbed : List Nat) (survivor : Nat) (runs : List TrackedRun) : rekey absorbed survivor runs =
    runs.map fun p => if p.key ∈ absorbed then { p with key := survivor } else p := by
  simp [rekey]

theorem Tracking.take_joins (hp : position ≤ 256) (ht : t.touched r = b :: others) : t.take position r c = { t with
      openTable := (t.openTable.filter fun o => decide (o.key ∉ others.map (·.key))).map fun o =>
        if o.key = b.key then (others.foldl OpenBlemish.absorb b).join r c else o
      previous := rekey (others.map (·.key)) b.key t.previous
      current := rekey (others.map (·.key)) b.key t.current ++ [⟨r.start, r.stop, b.key⟩] } := by
  rw [Tracking.take, if_neg hp.not_gt, ht]
  simp only [Tracking.enter, List.contains_eq_mem, decide_not]

/-- One run is taken as the open blemishes it touches say (R111 to R115). -/
theorem Tracking.take_follows (t : Tracking) (position : Nat) (r : Run) (c : RunContext) :
    t.Follows position r c (t.take position r c) := by
  intro touches htouches
  rw [← Tracking.touched_eq htouches]
  refine ⟨Tracking.take_beyond, Tracking.take_full, fun hp ht hroom => ?_, fun b others hp ht => ?_⟩
  · rw [Tracking.take_opens hp ht hroom, OpenBlemish.opened_eq]
  · refine ⟨_, (b.foldl_absorb_merges others).joined, ?_⟩
    rw [Tracking.take_joins hp ht, rekey_eq, rekey_eq]

end Taken

/-! ## Closing -/

/-- The listing `l` with the counts of `m` beneath its own. -/
def Listing.above (m l : Listing) : Listing :=
  { l with closed := m.closed + l.closed, listed := m.listed + l.listed, unlisted := m.unlisted + l.unlisted }

section Closing
variable {minArea : Nat} {v : SlotId} {generation : Half16} {cut : Bool}

/-- One closing is as its area, the serials and the queue's room say (R116 to R118). -/
theorem Listing.close_closes (l : Listing) (b : OpenBlemish) :
    l.Closes minArea v generation cut b (l.close minArea v generation cut b) := by
  refine ⟨fun h => if_pos h, fun h hs => ?_, fun n h hs => ⟨fun hq => ?_, fun hq => ?_⟩⟩
  · simp only [Listing.close, if_neg h.not_gt, hs]
  · simp only [Listing.close, if_neg h.not_gt, hs]
    exact if_pos hq
  · simp only [Listing.close, if_neg h.not_gt, hs]
    exact if_neg hq.not_gt

theorem Listing.close_above (m l : Listing) (b : OpenBlemish) :
    (m.above l).close minArea v generation cut b = m.above (l.close minArea v generation cut b) := by
  unfold Listing.close
  dsimp only [Listing.above]
  split
  · rfl
  · cases l.nextSerial with
    | none => rfl
    | some n => dsimp only; split <;> rfl

theorem Listing.closeAll_above (bs : List OpenBlemish) (m l : Listing) :
    Listing.closeAll minArea v generation cut bs (m.above l) = m.above (Listing.closeAll minArea v generation cut bs l) := by
  induction bs generalizing l with
  | nil => rfl
  | cons b rest ih =>
    have hfirst := Listing.close_above (minArea := minArea) (v := v) (generation := generation) (cut := cut) m l b
    exact (congrArg (Listing.closeAll minArea v generation cut rest) hfirst).trans (ih _)

/-- A second set of closings counts on from the first. -/
theorem Listing.closeAll_from (bs : List OpenBlemish) (l : Listing) : Listing.closeAll minArea v generation cut bs l =
    l.above (Listing.closeAll minArea v generation cut bs ⟨l.queue, l.nextSerial, 0, 0, 0⟩) :=
  Listing.closeAll_above bs l ⟨l.queue, l.nextSerial, 0, 0, 0⟩

end Closing

/-! ## Recording -/

section Recording
variable {v : SlotId} {row wMax : Nat} {runs : List Run} {acc : Recording} {sp x : Span} {l : List Span}

theorem mem_insertSpan : sp ∈ insertSpan x l ↔ sp = x ∨ sp ∈ l := by
  induction l with
  | nil => simp [insertSpan]
  | cons y rest ih =>
    unfold insertSpan
    split
    · exact List.mem_cons
    · rw [List.mem_cons, ih, List.mem_cons, or_left_comm]

theorem length_insertSpan : (insertSpan x l).length = l.length + 1 := by
  induction l with
  | nil => rfl
  | cons y rest ih =>
    unfold insertSpan
    split
    · rfl
    · exact congrArg (· + 1) ih

/-- The runs of a row no longer resident are not offered (R106). -/
theorem recordRuns_lost : recordRuns true v row wMax runs acc =
    { acc with refused := acc.refused ++ List.replicate runs.length false } := by
  induction runs generalizing acc with
  | nil => simp [recordRuns]
  | cons r rest ih =>
    rw [recordRuns, if_pos rfl, ih, List.append_assoc]
    rfl

/-- `rec` is the recording `acc` after the runs of a resident row: they enter the table in turn while it has room (R106). -/
structure Recording.Records (acc : Recording) (v : SlotId) (row wMax : Nat) (runs : List Run) (rec : Recording) : Prop where
  mem : ∀ sp, sp ∈ rec.spans ↔ sp ∈ acc.spans ∨ ∃ r ∈ runs.take (4096 - acc.spans.length), sp = r.span v row wMax
  refused : rec.refused = acc.refused ++ (List.range runs.length).map fun i => decide (4096 ≤ acc.spans.length + i)
  recorded : rec.recorded = acc.recorded + min runs.length (4096 - acc.spans.length)

theorem recordRuns_full {r : Run} (h : 4096 ≤ acc.spans.length) : recordRuns false v row wMax (r :: runs) acc =
    recordRuns false v row wMax runs { acc with refused := acc.refused ++ [true] } := by
  rw [recordRuns, if_neg nofun]
  exact if_pos h

theorem recordRuns_room {r : Run} (h : acc.spans.length < 4096) : recordRuns false v row wMax (r :: runs) acc =
    recordRuns false v row wMax runs
      ⟨insertSpan (r.span v row wMax) acc.spans, acc.refused ++ [false], acc.recorded + 1⟩ := by
  rw [recordRuns, if_neg nofun]
  exact if_neg h.not_ge

theorem recordRuns_records : acc.Records v row wMax runs (recordRuns false v row wMax runs acc) := by
  induction runs generalizing acc with
  | nil => exact ⟨by simp [recordRuns], by simp [recordRuns], by simp [recordRuns]⟩
  | cons r rest ih =>
    by_cases hfull : 4096 ≤ acc.spans.length
    · rw [recordRuns_full hfull]
      obtain ⟨hmem, hrefused, hrecorded⟩ := ih (acc := { acc with refused := acc.refused ++ [true] })
      have hnone : 4096 - acc.spans.length = 0 := Nat.sub_eq_zero_of_le hfull
      have hall (i : Nat) : 4096 ≤ acc.spans.length + i := Nat.le_add_right_of_le hfull
      refine ⟨fun sp => ?_, ?_, ?_⟩
      · rw [hmem]
        simp [hnone]
      · rw [hrefused]
        simp [List.range_succ_eq_map, hall]
      · rw [hrecorded]
        simp [hnone]
    · rw [recordRuns_room (not_le.mp hfull)]
      obtain ⟨hmem, hrefused, hrecorded⟩ := ih
        (acc := ⟨insertSpan (r.span v row wMax) acc.spans, acc.refused ++ [false], acc.recorded + 1⟩)
      rw [length_insertSpan] at hmem hrefused hrecorded
      have hroom : 4096 - acc.spans.length = (4096 - (acc.spans.length + 1)) + 1 := by omega
      refine ⟨fun sp => ?_, ?_, ?_⟩
      · rw [hmem, mem_insertSpan, hroom, List.take_succ_cons]
        simp only [List.mem_cons, exists_eq_or_imp, or_left_comm, or_assoc]
      · rw [hrefused]
        simp [List.range_succ_eq_map, hfull, Function.comp_def, Nat.add_assoc, Nat.add_comm 1]
      · simp only [hrecorded, hroom, List.length_cons]
        omega

theorem count_refused (room n : Nat) :
    ((List.range n).map fun i => decide (4096 ≤ room + i)).count true = n - (4096 - room) := by
  induction n with
  | zero => simp
  | succ n ih =>
    rw [List.range_succ, List.map_append, List.count_append, ih, List.map_singleton, List.count_singleton]
    by_cases h : 4096 ≤ room + n <;> simp [h] <;> omega

end Recording

end Sys2Proof.Machine

/-! # The end of a row classification (R92 to R94, R99, R104 to R119). -/

namespace Sys2Proof.Machine

/-! ## The row's spans, blemishes and half -/

/-- A blemish has a run in the row just followed (R116). -/
def Tracking.continues (t : Tracking) (b : OpenBlemish) : Bool := t.current.any fun p => decide (p.key = b.key)

/-- The runs of the row classified, offered to the span table (R106). -/
def State.rowRecording (s : State) (k : Classification) : Recording :=
  recordRuns ((s.slot k.slot).hasLost k.row) k.slot k.row k.wMax k.runs ⟨s.bt.spans, [], 0⟩

/-- The runs of the row followed (R111 to R115). -/
def State.rowTracking (s : State) (k : Classification) : Tracking :=
  Tracking.takeAll ⟨k.row, k.width, (s.slot k.slot).height, k.wMax, false⟩ 1 k.runs (s.rowRecording k).refused
    ⟨s.bt.openTable, s.bt.previous, [], s.bt.nextKey, 0⟩

/-- The closings of the blemishes without a run in the row (R116 to R118). -/
def State.rowListing (s : State) (k : Classification) : Listing :=
  Listing.closeAll k.minArea k.slot (s.slot k.slot).generation false
    ((s.rowTracking k).openTable.filter fun b => !(s.rowTracking k).continues b) ⟨s.lw.queue, s.bt.nextSerial, 0, 0, 0⟩

/-- The refused and the untracked runs of the row counted (log 32). -/
def State.rowCounted (k : Classification) (s : State) : State :=
  State.countTimes untrackedRun (s.rowTracking k).untracked (State.countTimes spanOverflow (s.rowRecording k).overflows s)

/-- The state once the row's classification has ended, before what follows it (R94, step 1). -/
def State.rowEnded (k : Classification) (s : State) : State :=
  { s with
    fl := { s.fl with slots := s.fl.slots.set k.slot.val { s.slot k.slot with classified := k.row + 1 } }
    iu := s.iu.mapHalf (fun _ => .vacant) ((s.slot k.slot).top + k.row)
    lw := { s.lw with queue := (s.rowListing k).queue }
    ru := (State.countTimes unlistedBlemish (s.rowListing k).unlisted (s.rowCounted k)).ru
    bt := { s.bt with
      spans := (s.rowRecording k).spans
      openTable := (s.rowTracking k).openTable.filter (s.rowTracking k).continues
      previous := (s.rowTracking k).current
      nextKey := (s.rowTracking k).nextKey
      nextSerial := (s.rowListing k).nextSerial
      classifying := none
      tally :=
        { rows := s.bt.tally.rows + 1
          torn := s.bt.tally.torn + k.torn
          closed := s.bt.tally.closed + (s.rowListing k).closed
          listed := s.bt.tally.listed + (s.rowListing k).listed
          unlisted := s.bt.tally.unlisted + (s.rowListing k).unlisted
          spans := s.bt.tally.spans + (s.rowRecording k).recorded
          overflows := s.bt.tally.overflows + (s.rowRecording k).overflows
          untracked := s.bt.tally.untracked + (s.rowTracking k).untracked } } }

section RowEnd
variable {s : State} {k : Classification}

/-- Closings change the holding queue, the serials and the tally, and count what is unlisted (R116 to R118, R122). -/
theorem State.closeBlemishes_eq {minArea : Nat} {v : SlotId} {cut : Bool} {bs : List OpenBlemish} {l : Listing}
    (hl : l = Listing.closeAll minArea v (s.slot v).generation cut bs ⟨s.lw.queue, s.bt.nextSerial, 0, 0, 0⟩) :
    s.closeBlemishes minArea v cut bs = { s with
      lw := { s.lw with queue := l.queue }
      ru := (State.countTimes unlistedBlemish l.unlisted s).ru
      bt := { s.bt with
        nextSerial := l.nextSerial
        tally := { s.bt.tally with
          closed := s.bt.tally.closed + l.closed
          listed := s.bt.tally.listed + l.listed
          unlisted := s.bt.tally.unlisted + l.unlisted } } } := by
  rw [State.closeBlemishes, ← hl]
  dsimp only
  rw [State.countTimes_eq]
  refine State.eq_of_blocks rfl rfl rfl rfl rfl rfl rfl rfl ?_ rfl rfl rfl
  exact State.countTimes_ru_congr _ _ rfl rfl

/-- The state with the row's runs recorded and followed, before anything is counted or closed. -/
def State.rowTracked (k : Classification) (s : State) : State :=
  { s with bt := { s.bt with
      spans := (s.rowRecording k).spans
      openTable := (s.rowTracking k).openTable.filter (s.rowTracking k).continues
      previous := (s.rowTracking k).current
      nextKey := (s.rowTracking k).nextKey
      tally := { s.bt.tally with
        rows := s.bt.tally.rows + 1
        torn := s.bt.tally.torn + k.torn
        spans := s.bt.tally.spans + (s.rowRecording k).recorded
        overflows := s.bt.tally.overflows + (s.rowRecording k).overflows
        untracked := s.bt.tally.untracked + (s.rowTracking k).untracked } } }

theorem State.rowTracked_counted : State.countTimes untrackedRun (s.rowTracking k).untracked
    (State.countTimes spanOverflow (s.rowRecording k).overflows (s.rowTracked k))
      = { s.rowTracked k with ru := (s.rowCounted k).ru } := by
  rw [State.countTimes_eq, State.countTimes_eq spanOverflow]
  refine State.eq_of_blocks rfl rfl rfl rfl rfl rfl rfl rfl ?_ rfl rfl rfl
  rw [← State.countTimes_eq spanOverflow]
  exact State.countTimes_ru_congr _ _ (State.countTimes_ru_congr _ _ rfl rfl) (by simp [State.rowTracked])

/-- Ycls raised past the row (R94). -/
def State.rowRaised (k : Classification) (s : State) : State :=
  s.setSlot k.slot { s.slot k.slot with classified := k.row + 1 }

/-- The row recorded, followed and counted, then closed, then raised. -/
theorem State.recordRow_stages : s.recordRow k = State.rowRaised k (State.closeBlemishes k.minArea k.slot false
    ((s.rowTracking k).openTable.filter fun b => !(s.rowTracking k).continues b)
    { s.rowTracked k with ru := (s.rowCounted k).ru }) := by
  rw [← State.rowTracked_counted]
  rfl

theorem State.recordRow_eq (k : Classification) (s : State) : s.recordRow k = { s.rowEnded k with
    iu := s.iu
    bt := { (s.rowEnded k).bt with classifying := s.bt.classifying } } := by
  rw [State.recordRow_stages,
    State.closeBlemishes_eq (s := { s.rowTracked k with ru := (s.rowCounted k).ru }) (l := s.rowListing k) rfl]
  refine State.eq_of_blocks rfl rfl rfl rfl rfl rfl rfl rfl ?_ rfl rfl rfl
  exact State.countTimes_ru_congr _ _ rfl (by simp [State.rowCounted, State.rowTracked])

theorem State.rowEnded_slot : (s.rowEnded k).slot k.slot = { s.slot k.slot with classified := k.row + 1 } :=
  (slots_get_set ..).trans (if_pos rfl)

theorem State.recordRow_emptyHalf (k : Classification) (s : State) : (s.recordRow k).emptyHalf k = s.rowEnded k := by
  have hslot : (s.recordRow k).slot k.slot = (s.rowEnded k).slot k.slot := by rw [State.recordRow_eq]; rfl
  rw [State.emptyHalf, hslot, State.rowEnded_slot, State.recordRow_eq]
  rfl

theorem State.rowEnded_activeSlot : activeSlot (s.rowEnded k).fl.slots = activeSlot s.fl.slots := activeSlot_set rfl

theorem State.rowEnded_rowReady {y : Nat} : (s.rowEnded k).rowReady k.slot y = s.rowReady k.slot y := by
  rw [State.rowReady, State.rowEnded_slot, State.rowEnded, IntakeUnit.mapHalf_eq]
  rfl

/-! ## What the row brought -/

theorem Slot.hasLost_iff {x : Slot} {y : Nat} : x.hasLost y = true ↔ ∃ n, x.newest = some n ∧ y + x.bandLines ≤ n := by
  unfold Slot.hasLost
  cases x.newest <;> simp

theorem Slot.hasLost_eq_false {x : Slot} {y : Nat} : x.hasLost y = false ↔ ∀ n, x.newest = some n → n < y + x.bandLines := by
  simp only [← Bool.not_eq_true, Slot.hasLost_iff, not_exists, not_and, not_le]

theorem State.rowRecording_lost (h : (s.slot k.slot).hasLost k.row = true) :
    s.rowRecording k = ⟨s.bt.spans, List.replicate k.runs.length false, 0⟩ := by
  rw [State.rowRecording, h, recordRuns_lost]
  rfl

theorem State.rowRecording_records (h : (s.slot k.slot).hasLost k.row = false) :
    Recording.Records ⟨s.bt.spans, [], 0⟩ k.slot k.row k.wMax k.runs (s.rowRecording k) := by
  rw [State.rowRecording, h]
  exact recordRuns_records

/-- Each run refused, by its place among the runs and the spans there were (R106). -/
theorem State.rowRecording_refused : (s.rowRecording k).refused = (List.range k.runs.length).map
    fun i => decide ((s.slot k.slot).hasLost k.row = false ∧ 4096 ≤ s.bt.spans.length + i) := by
  cases h : (s.slot k.slot).hasLost k.row with
  | true =>
    rw [State.rowRecording_lost h]
    simp
  | false =>
    rw [(State.rowRecording_records h).refused]
    simp

theorem State.rowRecording_lost_overflows (h : (s.slot k.slot).hasLost k.row = true) : (s.rowRecording k).overflows = 0 := by
  rw [State.rowRecording_lost h]
  simp [Recording.overflows, List.count_replicate]

theorem State.rowRecording_overflows (h : (s.slot k.slot).hasLost k.row = false) :
    (s.rowRecording k).overflows = k.runs.length - (4096 - s.bt.spans.length) := by
  rw [Recording.overflows, (State.rowRecording_records h).refused]
  exact count_refused ..

/-- A blemish stays exactly when one of the row's tracked runs is its own (R116). -/
theorem Tracking.continues_iff {t : Tracking} {b : OpenBlemish} : t.continues b = true ↔ ∃ p ∈ t.current, p.key = b.key := by
  simp [Tracking.continues]

/-! ## What follows the row -/

/-- The row is the frame's last: its bottom row, or in DRAINING one with no ready row behind it (R94, step 2). -/
def State.EndsFrame (s : State) (k : Classification) : Prop :=
  k.row + 1 = (s.slot k.slot).height ∨ s.iu.pass = .draining ∧ ¬s.rowReady k.slot (k.row + 1) = true

/-- The state once the frame end of a last row has begun. -/
def State.rowFollowed (k : Classification) (s : State) : State := State.endFrameIfLast k (s.rowEnded k)

/-- The state once the next work of the Blemish Tracker has begun, too (R92). -/
def State.rowClassified (k : Classification) (s : State) : State := (s.rowFollowed k).advance

theorem State.rowEnded_pass : (s.rowEnded k).iu.pass = s.iu.pass := by rw [State.rowEnded, IntakeUnit.mapHalf_eq]

theorem State.rowEnded_height : ((s.rowEnded k).slot k.slot).height = (s.slot k.slot).height := by
  rw [State.rowEnded_slot]
  rfl

theorem State.rowFollowed_of_ends (h : s.EndsFrame k) : s.rowFollowed k = (s.rowEnded k).beginFrameEnd k.slot := by
  rw [State.rowFollowed, State.endFrameIfLast, State.rowEnded_height, State.rowEnded_rowReady, State.rowEnded_pass]
  rcases h with h | ⟨hp, hready⟩
  · exact if_pos h
  · simp [hp, hready]

theorem State.rowFollowed_of_stays (h : ¬s.EndsFrame k) : s.rowFollowed k = s.rowEnded k := by
  obtain ⟨hlast, hdrained⟩ := not_or.mp h
  rw [State.rowFollowed, State.endFrameIfLast, State.rowEnded_height, State.rowEnded_rowReady, State.rowEnded_pass,
    if_neg hlast, if_neg fun hd => hdrained ⟨hd.1, Bool.eq_false_iff.mp hd.2⟩]

/-- `b'` is `b` with other blemishes, closings and work in flight: the spans, the keys, what is pending and the counts of the
rows stay. -/
def BlemishTracker.KeepsRecord (b b' : BlemishTracker) : Prop :=
  b' = { b with
    openTable := b'.openTable
    previous := b'.previous
    nextSerial := b'.nextSerial
    classifying := b'.classifying
    frameEnd := b'.frameEnd
    tally := { b.tally with closed := b'.tally.closed, listed := b'.tally.listed, unlisted := b'.tally.unlisted } }

theorem BlemishTracker.KeepsRecord.trans {a b c : BlemishTracker} (hab : a.KeepsRecord b) (hbc : b.KeepsRecord c) :
    a.KeepsRecord c := by
  unfold BlemishTracker.KeepsRecord at *
  rw [hbc, hab]

theorem State.beginFrameEnd_keepsRecord (v : SlotId) : s.bt.KeepsRecord (s.beginFrameEnd v).bt := by
  rw [State.beginFrameEnd_eq]
  rfl

/-- What the Blemish Tracker may do by itself (R54, R92). -/
theorem State.advance_cases (s : State) : s.advance = s ∨ (∃ v, s.advance = s.beginNext v)
    ∨ (∃ v, s.advance = s.beginFrameEnd v) ∨ s.advance = { s with iu := { s.iu with pass := .planned } } := by
  by_cases hfree : s.TrackerFree
  · rw [State.advance_of_trackerFree hfree]
    split
    · rename_i v _
      split
      · split
        · exact .inl rfl
        · exact .inr (.inl ⟨v, rfl⟩)
      · split
        · exact .inr (.inr (.inl ⟨v, rfl⟩))
        · exact .inl rfl
    · split
      · exact .inr (.inr (.inr rfl))
      · exact .inl rfl
  · exact .inl (State.advance_of_not_free hfree)

theorem State.advance_keepsRecord (s : State) : s.bt.KeepsRecord s.advance.bt := by
  rcases s.advance_cases with h | ⟨v, h⟩ | ⟨v, h⟩ | h
  · rw [h]; rfl
  · rw [h]; rfl
  · rw [h]; exact State.beginFrameEnd_keepsRecord v
  · rw [h]; rfl

/-- An EMPTY half stays as it is, whatever the Blemish Tracker begins. -/
theorem State.advance_keepsEmpty (s : State) : (s.iu.halfA.state = .empty → s.advance.iu.halfA = s.iu.halfA)
    ∧ (s.iu.halfB.state = .empty → s.advance.iu.halfB = s.iu.halfB) := by
  rcases s.advance_cases with h | ⟨v, h⟩ | ⟨v, h⟩ | h
  · rw [h]; exact ⟨fun _ => rfl, fun _ => rfl⟩
  · rw [h, State.beginNext_eq, IntakeUnit.mapHalf_eq]
    exact ⟨fun hempty => by simp [IrHalf.holds, hempty], fun hempty => by simp [IrHalf.holds, hempty]⟩
  · rw [h, State.beginFrameEnd_iu]; exact ⟨fun _ => rfl, fun _ => rfl⟩
  · rw [h]; exact ⟨fun _ => rfl, fun _ => rfl⟩

theorem State.rowFollowed_keepsRecord : (s.rowEnded k).bt.KeepsRecord (s.rowFollowed k).bt := by
  by_cases h : s.EndsFrame k
  · rw [State.rowFollowed_of_ends h]
    exact State.beginFrameEnd_keepsRecord k.slot
  · rw [State.rowFollowed_of_stays h]
    rfl

theorem State.rowFollowed_iu : (s.rowFollowed k).iu = s.iu.mapHalf (fun _ => .vacant) ((s.slot k.slot).top + k.row) :=
  State.endFrameIfLast_iu ..

theorem State.rowFollowed_fl : (s.rowFollowed k).fl = (s.rowEnded k).fl := State.endFrameIfLast_fl ..

theorem State.rowFollowed_cu : (s.rowFollowed k).cu = s.cu := State.endFrameIfLast_cu ..

theorem State.rowFollowed_mc : (s.rowFollowed k).mc = s.mc := State.endFrameIfLast_mc ..

theorem State.rowFollowed_fault : (s.rowFollowed k).fault = s.fault := State.endFrameIfLast_fault ..

theorem State.rowFollowed_mem : (s.rowFollowed k).mem = s.mem := State.endFrameIfLast_mem ..

theorem State.rowFollowed_upstream : (s.rowFollowed k).upstream = s.upstream := State.endFrameIfLast_upstream ..

/-- What the Blemish Tracker leaves of the other blocks. -/
theorem State.rowClassified_frame : (s.rowClassified k).mem = s.mem ∧ (s.rowClassified k).cu = s.cu
    ∧ (s.rowClassified k).fault = s.fault ∧ (s.rowClassified k).fl = (s.rowEnded k).fl
    ∧ (s.rowClassified k).upstream = s.upstream :=
  ⟨(State.advance_mem _).trans State.rowFollowed_mem, (State.advance_cu _).trans State.rowFollowed_cu,
    (State.advance_fault _).trans State.rowFollowed_fault, (State.advance_fl _).trans State.rowFollowed_fl,
    (State.advance_upstream _).trans State.rowFollowed_upstream⟩

theorem State.rowFollowed_classifying : (s.rowFollowed k).bt.classifying = none := by
  by_cases h : s.EndsFrame k
  · rw [State.rowFollowed_of_ends h, State.beginFrameEnd_eq]
    rfl
  · rw [State.rowFollowed_of_stays h]
    rfl

theorem State.rowFollowed_pending : (s.rowFollowed k).bt.restartPending = s.bt.restartPending
    ∧ (s.rowFollowed k).bt.closePending = s.bt.closePending := by
  rw [State.rowFollowed_keepsRecord (s := s) (k := k)]
  exact ⟨rfl, rfl⟩

theorem State.endClassification_eq : s.endClassification k =
    if s.bt.restartPending || s.bt.closePending then (s.rowFollowed k).pendingEffects
    else (s.rowClassified k).endRowHold := by
  obtain ⟨hr, hc⟩ := State.rowFollowed_pending (s := s) (k := k)
  rw [← hr, ← hc, State.endClassification, State.recordRow_emptyHalf]
  rfl

theorem State.endClassification_advances (hn : s.NothingPending) :
    s.endClassification k = (s.rowClassified k).endRowHold := by
  obtain ⟨hr, hc⟩ := hn
  simp [State.endClassification_eq, hr, hc]

theorem State.endClassification_takesEffect (h : s.bt.restartPending = true ∨ s.bt.closePending = true) :
    s.endClassification k = (s.rowFollowed k).pendingEffects := by
  simp [State.endClassification_eq, h]

theorem exec_rowClassificationEnd (hk : s.bt.classifying = some k) :
    exec .rowClassificationEnd s = .next (s.endClassification k).settleRequests := by
  simp [exec, execRowClassificationEnd, hk, occurs]

end RowEnd

end Sys2Proof.Machine

/-! # The end of a row classification: the statement (R94, R99, R104 to R118, R196). -/

namespace Sys2Proof.Machine

section Clauses
variable {s : State} {k : Classification}

/-! ## The row's counts and spans -/

/-- What follows the row leaves its record. -/
theorem State.rowClassified_keepsRecord : (s.rowEnded k).bt.KeepsRecord (s.rowClassified k).bt :=
  State.rowFollowed_keepsRecord.trans (s.rowFollowed k).advance_keepsRecord

/-- A row that has lost its band line records no span and refuses none (R106). -/
theorem State.rowEnded_spans_lost (h : (s.slot k.slot).hasLost k.row = true) : (s.rowEnded k).bt.spans = s.bt.spans
    ∧ (s.rowEnded k).bt.tally.spans = s.bt.tally.spans ∧ (s.rowEnded k).bt.tally.overflows = s.bt.tally.overflows :=
  ⟨congrArg Recording.spans (State.rowRecording_lost h),
    congrArg (fun m : Recording => s.bt.tally.spans + m.recorded) (State.rowRecording_lost h),
    congrArg (s.bt.tally.overflows + ·) (State.rowRecording_lost_overflows h)⟩

/-- A resident row's runs enter the span table while it has room, and each later one is refused (R104 to R106). -/
theorem State.rowEnded_spans_resident (h : (s.slot k.slot).hasLost k.row = false) :
    (∀ sp, sp ∈ (s.rowEnded k).bt.spans ↔ sp ∈ s.bt.spans ∨ ∃ r ∈ k.runs.take (4096 - s.bt.spans.length),
        sp = ⟨k.slot, k.row, r.start, r.stop, decide (k.wMax < r.stop - r.start + 1)⟩)
      ∧ (s.rowEnded k).bt.tally.spans = s.bt.tally.spans + min k.runs.length (4096 - s.bt.spans.length)
      ∧ (s.rowEnded k).bt.tally.overflows = s.bt.tally.overflows + (k.runs.length - (4096 - s.bt.spans.length)) := by
  obtain ⟨hmem, -, hrecorded⟩ := State.rowRecording_records h
  refine ⟨hmem, congrArg (s.bt.tally.spans + ·) (hrecorded.trans (Nat.zero_add _)),
    congrArg (s.bt.tally.overflows + ·) (State.rowRecording_overflows h)⟩

/-! ## The row's half -/

/-- The half that held the row is EMPTY, whatever follows (R94). -/
theorem State.rowClassified_half :
    (s.iu.halfA.HoldsRow ((s.slot k.slot).top + k.row) → (s.rowClassified k).iu.halfA = .vacant)
      ∧ (¬s.iu.halfA.HoldsRow ((s.slot k.slot).top + k.row) → s.iu.halfB.HoldsRow ((s.slot k.slot).top + k.row) →
          (s.rowClassified k).iu.halfB = .vacant) := by
  obtain ⟨hA, hB⟩ := (s.rowFollowed k).advance_keepsEmpty
  rw [State.rowFollowed_iu] at hA hB
  obtain ⟨hinA, hinB, -⟩ := IntakeUnit.mapHalf_halfChanged (u := s.iu) (row := (s.slot k.slot).top + k.row)
    (f := fun _ => .vacant)
  refine ⟨fun h => ?_, fun h h' => ?_⟩
  · obtain ⟨hvacant, -⟩ := hinA h
    exact (hA (congrArg IrHalf.state hvacant)).trans hvacant
  · obtain ⟨-, hvacant⟩ := hinB h h'
    exact (hB (congrArg IrHalf.state hvacant)).trans hvacant

theorem State.endRowHold_halfFree {a : Access} (ha : s.upstream = some a) (hheld : a.phase = .rowHeld)
    (h : s.iu.halfA.state = .empty ∨ s.iu.halfB.state = .empty) : s.endRowHold.upstream = some { a with phase := .asking } := by
  have hfree : s.iu.noHalfFree = false := by
    rw [← Bool.not_eq_true, IntakeUnit.noHalfFree_iff, not_and_or, not_not, not_not]
    exact h
  simp [State.endRowHold, ha, hheld, hfree]

/-- A row hold ends with the half (R57, R94). -/
theorem State.rowClassified_hold {a : Access} (ha : s.upstream = some a) (hheld : a.phase = .rowHeld)
    (h : s.iu.halfA.HoldsRow ((s.slot k.slot).top + k.row) ∨ s.iu.halfB.HoldsRow ((s.slot k.slot).top + k.row)) :
    (s.rowClassified k).endRowHold.upstream = some { a with phase := .asking } := by
  obtain ⟨-, -, -, -, hup⟩ := State.rowClassified_frame (s := s) (k := k)
  obtain ⟨hA, hB⟩ := State.rowClassified_half (s := s) (k := k)
  refine State.endRowHold_halfFree (hup.trans ha) hheld ?_
  by_cases hin : s.iu.halfA.HoldsRow ((s.slot k.slot).top + k.row)
  · exact .inl (congrArg IrHalf.state (hA hin))
  · exact .inr (congrArg IrHalf.state (hB hin (h.resolve_left hin)))

/-! ## What follows the row of the ACTIVE slot -/

theorem State.countTimes_add (c : CounterId) (m n : Nat) : s.countTimes c (m + n) = (s.countTimes c m).countTimes c n := by
  induction m generalizing s with
  | zero => rw [Nat.zero_add, State.countTimes]
  | succ m ih => rw [Nat.succ_add, State.countTimes, ih, State.countTimes]

/-- A last row begins its slot's frame end, and nothing else (R94, R119). -/
theorem State.rowClassified_ends (h : s.EndsFrame k) :
    s.rowClassified k = (s.rowEnded k).beginFrameEnd k.slot := by
  rw [State.rowClassified, State.rowFollowed_of_ends h]
  refine State.advance_of_busy (.inr ?_)
  rw [State.beginFrameEnd_eq]
  nofun

/-- After another row nothing begins while the next is not ready (R92). -/
theorem State.rowClassified_waits (hv : activeSlot s.fl.slots = some k.slot) (h : ¬s.EndsFrame k)
    (hready : ¬s.rowReady k.slot (k.row + 1) = true) : s.rowClassified k = s.rowEnded k := by
  rw [State.rowClassified, State.rowFollowed_of_stays h]
  refine State.advance_of_none (fun hp => h (.inr ⟨State.rowEnded_pass.symm.trans hp, hready⟩)) fun w hw => hready ?_
  obtain rfl : k.slot = w := Option.some.inj ((State.rowEnded_activeSlot.trans hv).symm.trans hw.active)
  have hnext := hw.ready
  rwa [State.rowEnded_slot, State.rowEnded_rowReady] at hnext

/-- And a ready next row is classified (R92, R94). -/
theorem State.rowClassified_ready (hn : s.NothingPending) (hv : activeSlot s.fl.slots = some k.slot)
    (hf : s.bt.frameEnd = none) (h : ¬s.EndsFrame k) (hready : s.rowReady k.slot (k.row + 1) = true) :
    s.rowClassified k = (s.rowEnded k).beginNext k.slot := by
  rw [State.rowClassified, State.rowFollowed_of_stays h]
  refine State.advance_of_ready ⟨⟨rfl, hf⟩, hn, State.rowEnded_activeSlot.trans hv, ?_⟩
  rw [State.rowEnded_slot, State.rowEnded_rowReady]
  exact hready

/-- The frame end that follows a last row closes the blemishes that stayed, counted on from the row's own closings (R119). -/
theorem State.rowEnded_frameEndListing {cut : Bool} (hcut : cut = decide (k.row + 1 < (s.slot k.slot).height)) :
    Listing.closeAll s.cu.effMinArea k.slot (s.slot k.slot).generation cut
        ((s.rowTracking k).openTable.filter (s.rowTracking k).continues) (s.rowListing k)
      = (s.rowListing k).above ((s.rowEnded k).frameEndListing k.slot) := by
  subst hcut
  rw [Listing.closeAll_from, State.frameEndListing, State.rowEnded_height, State.rowEnded_slot]
  rfl

/-- The classification of the next row, by the halves with the row's own EMPTY (R87, R92). -/
theorem State.rowEnded_classifiesNext : s.ClassifiesNext (s.rowEnded k).iu ((s.rowEnded k).beginNext k.slot).iu k.slot
    { s.slot k.slot with classified := k.row + 1 } ((s.rowEnded k).nextOf k.slot) := by
  rw [← State.rowEnded_slot]
  exact State.beginNext_classifiesNext ⟨rfl, rfl⟩ ⟨s.cu.posted, rfl⟩

theorem IrHalf.not_holdsRow_vacant (row : Nat) : ¬IrHalf.vacant.HoldsRow row := fun ⟨hne, _⟩ => hne rfl

theorem IrHalf.holdsRow_of_vacated {c : Bool} {h : IrHalf} {row : Nat} (hh : (if c then .vacant else h).HoldsRow row) :
    h.HoldsRow row := by
  cases c with
  | true => exact absurd hh (IrHalf.not_holdsRow_vacant row)
  | false => exact hh

/-- A half that holds a row once the ended row's half is EMPTY held it before. -/
theorem State.rowEnded_holdsRow {row : Nat} : ((s.rowEnded k).iu.halfA.HoldsRow row → s.iu.halfA.HoldsRow row)
    ∧ ((s.rowEnded k).iu.halfB.HoldsRow row → s.iu.halfB.HoldsRow row) := by
  rw [State.rowEnded, IntakeUnit.mapHalf_eq]
  exact ⟨IrHalf.holdsRow_of_vacated, IrHalf.holdsRow_of_vacated⟩

/-- The next row's half, told by the halves before: the one that did not hold the ended row (R56, R87). -/
theorem State.rowEnded_nextHalf {row : Nat} (hrow : row = (s.slot k.slot).top + k.row) :
    (s.iu.halfA.HoldsRow row → s.iu.halfB.HoldsRow ((s.slot k.slot).top + (k.row + 1)) →
        ((s.rowEnded k).nextOf k.slot).values = s.iu.halfB.entries ∧ ((s.rowEnded k).nextOf k.slot).torn = s.iu.halfB.torn
          ∧ ((s.rowEnded k).beginNext k.slot).iu.halfB = { s.iu.halfB with state := .classifying })
      ∧ (s.iu.halfB.HoldsRow row → s.iu.halfA.HoldsRow ((s.slot k.slot).top + (k.row + 1)) →
        ((s.rowEnded k).nextOf k.slot).values = s.iu.halfA.entries ∧ ((s.rowEnded k).nextOf k.slot).torn = s.iu.halfA.torn
          ∧ ((s.rowEnded k).beginNext k.slot).iu.halfA = { s.iu.halfA with state := .classifying })
      ∧ (¬s.iu.halfA.HoldsRow ((s.slot k.slot).top + (k.row + 1)) →
          ¬s.iu.halfB.HoldsRow ((s.slot k.slot).top + (k.row + 1)) →
          ((s.rowEnded k).nextOf k.slot).values = [] ∧ ((s.rowEnded k).nextOf k.slot).torn = 0) := by
  subst hrow
  obtain ⟨-, ⟨hcA, hcB, -⟩, hA, hB, hnone⟩ := State.rowEnded_classifiesNext (s := s) (k := k)
  obtain ⟨hinA, hinB, -⟩ : s.iu.HalfChanged (s.rowEnded k).iu ((s.slot k.slot).top + k.row) fun _ => .vacant :=
    IntakeUnit.mapHalf_halfChanged
  refine ⟨fun hended hnext => ?_, fun hended hnext => ?_, fun hnA hnB => ?_⟩
  · obtain ⟨hvacant, hsame⟩ := hinA hended
    have hnot : ¬(s.rowEnded k).iu.halfA.HoldsRow ((s.slot k.slot).top + (k.row + 1)) := by
      rw [hvacant]
      exact IrHalf.not_holdsRow_vacant _
    rw [← hsame] at hnext ⊢
    obtain ⟨hvalues, htorn⟩ := hB hnot hnext
    exact ⟨hvalues, htorn, (hcB hnot hnext).2⟩
  · have hother : ¬s.iu.halfA.HoldsRow ((s.slot k.slot).top + k.row) := fun h => by
      have := h.2.symm.trans hnext.2
      omega
    obtain ⟨hsame, -⟩ := hinB hother hended
    rw [← hsame] at hnext ⊢
    obtain ⟨hvalues, htorn⟩ := hA hnext
    exact ⟨hvalues, htorn, (hcA hnext).1⟩
  · exact hnone (fun h => hnA (State.rowEnded_holdsRow.1 h)) fun h => hnB (State.rowEnded_holdsRow.2 h)

/-- With no run in the row and no blemish open, a row's end only counts the row (R94, R99). -/
theorem State.rowEnded_of_empty (hr : k.runs = []) (ho : s.bt.openTable = []) : s.rowEnded k = { s with
    fl := (s.rowEnded k).fl
    iu := (s.rowEnded k).iu
    bt := { s.bt with
      classifying := none
      previous := []
      tally := { s.bt.tally with rows := s.bt.tally.rows + 1, torn := s.bt.tally.torn + k.torn } } } := by
  have hrecording : s.rowRecording k = ⟨s.bt.spans, [], 0⟩ := by rw [State.rowRecording, hr, recordRuns]
  have htracking : s.rowTracking k = ⟨[], s.bt.previous, [], s.bt.nextKey, 0⟩ := by
    rw [State.rowTracking, hr, ho, Tracking.takeAll]
  have hlisting : s.rowListing k = ⟨s.lw.queue, s.bt.nextSerial, 0, 0, 0⟩ := by
    rw [State.rowListing, htracking]
    rfl
  refine State.eq_of_blocks rfl rfl rfl rfl rfl rfl ?_ ?_ ?_ rfl rfl rfl
  · simp [State.rowEnded, hrecording, htracking, hlisting, ho, Recording.overflows]
  · simp [State.rowEnded, hlisting]
  · simp [State.rowEnded, State.rowCounted, hrecording, htracking, hlisting, Recording.overflows, State.countTimes]

/-! ## A RESTART or CLOSE_STRIP that waited -/

theorem State.sameLine_countTimes (c : CounterId) (n : Nat) (s : State) : s.ru.SameLine (s.countTimes c n).ru := by
  induction n generalizing s with
  | zero => rfl
  | succ n ih =>
    refine ReportUnit.SameLine.trans ?_ (ih (s.count c))
    have hraise : s.ru.SameLine (s.ru.raise s.cu.standing.countMask c 1) := by
      unfold ReportUnit.raise
      split <;> rfl
    unfold State.count State.countBy
    dsimp only
    split
    · exact hraise.trans (State.sameLine_stage ..)
    · exact hraise

/-- Neither the row's end nor what follows it moves the ring's counts. -/
theorem State.rowFollowed_sameLine : s.ru.SameLine (s.rowFollowed k).ru := by
  have hcounted : s.ru.SameLine (s.rowCounted k).ru :=
    (State.sameLine_countTimes ..).trans (State.sameLine_countTimes ..)
  have hended : s.ru.SameLine (s.rowEnded k).ru := hcounted.trans (State.sameLine_countTimes ..)
  by_cases h : s.EndsFrame k
  · rw [State.rowFollowed_of_ends h, State.beginFrameEnd_eq]
    exact hended.trans (State.sameLine_countTimes ..)
  · rw [State.rowFollowed_of_stays h]
    exact hended

theorem ReportUnit.restarted_ringFull (st : Settings) (r : ReportUnit) (n : Nat) :
    (r.restarted st).ringFull n = r.ringFull n := by
  rw [ReportUnit.restarted_frame]
  rfl

theorem State.pendingEffects_of_restart (hk : s.bt.classifying = none) (hp : s.mc.port = none)
    (hr : s.bt.restartPending = true) : s.pendingEffects = s.restartEffect := by
  simp [State.pendingEffects, hk, hp, hr]

theorem State.pendingEffects_of_close (hk : s.bt.classifying = none) (hp : s.mc.port = none)
    (hr : s.bt.restartPending = false) (hc : s.bt.closePending = true) : s.pendingEffects = s.closeStripEffect := by
  simp [State.pendingEffects, hk, hp, hr, hc]

theorem State.pendingEffects_of_port (hp : s.mc.port ≠ none) : s.pendingEffects = s := by
  simp [State.pendingEffects, hp]

/-- Whatever takes effect, no classification is in flight after it. -/
theorem State.pendingEffects_classifying (hk : s.bt.classifying = none) : s.pendingEffects.bt.classifying = none := by
  obtain ⟨-, -, hkeeps⟩ := s.closeEnded_keepsBt
  unfold State.pendingEffects
  split_ifs
  · rw [State.restartEffect_blocks]
    rfl
  · rw [State.closeStripEffect_eq, State.endRowHold_bt, State.closeReleased_bt]
    exact hkeeps.trans hk
  · exact hk
  · exact hk

/-- A CLOSE_STRIP at the end of a row ends the frame, whether the row was its last or not (R60, R119). -/
theorem State.rowFollowed_closeEnded (hv : activeSlot s.fl.slots = some k.slot) (hf : s.bt.frameEnd = none) :
    (s.rowFollowed k).closeEnded = (s.rowEnded k).beginFrameEnd k.slot := by
  by_cases h : s.EndsFrame k
  · rw [State.rowFollowed_of_ends h]
    refine State.closeEnded_of_idle (.inl ?_)
    rw [State.beginFrameEnd_eq]
    nofun
  · rw [State.rowFollowed_of_stays h]
    exact State.closeEnded_of_active hf (State.rowEnded_activeSlot.trans hv)

theorem State.rowFollowed_slots (v : SlotId) : (s.rowFollowed k).fl.slots.get v =
    if v = k.slot then { s.slot k.slot with classified := k.row + 1 } else s.fl.slots.get v := by
  rw [State.rowFollowed_fl]
  exact slots_get_set ..

end Clauses

section Ended
variable {s : State} {k : Classification}

/-- The counts of a row's end, one after another, whatever follows the row (log 32). -/
theorem State.rowClassified_ru (hn : s.NothingPending) (hv : activeSlot s.fl.slots = some k.slot)
    (hf : s.bt.frameEnd = none) : (s.rowClassified k).ru =
      (State.countTimes unlistedBlemish ((s.rowClassified k).bt.tally.unlisted - s.bt.tally.unlisted)
        (s.rowCounted k)).ru := by
  have hrow : (s.rowEnded k).bt.tally.unlisted - s.bt.tally.unlisted = (s.rowListing k).unlisted :=
    Nat.add_sub_cancel_left ..
  by_cases hends : s.EndsFrame k
  · have hboth : (s.rowEnded k).bt.tally.unlisted + ((s.rowEnded k).frameEndListing k.slot).unlisted - s.bt.tally.unlisted
        = (s.rowListing k).unlisted + ((s.rowEnded k).frameEndListing k.slot).unlisted := by
      rw [← hrow]
      exact Nat.sub_add_comm (Nat.le_add_right ..)
    rw [State.rowClassified_ends hends, State.beginFrameEnd_eq]
    dsimp only
    rw [hboth, State.countTimes_add]
    exact State.countTimes_ru_congr _ _ rfl (by simp [State.rowCounted, State.rowEnded])
  · by_cases hready : s.rowReady k.slot (k.row + 1) = true
    · rw [State.rowClassified_ready hn hv hf hends hready, State.beginNext_eq]
      dsimp only
      rw [hrow]
      rfl
    · rw [State.rowClassified_waits hv hends hready, hrow]
      rfl

/-- After a row that is not the last only a half and the classification in flight change further. -/
theorem State.rowClassified_stays (hn : s.NothingPending) (hv : activeSlot s.fl.slots = some k.slot)
    (hf : s.bt.frameEnd = none) (h : ¬s.EndsFrame k) : s.rowClassified k = { s.rowEnded k with
      iu := (s.rowClassified k).iu
      bt := { (s.rowEnded k).bt with classifying := (s.rowClassified k).bt.classifying } } := by
  by_cases hready : s.rowReady k.slot (k.row + 1) = true
  · rw [State.rowClassified_ready hn hv hf h hready]
    rfl
  · rw [State.rowClassified_waits hv h hready]

/-- With no run in the row, no blemish open and no row ready next, a row's end counts the row and frees its half, which is half A
here, and nothing more. -/
theorem State.rowClassified_of_empty (hruns : k.runs = []) (hopen : s.bt.openTable = []) (hup : s.upstream = none)
    (hv : activeSlot s.fl.slots = some k.slot) (hends : ¬s.EndsFrame k) (hready : ¬s.rowReady k.slot (k.row + 1) = true)
    (hA : s.iu.halfA.HoldsRow ((s.slot k.slot).top + k.row)) : (s.rowClassified k).endRowHold = { s with
      fl := (s.rowEnded k).fl
      iu := { s.iu with halfA := .vacant }
      bt := { s.bt with
        classifying := none
        previous := []
        tally := { s.bt.tally with rows := s.bt.tally.rows + 1, torn := s.bt.tally.torn + k.torn } } } := by
  have hserving : ∀ a, (s.rowEnded k).upstream = some a → a.phase = .serving := fun a ha =>
    absurd (hup.symm.trans ha) nofun
  have hhalf : (s.rowEnded k).iu = { s.iu with halfA := .vacant } := by
    simp [State.rowEnded, IntakeUnit.mapHalf_eq, IrHalf.holds_iff.mpr hA]
  rw [State.rowClassified_waits hv hends hready, State.endRowHold_of_serving hserving, State.rowEnded_of_empty hruns hopen,
    hhalf]

/-- A RESTART that waited for the classification leaves R34's values, told by the state before the row's end. -/
theorem State.rowFollowed_restartedBy (hr : s.bt.restartPending = true) (hport : s.mc.port = none) :
    s.RestartedBy (s.rowFollowed k).pendingEffects.settleRequests := by
  have hport' : (s.rowFollowed k).mc.port = none := (congrArg (·.port) State.rowFollowed_mc).trans hport
  have hrestarted := State.restartEffect_restartedBy hport'
  rw [State.pendingEffects_of_restart State.rowFollowed_classifying hport' (State.rowFollowed_pending.1.trans hr)]
  unfold State.RestartedBy State.HoldEnds at *
  rwa [State.rowFollowed_cu, State.rowFollowed_upstream] at hrestarted

theorem State.rowFollowed_restarted_ringFull (hr : s.bt.restartPending = true) (hport : s.mc.port = none) (n : Nat) :
    (s.rowFollowed k).pendingEffects.ru.ringFull n = s.ru.ringFull n := by
  have hport' : (s.rowFollowed k).mc.port = none := (congrArg (·.port) State.rowFollowed_mc).trans hport
  rw [State.pendingEffects_of_restart State.rowFollowed_classifying hport' (State.rowFollowed_pending.1.trans hr),
    State.restartEffect_ringFull, ReportUnit.restarted_ringFull, State.rowFollowed_sameLine.ringFull_eq]

/-- With a CLOSE_STRIP that waited, and no RESTART, the strip is closed after the row's end (R60). -/
theorem State.rowFollowed_closes (hr : s.bt.restartPending = false) (hc : s.bt.closePending = true)
    (hport : s.mc.port = none) : (s.rowFollowed k).pendingEffects = (s.rowFollowed k).closeStripEffect :=
  State.pendingEffects_of_close State.rowFollowed_classifying ((congrArg (·.port) State.rowFollowed_mc).trans hport)
    (State.rowFollowed_pending.1.trans hr) (State.rowFollowed_pending.2.trans hc)

theorem State.rowFollowed_closedBy (hr : s.bt.restartPending = false) (hport : s.mc.port = none) :
    (s.rowFollowed k).ClosedBy (s.rowFollowed k).closeStripEffect.settleRequests :=
  State.closeStripEffect_closedBy ((congrArg (·.port) State.rowFollowed_mc).trans hport)
    (State.rowFollowed_pending.1.trans hr) State.rowFollowed_classifying

/-- Closing the strip ends the ACTIVE frame and closes its blemishes (R60, R119). -/
theorem State.rowFollowed_closeStrip_bt (hv : activeSlot s.fl.slots = some k.slot) (hf : s.bt.frameEnd = none) :
    (s.rowFollowed k).closeStripEffect.bt.frameEnd = some ⟨k.slot, decide (k.row + 1 < (s.slot k.slot).height)⟩
      ∧ (s.rowFollowed k).closeStripEffect.bt.openTable = [] ∧ (s.rowFollowed k).closeStripEffect.bt.previous = [] := by
  rw [State.closeStripEffect_eq, State.endRowHold_bt, State.closeReleased_bt, State.rowFollowed_closeEnded hv hf,
    State.beginFrameEnd_bt, State.rowEnded_height, State.rowEnded_slot]
  exact ⟨rfl, rfl, rfl⟩

/-- Closing the strip releases its PLANNED slots, of which the ACTIVE one is none (R60). -/
theorem State.rowFollowed_closed_slots (hactive : (s.slot k.slot).state = .active) (v : SlotId) :
    (if ((s.rowFollowed k).fl.slots.get v).state = .planned then Slot.vacantValues else (s.rowFollowed k).fl.slots.get v)
      = if v = k.slot then { s.slot k.slot with classified := k.row + 1 }
        else if (s.fl.slots.get v).state = .planned then Slot.vacantValues else s.fl.slots.get v := by
  rw [State.rowFollowed_slots]
  by_cases hvk : v = k.slot
  · have hnot : (s.slot k.slot).state ≠ .planned := fun h => absurd (hactive.symm.trans h) nofun
    rw [if_pos hvk, if_pos hvk]
    exact if_neg hnot
  · rw [if_neg hvk, if_neg hvk]

end Ended

/-- Settles O49: the row's record, whatever follows it; then by cases what follows: the frame's end, the next row, nothing, or
what was pending. -/
theorem rowClassificationEnd : Obligations.RowClassificationEnd := by
  refine ⟨Tracking.take_follows, fun a b ha => mergeWide_sorted ha, fun minArea v generation cut l b => l.close_closes b,
    ?_, ?_⟩
  · rintro s k x hk hn hx -
    obtain rfl : s.slot k.slot = x := hx
    have hexec := exec_rowClassificationEnd hk
    rw [State.endClassification_advances hn] at hexec
    refine ⟨_, hexec, ?_⟩
    have hiu : (s.rowClassified k).endRowHold.settleRequests.iu = (s.rowClassified k).iu := State.endRowHold_iu _
    have hbt : (s.rowClassified k).endRowHold.settleRequests.bt = (s.rowClassified k).bt := State.endRowHold_bt _
    have hru : (s.rowClassified k).endRowHold.settleRequests.ru = (s.rowClassified k).ru := State.endRowHold_ru _
    have hlw : (s.rowClassified k).endRowHold.settleRequests.lw = (s.rowClassified k).lw := State.endRowHold_lw _
    have hfl : (s.rowClassified k).endRowHold.settleRequests.fl = (s.rowClassified k).fl := State.endRowHold_fl _
    obtain ⟨hmem, hcu, hfault, hslots, -⟩ := State.rowClassified_frame (s := s) (k := k)
    obtain ⟨hhalfA, hhalfB⟩ := State.rowClassified_half (s := s) (k := k)
    have hrecord := State.rowClassified_keepsRecord (s := s) (k := k)
    have hspans : (s.rowClassified k).bt.spans = (s.rowEnded k).bt.spans := congrArg (·.spans) hrecord
    have hrecorded : (s.rowClassified k).bt.tally.spans = (s.rowEnded k).bt.tally.spans :=
      congrArg (·.tally.spans) hrecord
    have hoverflows : (s.rowClassified k).bt.tally.overflows = (s.rowEnded k).bt.tally.overflows :=
      congrArg (·.tally.overflows) hrecord
    rw [hiu, hbt, hru, hlw, hfl, hslots, hspans, hrecorded, hoverflows]
    refine ⟨(State.endRowHold_mem _).trans hmem, (State.endRowHold_cu _).trans hcu, (State.endRowHold_fault _).trans hfault,
      rfl, congrArg (·.tally.rows) hrecord, congrArg (·.tally.torn) hrecord,
      fun h => State.rowEnded_spans_lost (Slot.hasLost_iff.mpr h),
      fun h => State.rowEnded_spans_resident (Slot.hasLost_eq_false.mpr h), hhalfA, hhalfB,
      fun a ha hheld hin => State.rowClassified_hold ha hheld hin, ?_, ?_⟩
    · rintro refused f stays l ends ready hv hf rfl hfollow hstays hl hready hends
      rw [← State.rowReady_iff] at hready
      rw [hready] at hends
      obtain rfl : f = s.rowTracking k := by rw [hfollow, ← State.rowRecording_refused]; rfl
      obtain rfl : stays = (s.rowTracking k).continues :=
        funext fun b => Bool.eq_iff_iff.mpr ((hstays b).trans Tracking.continues_iff.symm)
      obtain rfl : l = s.rowListing k := hl
      have hcounted : (s.rowEnded k).bt.tally.overflows - s.bt.tally.overflows = (s.rowRecording k).overflows :=
        Nat.add_sub_cancel_left ..
      rw [hready, hends, hcounted]
      refine ⟨congrArg (·.tally.untracked) hrecord, congrArg (·.nextKey) hrecord, State.rowClassified_ru hn hv hf,
        fun h => ?_, fun h => ?_⟩
      · have hstate := State.rowClassified_stays hn hv hf h
        have hblemishes := congrArg State.bt hstate
        refine ⟨congrArg (·.openTable) hblemishes, congrArg (·.previous) hblemishes,
          (congrArg (·.frameEnd) hblemishes).trans hf, congrArg (·.nextSerial) hblemishes, congrArg State.lw hstate,
          congrArg (·.tally.closed) hblemishes, congrArg (·.tally.listed) hblemishes,
          congrArg (·.tally.unlisted) hblemishes, fun hnot => ?_, fun hnext => ?_⟩
        · rw [State.rowClassified_waits hv h hnot]
          rfl
        · rw [State.rowClassified_ready hn hv hf h hnext]
          obtain ⟨hnext, -⟩ := State.rowEnded_classifiesNext (s := s) (k := k)
          exact ⟨_, _, congrArg some hnext, State.rowEnded_nextHalf rfl⟩
      · rintro cut e hcut he
        obtain rfl := he.trans (State.rowEnded_frameEndListing hcut)
        rw [State.rowClassified_ends h, State.beginFrameEnd_eq, State.rowEnded_height, State.rowEnded_slot, ← hcut]
        exact ⟨rfl, rfl, rfl, rfl, rfl, rfl, Nat.add_assoc .., Nat.add_assoc .., Nat.add_assoc ..⟩
    · rintro hruns hopen hf hp hup hv hlt hwaits hstate hrow
      have hready : ¬s.rowReady k.slot (k.row + 1) = true := fun h =>
        absurd (hwaits.symm.trans (State.rowReady_iff.mp h).2) nofun
      have hends : ¬s.EndsFrame k := not_or.mpr ⟨hlt.ne, fun h => absurd (hp.symm.trans h.1) nofun⟩
      have hA : s.iu.halfA.HoldsRow ((s.slot k.slot).top + k.row) :=
        ⟨fun h => absurd (hstate.symm.trans h) nofun, hrow⟩
      exact State.settles_of_eq (State.rowClassified_of_empty hruns hopen hup hv hends hready hA)
  · rintro s k x hk hx hactive hv hf hpending
    obtain rfl : s.slot k.slot = x := hx
    have hexec := exec_rowClassificationEnd hk
    rw [State.endClassification_takesEffect hpending] at hexec
    refine ⟨_, hexec, (State.pendingEffects_mem _).trans State.rowFollowed_mem,
      State.pendingEffects_classifying State.rowFollowed_classifying, fun hr hport => ?_, fun hr hc hport => ?_,
      fun hport => ?_⟩
    · obtain ⟨-, -, hfault, hcu, hiu, hfl, hbt, hlw, -, -, -, hring⟩ := State.rowFollowed_restartedBy (k := k) hr hport
      exact ⟨congrArg FaultRecord.locked hfault, hcu, hiu, hfl, hbt, hlw, fun hroom =>
        (hring ((State.rowFollowed_restarted_ringFull hr hport _).trans hroom)).1⟩
    · rw [State.rowFollowed_closes hr hc hport]
      obtain ⟨-, -, hcu, hiu, hfl, hslots, -, -, hdone, -⟩ := State.rowFollowed_closedBy (k := k) hr hport
      obtain ⟨hframe, hopen, hprevious⟩ := State.rowFollowed_closeStrip_bt hv hf
      rw [State.rowFollowed_cu] at hcu
      exact ⟨hcu, hiu, congrArg (·.profile) hfl, congrArg (·.params) hfl, congrArg (·.locating) hfl,
        (congrArg (·.generation) hfl).trans (congrArg (·.generation) State.rowFollowed_fl),
        fun v => (hslots v).trans (State.rowFollowed_closed_slots hactive v), hframe, hopen, hprevious, hdone⟩
    · rw [State.pendingEffects_of_port fun h => hport ((congrArg (·.port) State.rowFollowed_mc).symm.trans h)]
      refine ⟨State.rowFollowed_pending.1, State.rowFollowed_pending.2, ?_⟩
      rw [State.settleRequests_iu, State.rowFollowed_iu, IntakeUnit.mapHalf_eq]

end Sys2Proof.Machine

/-! # Every step keeps the span table in order of slot, row and start (R105 to R109). -/

namespace Sys2Proof.Machine

/-! ## The order of the span table -/

section Order
variable {a b c : Span}

theorem Span.precedes_iff : a.precedes b = true ↔ a.slot.val < b.slot.val
    ∨ a.slot.val = b.slot.val ∧ (a.row < b.row ∨ a.row = b.row ∧ a.start < b.start) := by
  simp [Span.precedes, Fin.ext_iff]

theorem Span.precedes_eq_false_iff : a.precedes b = false ↔ ¬(a.slot.val < b.slot.val
    ∨ a.slot.val = b.slot.val ∧ (a.row < b.row ∨ a.row = b.row ∧ a.start < b.start)) := by
  rw [← Span.precedes_iff, Bool.not_eq_true]

theorem Span.precedes_asymm (h : a.precedes b = true) : b.precedes a = false := by
  rw [Span.precedes_iff] at h
  rw [Span.precedes_eq_false_iff]
  omega

/-- What does not precede a span does not precede what that span is behind. -/
theorem Span.not_precedes_of_precedes (hab : a.precedes b = true) (hcb : c.precedes b = false) :
    c.precedes a = false := by
  rw [Span.precedes_iff] at hab
  rw [Span.precedes_eq_false_iff] at *
  omega

end Order

/-- A table in order of slot, row and start, each of whose spans ends no earlier than it starts (R105). -/
def SpansInOrder (spans : List Span) : Prop :=
  spans.Pairwise (fun a b => b.precedes a = false) ∧ ∀ sp ∈ spans, sp.start ≤ sp.stop

theorem State.spansOrdered_iff {s : State} : s.SpansOrdered ↔ SpansInOrder s.bt.spans := Iff.rfl

/-- Spans may be retired from a table in order. -/
theorem SpansInOrder.sublist {l l' : List Span} (h : SpansInOrder l) (hsub : l'.Sublist l) : SpansInOrder l' :=
  ⟨h.1.sublist hsub, fun sp hsp => h.2 sp (hsub.subset hsp)⟩

theorem State.SpansOrdered.of_sublist {s t : State} (h : s.SpansOrdered) (hsub : t.bt.spans.Sublist s.bt.spans) :
    t.SpansOrdered := SpansInOrder.sublist h hsub

theorem State.SpansOrdered.of_eq {s t : State} (h : s.SpansOrdered) (heq : t.bt.spans = s.bt.spans) :
    t.SpansOrdered := by
  rw [State.spansOrdered_iff, heq]
  exact h

/-! ## Recording keeps the order -/

section Recording
variable {x : Span} {l : List Span}

theorem pairwise_insertSpan (h : l.Pairwise fun a b => b.precedes a = false) :
    (insertSpan x l).Pairwise fun a b => b.precedes a = false := by
  induction l with
  | nil => exact List.pairwise_singleton ..
  | cons y rest ih =>
    obtain ⟨hy, hrest⟩ := List.pairwise_cons.mp h
    unfold insertSpan
    split
    · rename_i hxy
      refine List.pairwise_cons.mpr ⟨fun z hz => ?_, h⟩
      rcases List.mem_cons.mp hz with rfl | hz
      · exact Span.precedes_asymm hxy
      · exact Span.not_precedes_of_precedes hxy (hy z hz)
    · rename_i hxy
      refine List.pairwise_cons.mpr ⟨fun z hz => ?_, ih hrest⟩
      rcases mem_insertSpan.mp hz with rfl | hz
      · exact Bool.eq_false_iff.mpr hxy
      · exact hy z hz

theorem SpansInOrder.insertSpan (h : SpansInOrder l) (hx : x.start ≤ x.stop) : SpansInOrder (insertSpan x l) := by
  refine ⟨pairwise_insertSpan h.1, fun sp hsp => ?_⟩
  rcases mem_insertSpan.mp hsp with rfl | hsp
  · exact hx
  · exact h.2 sp hsp

/-- Each run offered enters in its place or not at all (R106). -/
theorem SpansInOrder.recordRuns {lost : Bool} {v : SlotId} {row wMax : Nat} {runs : List Run} {acc : Recording}
    (h : SpansInOrder acc.spans) (hruns : ∀ r ∈ runs, r.start ≤ r.stop) :
    SpansInOrder (recordRuns lost v row wMax runs acc).spans := by
  induction runs generalizing acc with
  | nil => exact h
  | cons r rest ih =>
    obtain ⟨hr, hrest⟩ := List.forall_mem_cons.mp hruns
    unfold Machine.recordRuns
    split
    · exact ih h hrest
    · split
      · exact ih h hrest
      · exact ih (h.insertSpan hr) hrest

/-- The runs of a row each end no earlier than they start (R103). -/
theorem Classification.runs_ascend {k : Classification} {r : Run} (hr : r ∈ k.runs) : r.start ≤ r.stop :=
  (k.runs_runsOf.isRun r hr).2.ascends

theorem State.SpansOrdered.rowEnded {s : State} (h : s.SpansOrdered) (k : Classification) :
    (s.rowEnded k).SpansOrdered :=
  SpansInOrder.recordRuns (acc := ⟨s.bt.spans, [], 0⟩) h fun _ => Classification.runs_ascend

end Recording

/-! ## What leaves the span table as it is -/

section Kept
variable (s : State)

@[simp] theorem State.beginFrameEnd_spans (v : SlotId) : (s.beginFrameEnd v).bt.spans = s.bt.spans :=
  congrArg (·.spans) (State.beginFrameEnd_keepsRecord v)

@[simp] theorem State.advance_spans : s.advance.bt.spans = s.bt.spans :=
  congrArg (·.spans) s.advance_keepsRecord

@[simp] theorem State.activate_spans (v : SlotId) : (s.activate v).bt.spans = s.bt.spans := rfl

@[simp] theorem State.startNext_spans : s.startNext.bt.spans = s.bt.spans := by
  unfold State.startNext
  split <;> rfl

@[simp] theorem State.completeFrameEnd_spans (e : FrameEnd) : (s.completeFrameEnd e).bt.spans = s.bt.spans := by
  rw [State.completeFrameEnd_eq, State.advance_spans, State.startNext_spans]
  rfl

@[simp] theorem State.endFrameIfLast_spans (k : Classification) :
    (State.endFrameIfLast k s).bt.spans = s.bt.spans := by
  unfold State.endFrameIfLast
  (repeat' split) <;> simp

@[simp] theorem State.endPassState_spans : s.endPassState.bt.spans = s.bt.spans := by
  unfold State.endPassState
  cases s.iu.pass <;> simp

@[simp] theorem State.completeOpenRow_spans : s.completeOpenRow.bt.spans = s.bt.spans := by
  unfold State.completeOpenRow
  dsimp only
  (repeat' split) <;> simp

@[simp] theorem State.completeIfOpen_spans : s.completeIfOpen.bt.spans = s.bt.spans := by
  unfold State.completeIfOpen
  split <;> simp

@[simp] theorem State.openRow_spans (row : Nat) : (s.openRow row).bt.spans = s.bt.spans := State.advance_spans _

@[simp] theorem State.moveTracker_spans (row : Nat) : (s.moveTracker row).bt.spans = s.bt.spans := by
  unfold State.moveTracker
  dsimp only
  (repeat' split) <;> simp

@[simp] theorem State.settlePixel_spans (row col : Nat) (torn : Bool) (g i : Nat) :
    (s.settlePixel row col torn g i).bt.spans = s.bt.spans := by
  unfold State.settlePixel
  dsimp only
  (repeat' split) <;> simp

@[simp] theorem State.pairWord_spans (p : IntakePlace) (b : Beat) : (s.pairWord p b).bt.spans = s.bt.spans := by
  unfold State.pairWord
  dsimp only
  (repeat' split) <;> simp

@[simp] theorem State.settleOwn_spans (p : IntakePlace) (b : Beat) (q : Option PendingWord) :
    (s.settleOwn p b q).bt.spans = s.bt.spans := by
  unfold State.settleOwn
  (repeat' split) <;> simp

@[simp] theorem State.startSlot_spans (v : SlotId) : (s.startSlot v).bt.spans = s.bt.spans := by
  unfold State.startSlot
  dsimp only
  (repeat' split) <;> simp

@[simp] theorem State.endPassEffect_spans : s.endPassEffect.bt.spans = s.bt.spans := by
  unfold State.endPassEffect
  dsimp only
  (repeat' split) <;> simp

end Kept

/-! ## What retires spans (R108, R109) -/

section Retired
variable (s : State)

theorem spansAfter_sublist (spans : List Span) (v : SlotId) (x : Slot) (y : Nat) :
    (spansAfter spans v x y).Sublist spans := by
  unfold spansAfter
  split
  · exact List.filter_sublist
  · exact .refl _

theorem State.storeCapture_spans_sublist (p : IntakePlace) (b : Beat) (late : Bool) :
    (s.storeCapture p b late).bt.spans.Sublist s.bt.spans := by
  cases late with
  | true => rw [State.storeCapture_late]
  | false =>
    cases hv : routeOf s.fl.slots p.row p.col with
    | none => rw [State.storeCapture_unrouted hv]
    | some v =>
      rw [State.storeCapture_routed hv, State.startSlot_spans]
      exact spansAfter_sublist ..

/-- Of IU's steps on a word only its storage retires spans, those of the rows that lose their band lines. -/
theorem State.intakeWord_spans_sublist (pass : PassState) (r : StripRecord) (p : IntakePlace) (beat : Beat) :
    (s.intakeWord pass r p beat).bt.spans.Sublist s.bt.spans := by
  have hmoved (b : Beat) (late : Bool) : (if late then (s.pairWord p b).countLate
      else (s.pairWord p b).moveTracker p.row).bt.spans.Sublist s.bt.spans := by
    cases late <;> simp
  unfold State.intakeWord
  dsimp only
  rw [State.settleOwn_spans]
  cases pass with
  | capturing => exact (State.storeCapture_spans_sublist ..).trans (hmoved ..)
  | surveying | stripClosed | stripOpen | locating | planned | draining => exact hmoved ..

theorem State.intakeWriteEffect_spans_sublist (w : WordItem) :
    (s.intakeWriteEffect w).bt.spans.Sublist s.bt.spans := by
  unfold State.intakeWriteEffect
  dsimp only
  rw [State.wordWritten_bt]
  split
  · split
    · rw [State.countOverrun_bt]
    · split
      · exact .refl _
      · exact State.intakeWord_spans_sublist ..
  · rw [State.wordFault_bt]

theorem State.retireSlot_spans_sublist (v : SlotId) : (s.retireSlot v).bt.spans.Sublist s.bt.spans :=
  List.filter_sublist

/-- A free slot loses its spans, whether it takes a frame or none (R64, R74). -/
theorem State.placeFrame_spans_sublist (strip : StripRecord) (placed : List (SlotId × LocatedFrame)) (v : SlotId) :
    (s.placeFrame strip placed v).bt.spans.Sublist s.bt.spans := by
  unfold State.placeFrame
  split <;> exact s.retireSlot_spans_sublist v

theorem State.forSlots_spans_sublist {f : SlotId → State → State}
    (hf : ∀ v s, (f v s).bt.spans.Sublist s.bt.spans) (l : List SlotId) :
    (State.forSlots f l s).bt.spans.Sublist s.bt.spans := by
  induction l generalizing s with
  | nil => exact .refl _
  | cons v rest ih => exact (ih _).trans (hf v s)

theorem State.endLocate_spans_sublist (k : LocateInputs) : (s.endLocate k).bt.spans.Sublist s.bt.spans :=
  s.forSlots_spans_sublist (fun v t => t.placeFrame_spans_sublist _ _ v) _

theorem State.openStripEffect_spans_sublist : s.openStripEffect.bt.spans.Sublist s.bt.spans := by
  rw [State.openStripEffect_eq]
  exact List.filter_sublist

theorem State.closeStripEffect_spans_sublist : s.closeStripEffect.bt.spans.Sublist s.bt.spans := by
  rw [State.closeStripEffect_eq, State.endRowHold_bt, State.closeReleased_bt]
  exact List.filter_sublist

theorem State.restartEffect_spans : s.restartEffect.bt.spans = [] :=
  congrArg (fun t : State => t.bt.spans) s.restartEffect_blocks

theorem State.restartEffect_spans_sublist : s.restartEffect.bt.spans.Sublist s.bt.spans := by
  rw [State.restartEffect_spans]
  exact List.nil_sublist _

theorem State.pendingEffects_spans_sublist : s.pendingEffects.bt.spans.Sublist s.bt.spans := by
  unfold State.pendingEffects
  split
  · split
    · exact s.restartEffect_spans_sublist
    · split
      · exact s.closeStripEffect_spans_sublist
      · exact .refl _
  · exact .refl _

theorem State.finishOperation_spans_sublist : s.finishOperation.bt.spans.Sublist s.bt.spans :=
  State.pendingEffects_spans_sublist { s with mc := { s.mc with port := none } }

theorem State.closeStripTaken_spans_sublist : s.closeStripTaken.bt.spans.Sublist s.bt.spans := by
  unfold State.closeStripTaken
  split
  · exact .refl _
  · exact s.closeStripEffect_spans_sublist

theorem State.restartTaken_spans_sublist : s.restartTaken.bt.spans.Sublist s.bt.spans := by
  unfold State.restartTaken
  split
  · exact .refl _
  · exact s.restartEffect_spans_sublist

end Retired

/-! ## Every effect keeps the order -/

/-- The end of a row classification enters the row's spans in order; what follows it only retires spans (R94, R106). -/
theorem State.SpansOrdered.endClassification {s : State} (h : s.SpansOrdered) (k : Classification) :
    (s.endClassification k).SpansOrdered := by
  have hended : (State.endFrameIfLast k ((s.recordRow k).emptyHalf k)).SpansOrdered := by
    rw [State.recordRow_emptyHalf]
    exact (h.rowEnded k).of_eq (State.endFrameIfLast_spans ..)
  unfold State.endClassification
  dsimp only
  split
  · exact hended.of_sublist (State.pendingEffects_spans_sublist _)
  · exact hended.of_eq (by simp)

theorem State.spansOrdered_kept : KeptByEffects State.SpansOrdered where
  settle _ h := h
  queue _ _ h := h
  tick _ h := h
  abandon _ h := h
  powerOn _ _ := ⟨.nil, nofun⟩
  startup _ h := h
  present _ _ h := h
  offerHeld _ h := h
  complete _ _ h := h
  finish s h := h.of_sublist s.finishOperation_spans_sublist
  grant _ _ h _ := h.of_eq (by simp)
  plainWrite _ _ h := h
  plainRead _ _ h := h.of_eq (by simp)
  bulletinWrite _ _ h := h.of_eq (by simp)
  takenCount _ h := h.of_eq (by simp)
  watchedWord _ h := h.of_eq (by simp)
  unbacked _ _ h := h.of_eq (by simp)
  intakeWrite s w h := h.of_sublist (s.intakeWriteEffect_spans_sublist w)
  wordRead _ _ h := h
  viewRead _ _ h := h.of_eq (by simp)
  wordWritten _ _ h := h
  locate s k h := h.of_sublist (s.endLocate_spans_sublist k)
  classification _ k h := h.endClassification k
  frameEnd s e h _ := h.of_eq (s.completeFrameEnd_spans e)
  load _ h := h.of_eq (by simp)
  closeRejected _ h := h.of_eq (by simp)
  writeRecord _ _ h := h
  closeFull _ h := h.of_eq (by simp)
  closeFrameEnd _ _ h := h.of_eq (by simp)
  report _ _ _ h := h.of_eq (by simp)
  refreshExpires _ h := h.of_eq (by simp)
  retire _ h := h
  timerExpires _ h := h
  takePosted _ h := h
  stageAck _ _ _ _ h := h
  settings _ h _ _ := h
  ring _ h _ _ := h
  openStrip s h _ := h.of_sublist s.takePosted.openStripEffect_spans_sublist
  beginSurvey _ h := h
  relocate _ h := h.of_eq (by simp)
  setFramePlan s h := h.of_sublist (s.retireSlot_spans_sublist _)
  setFrameRelease s h := h.of_sublist (s.retireSlot_spans_sublist _)
  beginCapture _ h := h
  endPass s h := h.of_eq s.endPassEffect_spans
  closeStrip s h := h.of_sublist s.closeStripTaken_spans_sublist
  columns _ h _ := h
  attach _ _ h := h.of_eq (by simp)
  detach _ h := h.of_eq (by simp)
  publish _ h := h.of_eq (by simp)
  clearFault _ h := h
  restart s h := h.of_sublist s.restartTaken_spans_sublist

/-- Settles O9: a row's runs enter the table in their places, and every other effect leaves the table or retires spans
from it. -/
theorem stepKeepsSpansOrdered : Obligations.StepKeepsSpansOrdered :=
  fun _ _ hs he => State.spansOrdered_kept.step hs he

end Sys2Proof.Machine

/-! # The mended view's computation of a pixel (R129 to R146). -/

namespace Sys2Proof.Machine

/-! ## Interpolated and corrected samples -/

/-- A sum of two anchors by weights lies between as many times the lesser and as many times the greater. -/
theorem weighted_sum_bounds (a b i k : Nat) :
    min a b * (i + k) ≤ a * i + b * k ∧ a * i + b * k ≤ max a b * (i + k) := by
  rw [Nat.mul_add, Nat.mul_add]
  exact ⟨Nat.add_le_add (Nat.mul_le_mul_right i (min_le_left a b)) (Nat.mul_le_mul_right k (min_le_right a b)),
    Nat.add_le_add (Nat.mul_le_mul_right i (le_max_left a b)) (Nat.mul_le_mul_right k (le_max_right a b))⟩

/-- The weights `n + 1 − k` and `k` add up to the divisor, and the rounding adds less than the divisor (R136). -/
theorem interpolate_between {n k : Nat} (hk : k ≤ n) (a b : Nat) :
    min a b ≤ interpolate n k a b ∧ interpolate n k a b ≤ max a b := by
  obtain ⟨hlow, hhigh⟩ := weighted_sum_bounds a b (n + 1 - k) k
  rw [show n + 1 - k + k = n + 1 by omega] at hlow hhigh
  constructor
  · exact (Nat.le_div_iff_mul_le n.add_one_pos).mpr (hlow.trans (Nat.le_add_right ..))
  · refine Nat.le_of_lt_succ ((Nat.div_lt_iff_lt_mul n.add_one_pos).mpr ?_)
    rw [Nat.succ_mul]
    omega

/-- A registered IR up to the clear level brightens a sample (R144). -/
theorem le_correctSample {c ir v : Nat} (hi : 1 ≤ ir) (hc : ir ≤ c) (hv : v ≤ 65535) : v ≤ correctSample c ir v :=
  le_min hv ((Nat.le_div_iff_mul_le hi).mpr ((Nat.mul_le_mul_left v hc).trans (Nat.le_add_right ..)))

theorem correctSample_le (c ir v : Nat) : correctSample c ir v ≤ 65535 := min_le_left ..

/-- Settles O31: interpolation weighs the two anchors by parts of one whole, and correction multiplies by at least 1 and
saturates. -/
theorem repairStaysInRange : Obligations.RepairStaysInRange :=
  ⟨fun _ _ a b _ hk => interpolate_between hk a b,
    fun c ir v hi hc hv => ⟨le_correctSample hi hc hv, correctSample_le c ir v⟩⟩

/-! ## The resident row of a band line -/

section Resident
variable {x : Slot} {n line : Nat}

theorem Slot.residentRow_of_unwritten (h : x.newest = none) : x.residentRow line = none := by
  simp only [Slot.residentRow, h]

theorem Slot.residentRow_of_lt (h : x.newest = some n) (hl : n < line) : x.residentRow line = none := by
  simp only [Slot.residentRow, h, if_neg hl.not_ge]

theorem Slot.residentRow_of_le (h : x.newest = some n) (hl : line ≤ n) :
    x.residentRow line = some (n - (n - line) % x.bandLines) := by
  simp only [Slot.residentRow, h, if_pos hl]

end Resident

/-! ## Repair between anchors, and the group of a listed column -/

/-- The four rows of R135, by the presence of anchor A and of anchor B. -/
theorem repairBetween_repairsBetween (m : Memory) (x : Slot) (line col start stop : Nat) :
    RepairsBetween m x line col start stop (repairBetween m x line start stop col) := by
  unfold repairBetween
  refine ⟨fun a b p len k hA hB ha hb hlen hk hp => ?both, fun hA hB => ?onlyB, fun hA hB => ?onlyA,
    fun hA hB => ?none⟩
  case both =>
    subst ha hb hlen hk hp
    simp only [if_neg hA.ne', if_neg hB]
    rfl
  case onlyB => simp only [if_pos hA, if_neg hB]
  case onlyA => simp only [if_neg hA.ne', if_pos hB]
  case none => simp only [if_pos hA, if_pos hB]

section Group
variable {columns : List Nat} {left lo hi c : Nat}

theorem groupStart_eq (hle : lo ≤ c) (hin : ∀ d, lo ≤ d → d < c → left + d ∈ columns)
    (hbefore : 0 < lo → left + (lo - 1) ∉ columns) : groupStart columns left c = lo := by
  induction c with
  | zero => exact (Nat.le_zero.mp hle).symm
  | succ c ih =>
    rw [groupStart]
    rcases Nat.lt_or_eq_of_le hle with hlt | rfl
    · have hlisted := hin c (Nat.le_of_lt_succ hlt) c.lt_succ_self
      rw [if_pos (isListed_iff.mpr hlisted)]
      exact ih (Nat.le_of_lt_succ hlt) fun d hd hdc => hin d hd (hdc.trans c.lt_succ_self)
    · exact if_neg fun hl => hbefore c.succ_pos (isListed_iff.mp hl)

/-- The fuel that remains reaches to the frame's last column, `c + fuel` (R137). -/
theorem groupStop_eq {fuel : Nat} (hle : c ≤ hi) (hfuel : hi ≤ c + fuel)
    (hin : ∀ d, c < d → d ≤ hi → left + d ∈ columns) (hafter : hi < c + fuel → left + (hi + 1) ∉ columns) :
    groupStop columns left fuel c = hi := by
  induction fuel generalizing c with
  | zero => exact le_antisymm hle hfuel
  | succ fuel ih =>
    rw [groupStop]
    rcases Nat.lt_or_eq_of_le hle with hlt | rfl
    · rw [if_pos (isListed_iff.mpr (hin (c + 1) c.lt_succ_self hlt))]
      exact ih hlt (by omega) (fun d hd => hin d (c.lt_succ_self.trans hd)) fun h => hafter (by omega)
    · exact if_neg fun hl => hafter (by omega) (isListed_iff.mp hl)

variable {x : Slot} {col : Nat}

theorem ColumnGroup.groupStart_eq (h : ColumnGroup x columns col lo hi) : groupStart columns x.left col = lo :=
  let ⟨hlo, hhi, _, hlisted, hbefore, _⟩ := h
  Machine.groupStart_eq hlo (fun d hd hdc => hlisted d hd (hdc.le.trans hhi)) hbefore

theorem ColumnGroup.groupStop_eq (h : ColumnGroup x columns col lo hi) :
    groupStop columns x.left (x.width - 1 - col) col = hi :=
  let ⟨hlo, hhi, hwidth, hlisted, _, hafter⟩ := h
  Machine.groupStop_eq hhi (by omega) (fun d hd => hlisted d (hlo.trans hd.le)) fun hlt => hafter (by omega)

theorem ColumnGroup.isListed (h : ColumnGroup x columns col lo hi) : isListed columns x.left col = true :=
  let ⟨hlo, hhi, _, hlisted, _, _⟩ := h
  isListed_iff.mpr (hlisted col hlo hhi)

variable {m : Memory} {line : Nat}

theorem mendColumn_long (h : ColumnGroup x columns col lo hi) (hlong : 4 < hi - lo + 1) :
    mendColumn m x columns line col = ⟨rawPixel m x line col, some unmendedRead⟩ := by
  simp only [mendColumn, h.groupStart_eq, h.groupStop_eq, if_pos hlong]

theorem mendColumn_short (h : ColumnGroup x columns col lo hi) (hshort : hi - lo + 1 ≤ 4) :
    mendColumn m x columns line col = repairBetween m x line lo hi col := by
  simp only [mendColumn, h.groupStart_eq, h.groupStop_eq, if_neg hshort.not_gt]

end Group

/-! ## The class of a pixel at its read -/

section ByClass
variable {m : Memory} {x : Slot} {tDense tFaint line col ir : Nat}
  (hir : ir = (rawPixel m x line (registeredColumn x.dx x.width col)).i)

include hir

theorem mendByClass_dense (hd : transmission ir x.clearLevel < tDense) :
    mendByClass m x tDense tFaint line col = ⟨rawPixel m x line col, some unmendedRead⟩ := by
  subst hir
  simp only [mendByClass, classOfTransmission_dense hd]

theorem mendByClass_clean (hd : tDense ≤ transmission ir x.clearLevel) (hf : tFaint ≤ transmission ir x.clearLevel) :
    mendByClass m x tDense tFaint line col = ⟨rawPixel m x line col, none⟩ := by
  subst hir
  simp only [mendByClass, classOfTransmission_clean hd hf]

theorem mendByClass_faint_denseOnly (hd : tDense ≤ transmission ir x.clearLevel)
    (hf : transmission ir x.clearLevel < tFaint) (hc : x.cleanup = .denseOnly) :
    mendByClass m x tDense tFaint line col = ⟨rawPixel m x line col, none⟩ := by
  subst hir
  simp only [mendByClass, classOfTransmission_faint hd hf, hc]

theorem mendByClass_faint_full (hd : tDense ≤ transmission ir x.clearLevel)
    (hf : transmission ir x.clearLevel < tFaint) (hc : x.cleanup = .full) :
    mendByClass m x tDense tFaint line col = ⟨correctPixel x.clearLevel ir (rawPixel m x line col), none⟩ := by
  subst hir
  simp only [mendByClass, classOfTransmission_faint hd hf, hc]

end ByClass

/-! ## The steps of a computation, in order (R129) -/

section Steps
variable {m : Memory} {w : AccessView} {v : SlotId} {line col y : Nat} {x : Slot}

theorem mend_not_resident (hx : x = w.slots.get v) (hr : x.residentRow line = none) :
    mend m w v line col = ⟨rawPixel m x line col, some earlyRead⟩ := by
  subst hx
  simp only [mend, hr]

theorem mend_unclassified (hx : x = w.slots.get v) (hr : x.residentRow line = some y) (hy : x.classified ≤ y) :
    mend m w v line col = ⟨rawPixel m x line col, some earlyRead⟩ := by
  subst hx
  simp only [mend, hr, if_pos hy]

variable {sp : Span} (hx : x = w.slots.get v) (hr : x.residentRow line = some y) (hy : y < x.classified)

include hx hr hy

theorem mend_wide (hs : spanAt w.spans v y col = some sp) (hwide : sp.wide = true) :
    mend m w v line col = ⟨rawPixel m x line col, some unmendedRead⟩ := by
  subst hx
  simp only [mend, hr, if_neg hy.not_ge, hs, if_pos hwide]

theorem mend_span (hs : spanAt w.spans v y col = some sp) (hwide : sp.wide = false) :
    mend m w v line col = repairBetween m x line sp.start sp.stop col := by
  subst hx
  simp only [mend, hr, if_neg hy.not_ge, hs, hwide, Bool.false_eq_true, if_false]

theorem mend_listed (hs : spanAt w.spans v y col = none) (hl : isListed w.columns x.left col = true) :
    mend m w v line col = mendColumn m x w.columns line col := by
  subst hx
  simp only [mend, hr, if_neg hy.not_ge, hs, if_pos hl]

theorem mend_uncleaned (hs : spanAt w.spans v y col = none) (hl : x.left + col ∉ w.columns)
    (hc : x.cleanup.classifies = false) :
    mend m w v line col = ⟨rawPixel m x line col, none⟩ := by
  subst hx
  simp only [mend, hr, if_neg hy.not_ge, hs, if_neg (mt isListed_iff.mp hl), hc, Bool.false_eq_true, if_false]

theorem mend_byClass (hs : spanAt w.spans v y col = none) (hl : x.left + col ∉ w.columns)
    (hc : x.cleanup.classifies = true) :
    mend m w v line col = mendByClass m x w.tDense w.tFaint line col := by
  subst hx
  simp only [mend, hr, if_neg hy.not_ge, hs, if_neg (mt isListed_iff.mp hl), if_pos hc]

end Steps

/-- Settles O30: the clauses are the steps of R129, each decided by its own lemma, with R135's table for a span and for a
column group alike. -/
theorem mendedPixel : Obligations.MendedPixel := by
  intro m w v line col x hx
  refine ⟨?early, fun n y hn hline hrow hy => ?_⟩
  case early =>
    rintro (hn | ⟨n, hn, hlt⟩ | ⟨n, hn, hle, hclass⟩)
    · exact mend_not_resident hx (Slot.residentRow_of_unwritten hn)
    · exact mend_not_resident hx (Slot.residentRow_of_lt hn hlt)
    · exact mend_unclassified hx (Slot.residentRow_of_le hn hle) hclass
  have hr : x.residentRow line = some y := hrow ▸ Slot.residentRow_of_le hn hline
  refine ⟨fun sp => mend_wide hx hr hy, fun sp hs hwide => ?span, fun hs lo hi hgroup => ?listed,
    fun hs hl => ⟨?off, ?transmitted⟩⟩
  case span =>
    rw [mend_span hx hr hy hs hwide]
    exact repairBetween_repairsBetween ..
  case listed =>
    rw [mend_listed hx hr hy hs hgroup.isListed]
    refine ⟨mendColumn_long hgroup, fun hshort => ?_⟩
    rw [mendColumn_short hgroup hshort]
    exact repairBetween_repairsBetween ..
  case off =>
    exact fun hc => mend_uncleaned hx hr hy hs hl (CleanupState.not_classifies_iff.mpr (List.mem_pair.mpr hc))
  case transmitted =>
    rintro ir t raw hir rfl rfl hc
    rw [mend_byClass hx hr hy hs hl (CleanupState.classifies_iff.mpr (List.mem_pair.mpr hc))]
    exact ⟨mendByClass_dense hir, mendByClass_clean hir, mendByClass_faint_denseOnly hir, mendByClass_faint_full hir⟩

end Sys2Proof.Machine

/-! # The List Writer's request level and operations (R153 to R159, R163). -/

namespace Sys2Proof.Machine

/-! ## The request level -/

section Level
variable {st : Settings} {w : ListWriter}

theorem QueueEntry.any_isMarker_iff {q : List QueueEntry} :
    q.any QueueEntry.isMarker = true ↔ ∃ v, QueueEntry.marker v ∈ q := by
  rw [List.any_eq_true]
  constructor
  · rintro ⟨e, he, hm⟩
    cases e with
    | record r => cases hm
    | marker v => exact ⟨v, he⟩
  · rintro ⟨v, hv⟩
    exact ⟨_, hv, rfl⟩

theorem ListWriter.level_of_idle (h : w.state = .unchained ∨ w.state = .stalled) : w.level st = .none := by
  unfold ListWriter.level
  rcases h with h | h <;> rw [h]

theorem ListWriter.level_of_loading (h : w.state = .loading) :
    w.level st = if st.urgent ≤ w.queue.length then .urgent else .normal := by
  unfold ListWriter.level
  rw [h]

theorem ListWriter.level_of_filling (h : w.state = .filling) :
    w.level st = if st.urgent ≤ w.queue.length then .urgent
      else if st.burst ≤ w.queue.length ∨ ∃ v, QueueEntry.marker v ∈ w.queue then .normal else .none := by
  simp only [ListWriter.level, h, Bool.or_eq_true, decide_eq_true_eq, QueueEntry.any_isMarker_iff]

end Level

/-- Settles O32: by writer state, and in FILLING by the two thresholds and the markers. -/
theorem listWriterLevel : Obligations.ListWriterLevel := by
  refine fun s => ⟨ListWriter.level_of_idle, ListWriter.level_of_loading,
    fun h => ⟨fun hu => ?urgent, fun hu hb => ?normal, fun hu hb hm => ?silent⟩⟩
  all_goals rw [State.listLevel, ListWriter.level_of_filling h]
  case urgent => exact if_pos hu
  case normal => rw [if_neg hu.not_ge, if_pos hb]
  case silent => rw [if_neg hu.not_ge, if_neg (not_or.mpr ⟨hb.not_ge, not_exists.mpr hm⟩)]

/-! ## The end of a writer's operation -/

section Ends
variable {s x : State}

/-- The port is free again (R189). -/
def State.portFreed (s : State) : State := { s with mc := { s.mc with port := none } }

/-- Work that leaves the pending effects alone, none of them pending, ends by freeing the port (R189, R196). -/
theorem State.finishOperation_eq_portFreed (hn : s.NothingPending) (hbt : x.bt = s.bt) :
    x.finishOperation = x.portFreed := by
  obtain ⟨hrestart, hclose⟩ := hn
  exact State.finishOperation_of_nothing_pending (by rw [hbt, hrestart]) (by rw [hbt, hclose])

theorem State.operationEnded_mem (x : State) : x.portFreed.settleRequests.mem = x.mem := rfl

theorem Memory.holds_writeBytes {m : Memory} {a : Nat} {bytes : List Byte} : m.Holds (m.writeBytes a bytes) a bytes :=
  Memory.read_writeBytes m a bytes

variable (hn : s.NothingPending)
include hn

theorem exec_descriptorLoad (hport : s.mc.port = some (.list .load)) :
    exec .descriptorLoad s = .next s.loadDescriptor.portFreed.settleRequests := by
  simp [exec, execDescriptorLoad, hport, occurs, State.finishOperation_eq_portFreed hn]

theorem exec_recordWrite {r : BlemishRecord} (hport : s.mc.port = some (.list (.recordWrite r))) :
    exec .recordWrite s = .next (s.writeRecord r).portFreed.settleRequests := by
  simp [exec, execRecordWrite, hport, occurs, State.finishOperation_eq_portFreed hn (State.writeRecord_bt r s)]

theorem exec_rejectedClose (hport : s.mc.port = some (.list .rejectedClose)) :
    exec .rejectedClose s = .next s.closeRejected.portFreed.settleRequests := by
  simp [exec, execRejectedClose, hport, occurs, State.finishOperation_eq_portFreed hn]

theorem exec_descriptorClose_full (hport : s.mc.port = some (.list .closeFull)) :
    exec .descriptorClose s = .next s.closeFull.portFreed.settleRequests := by
  simp [exec, execDescriptorClose, hport, occurs, State.finishOperation_eq_portFreed hn]

theorem exec_descriptorClose_frameEnd {v : SlotId} (hport : s.mc.port = some (.list (.closeFrameEnd v))) :
    exec .descriptorClose s = .next (s.closeFrameEnd v).portFreed.settleRequests := by
  simp [exec, execDescriptorClose, hport, occurs, State.finishOperation_eq_portFreed hn]

end Ends

/-! ## Loads -/

section Load
variable {s : State} {a size : Nat} {d : DescriptorCopy}

theorem DescriptorCopy.valid_iff : d.valid size = true ↔
    d.buffer % 32 = 0 ∧ d.capacity % 32 = 0 ∧ 64 ≤ d.capacity ∧ d.buffer + d.capacity ≤ size := by
  simp [DescriptorCopy.valid, multipleOf_iff, and_assoc]

/-- The descriptor in memory at an address, as a load copies it (R153). -/
def Memory.descriptorAt (m : Memory) (a : Nat) : DescriptorCopy := ⟨m.read32 a, m.read32 (a + 4), m.read32 (a + 8)⟩

theorem State.loadDescriptor_valid (ha : s.lw.current = some a) (h : (s.mem.descriptorAt a).valid s.mc.size = true) :
    s.loadDescriptor = { s with lw := { s.lw with
      state := .filling, copy := some (s.mem.descriptorAt a), filled := 0, firstSerial := none, lastSerial := none } } := by
  simp only [State.loadDescriptor, ha, Option.getD_some]
  exact if_pos h

theorem State.loadDescriptor_invalid (ha : s.lw.current = some a)
    (h : ¬(s.mem.descriptorAt a).valid s.mc.size = true) :
    s.loadDescriptor = { s with lw := { s.lw with copy := some (s.mem.descriptorAt a), rejectPending := true } } := by
  simp only [State.loadDescriptor, ha, Option.getD_some]
  exact if_neg h

end Load

/-- Settles O35: by the validity of the buffer fields. -/
theorem descriptorLoad : Obligations.DescriptorLoad := by
  rintro s a d hport hn ha rfl
  refine ⟨_, exec_descriptorLoad hn hport, fun hvalid => State.settles_of_eq ?_, fun hinvalid => State.settles_of_eq ?_⟩
  · exact congrArg State.portFreed (State.loadDescriptor_valid ha (DescriptorCopy.valid_iff.mpr hvalid))
  · exact congrArg State.portFreed (State.loadDescriptor_invalid ha (mt DescriptorCopy.valid_iff.mp hinvalid))

/-! ## Records -/

/-- The wide-run part has four entries of 8 bytes, held or zero (R216). -/
theorem wideRunPart_length (runs : List WideRun) : (wideRunPart runs).length = 32 := by
  rw [wideRunPart, List.length_flatMap, List.map_congr_left (g := fun _ => 8)]
  · rfl
  · intro j _
    cases runs[j]? <;> rfl

theorem BlemishRecord.mainPart_length (r : BlemishRecord) : r.mainPart.length = 32 := rfl

/-- A record's bytes are as many as its length says (R152, R216). -/
theorem BlemishRecord.bytes_length (r : BlemishRecord) : r.bytes.length = r.length := by
  rw [BlemishRecord.bytes, List.length_append, r.mainPart_length, BlemishRecord.length]
  split
  · rw [wideRunPart_length]
  · rfl

theorem State.writeRecord_eq {s : State} {r : BlemishRecord} {q : List QueueEntry} {d : DescriptorCopy}
    (hq : s.lw.queue = .record r :: q) (hd : s.lw.copy = some d) :
    s.writeRecord r = { s with
      mem := s.mem.writeBytes (d.buffer + s.lw.filled) r.bytes
      lw := { s.lw with
        queue := q
        filled := s.lw.filled + r.length
        firstSerial := some (s.lw.firstSerial.getD r.serial)
        lastSerial := some r.serial } } := by
  simp only [State.writeRecord, ListWriter.dequeue, hd, hq, Option.map_some, Option.getD_some, List.tail_cons]

/-- Settles O36: the bytes written are the record's, and the writer counts them and the serial. -/
theorem recordWrite : Obligations.RecordWrite := by
  intro s r q d hport hn hq hd
  refine ⟨_, (exec_recordWrite hn hport).trans (by rw [State.writeRecord_eq hq hd]), r.bytes_length,
    Memory.holds_writeBytes, State.settles_of_eq rfl⟩

/-! ## Closes -/

section Close
variable {s : State} {a : Nat} {d : DescriptorCopy}

/-- Bytes 0x0C to 0x1B of the descriptor at `a` are written, and the holding queue is as the close leaves it (R157, R158). -/
def State.descriptorClosed (s : State) (a : Nat) (bytes : List Byte) (q : List QueueEntry) : State :=
  { s with mem := s.mem.writeBytes (a + 0x0C) bytes, lw := { s.lw with queue := q } }

/-- After the close a usable next becomes the current descriptor, still to be loaded (R159). -/
theorem State.descriptorClosed_followNext_usable {bytes : List Byte} {q : List QueueEntry} (hd : s.lw.copy = some d)
    (h0 : d.next ≠ 0) (hm : d.next % 32 = 0) (hs : d.next < s.mc.size) :
    (s.descriptorClosed a bytes q).followNext = { s with
      mem := s.mem.writeBytes (a + 0x0C) bytes
      lw := { s.lw with queue := q, state := .loading, current := some d.next, rejectPending := false } } := by
  simp only [State.followNext, State.descriptorClosed, hd, Option.map_some, Option.getD_some]
  exact if_pos (usableAddress_iff.mpr ⟨h0, hm, hs⟩)

/-- An unusable next stalls the writer (R159). -/
theorem State.descriptorClosed_followNext_unusable {bytes : List Byte} {q : List QueueEntry}
    (ha : s.lw.current = some a) (hd : s.lw.copy = some d)
    (h : d.next = 0 ∨ d.next % 32 ≠ 0 ∨ s.mc.size ≤ d.next) :
    (s.descriptorClosed a bytes q).followNext = (s.descriptorClosed a bytes q).stallOn a d.next := by
  simp only [State.followNext, State.descriptorClosed, ha, hd, Option.map_some, Option.getD_some]
  refine if_neg ?_
  rw [usableAddress_iff]
  omega

/-- The bytes and the queue are variables here, so that no memory is evaluated. -/
theorem State.descriptorClosed_stallOn_portFreed {bytes : List Byte} {q : List QueueEntry} (v : Nat) :
    ((s.descriptorClosed a bytes q).stallOn a v).portFreed
      = State.stage (.listStall a v) { s with
          mem := s.mem.writeBytes (a + 0x0C) bytes
          mc := { s.mc with port := none }
          lw := { s.lw with queue := q, state := .stalled, rejectPending := false } } := rfl

theorem State.closeFull_eq (ha : s.lw.current = some a) :
    s.closeFull = (s.descriptorClosed a (closeBytes s.lw.filled .full none s.lw.firstSerial s.lw.lastSerial)
      s.lw.queue).followNext := by
  rw [State.closeFull, State.writeClose, State.writeCloseBytes, ha]
  rfl

theorem State.closeFrameEnd_eq {v : SlotId} (ha : s.lw.current = some a) :
    s.closeFrameEnd v = (s.descriptorClosed a
      (closeBytes s.lw.filled .frameEnd (some v) s.lw.firstSerial s.lw.lastSerial) s.lw.queue.tail).followNext := by
  rw [State.closeFrameEnd, State.writeClose, State.writeCloseBytes, ha]
  rfl

/-- A REJECTED close follows next but where the descriptor links to itself (R156). -/
theorem State.closeRejected_of_ne (ha : s.lw.current = some a) (hd : s.lw.copy = some d) (h : d.next ≠ a) :
    s.closeRejected = (s.descriptorClosed a (closeBytes 0 .rejected none none none) s.lw.queue).followNext := by
  simp only [State.closeRejected, State.writeCloseBytes, ha, hd, Option.map_some, Option.getD_some]
  exact if_neg h

/-- A REJECTED close stalls on an unusable next, and on a link to itself, usable or not (R156, R159). -/
theorem State.closeRejected_stalls (ha : s.lw.current = some a) (hd : s.lw.copy = some d)
    (h : d.next = 0 ∨ d.next % 32 ≠ 0 ∨ s.mc.size ≤ d.next ∨ d.next = a) :
    s.closeRejected
      = (s.descriptorClosed a (closeBytes 0 .rejected none none none) s.lw.queue).stallOn a d.next := by
  by_cases hself : d.next = a
  · simp only [State.closeRejected, State.writeCloseBytes, ha, hd, Option.map_some, Option.getD_some, hself]
    exact if_pos trivial
  · rw [State.closeRejected_of_ne ha hd hself, State.descriptorClosed_followNext_unusable ha hd (by tauto)]

theorem State.closeRejected_mem (ha : s.lw.current = some a) :
    s.closeRejected.mem = s.mem.writeBytes (a + 0x0C) (closeBytes 0 .rejected none none none) := by
  simp only [State.closeRejected, State.writeCloseBytes, ha, Option.getD_some]
  split <;> simp

/-- The two closes of O37 as one: the bytes of the status and the slot are written, and next is followed. -/
theorem exec_descriptorClose {op : ListOp} {status slot : Byte} {q : List QueueEntry} (hn : s.NothingPending)
    (hport : s.mc.port = some (.list op)) (ha : s.lw.current = some a)
    (hop : op = .closeFull ∧ status = 1 ∧ slot = 0xFF ∧ q = s.lw.queue
      ∨ ∃ v : SlotId, op = .closeFrameEnd v ∧ status = 2 ∧ slot = BitVec.ofNat 8 v.val ∧ q = s.lw.queue.tail) :
    exec .descriptorClose s = .next (State.settleRequests (State.portFreed (State.followNext (s.descriptorClosed a
      (le32 s.lw.filled ++ [status, slot, 0, 0] ++ le32 (s.lw.firstSerial.getD 0) ++ le32 (s.lw.lastSerial.getD 0))
      q)))) := by
  rcases hop with ⟨rfl, rfl, rfl, rfl⟩ | ⟨v, rfl, rfl, rfl, rfl⟩
  · rw [exec_descriptorClose_full hn hport, State.closeFull_eq ha]
    rfl
  · rw [exec_descriptorClose_frameEnd hn hport, State.closeFrameEnd_eq ha]
    rfl

end Close

/-- Settles O37: the bytes of the close, then where next leads. -/
theorem descriptorClose : Obligations.DescriptorClose := by
  rintro s op a next d status slot q hport hn ha hd rfl hop
  refine ⟨_, exec_descriptorClose hn hport ha hop, ?_⟩
  rw [State.operationEnded_mem, State.followNext_mem]
  refine ⟨Memory.holds_writeBytes, fun h0 hm hs => State.settles_of_eq ?_, fun h => State.settles_of_eq ?_⟩
  · rw [State.descriptorClosed_followNext_usable hd h0 hm hs]
    rfl
  · rw [State.descriptorClosed_followNext_unusable ha hd h]
    exact State.descriptorClosed_stallOn_portFreed _

/-- Settles O38: the bytes of the close, then where next leads, a link to itself apart. -/
theorem rejectedClose : Obligations.RejectedClose := by
  rintro s a next d hport hn ha hd rfl
  refine ⟨_, exec_rejectedClose hn hport, ?_⟩
  rw [State.operationEnded_mem, State.closeRejected_mem ha]
  refine ⟨Memory.holds_writeBytes, fun h0 hm hs hself => State.settles_of_eq ?_, fun h => State.settles_of_eq ?_⟩
  · rw [State.closeRejected_of_ne ha hd hself, State.descriptorClosed_followNext_usable hd h0 hm hs]
    rfl
  · rw [State.closeRejected_stalls ha hd h]
    exact State.descriptorClosed_stallOn_portFreed _

end Sys2Proof.Machine

/-! # Every step keeps the unread reports within the ring (R168, R174). -/

namespace Sys2Proof.Machine

/-! ## What leaves the unread reports as they are -/

theorem ReportUnit.SameLine.unread_eq {a b : ReportUnit} (h : a.SameLine b) : b.unread = a.unread := by
  rw [h]
  rfl

section ReportUnit
variable (r : ReportUnit)

@[simp] theorem ReportUnit.raise_unread (mask : BitVec 14) (c : CounterId) (n : Nat) :
    (r.raise mask c n).unread = r.unread := by
  unfold ReportUnit.raise
  split <;> rfl

@[simp] theorem ReportUnit.drop_unread (mask : BitVec 14) : (r.drop mask).unread = r.unread :=
  (ReportUnit.sameLine_drop mask r).unread_eq

@[simp] theorem ReportUnit.drain_unread (mask : BitVec 14) (slots fuel : Nat) :
    (r.drain mask slots fuel).unread = r.unread :=
  (ReportUnit.sameLine_drain mask slots fuel r).unread_eq

@[simp] theorem ReportUnit.acknowledgeRead_unread (st : Settings) (a : Nat) :
    (r.acknowledgeRead st a).unread = r.unread := by
  unfold ReportUnit.acknowledgeRead
  split
  · split <;> rfl
  all_goals rfl

@[simp] theorem ReportUnit.settingsChanged_unread (old st : Settings) :
    (r.settingsChanged old st).unread = r.unread := by
  obtain ⟨attention, timer, ackThrough, h⟩ := ReportUnit.settingsChanged_frame old st r
  rw [h]
  rfl

@[simp] theorem ReportUnit.ringReplaced_unread (mask : BitVec 14) (ack : Report) :
    (r.ringReplaced mask ack).unread = r.unread := by
  unfold ReportUnit.ringReplaced
  dsimp only
  split
  · rfl
  · exact ReportUnit.drop_unread _ mask

end ReportUnit

section Unread
variable (s : State)

@[simp] theorem State.drainRing_unread : s.drainRing.ru.unread = s.ru.unread := ReportUnit.drain_unread ..

@[simp] theorem State.stage_unread (x : Report) : (s.stage x).ru.unread = s.ru.unread :=
  (State.sameLine_stage x s).unread_eq

@[simp] theorem State.stageAck_unread (k : Byte) (o : AckOutcome) (d : Word) :
    (s.stageAck k o d).ru.unread = s.ru.unread := s.stage_unread _

@[simp] theorem State.countBy_unread (c : CounterId) (n : Nat) : (s.countBy c n).ru.unread = s.ru.unread := by
  unfold State.countBy
  dsimp only
  split <;> simp

@[simp] theorem State.count_unread (c : CounterId) : (s.count c).ru.unread = s.ru.unread := s.countBy_unread c 1

@[simp] theorem State.countTimes_unread (c : CounterId) (n : Nat) : (s.countTimes c n).ru.unread = s.ru.unread :=
  (State.sameLine_countTimes c n s).unread_eq

@[simp] theorem State.raiseFault_unread (f : FaultRecord) : (s.raiseFault f).ru.unread = s.ru.unread := by
  unfold State.raiseFault
  split <;> simp

@[simp] theorem State.wordFault_unread (k : FaultKind) (v : Option SlotId) (w : WordItem) :
    (s.wordFault k v w).ru.unread = s.ru.unread := by
  unfold State.wordFault
  (repeat' split) <;> simp

/-! ## The Blemish Tracker -/

@[simp] theorem State.closeBlemishes_unread (a : Nat) (v : SlotId) (c : Bool) (bs : List OpenBlemish) :
    (s.closeBlemishes a v c bs).ru.unread = s.ru.unread := State.countTimes_unread ..

@[simp] theorem State.beginFrameEnd_unread (v : SlotId) : (s.beginFrameEnd v).ru.unread = s.ru.unread := by
  simp [State.beginFrameEnd]

@[simp] theorem State.advance_unread : s.advance.ru.unread = s.ru.unread := by
  unfold State.advance
  (repeat' split) <;> simp

@[simp] theorem State.completeFrameEnd_unread (e : FrameEnd) : (s.completeFrameEnd e).ru.unread = s.ru.unread := by
  simp [State.completeFrameEnd]

@[simp] theorem State.endLocate_unread (k : LocateInputs) : (s.endLocate k).ru.unread = s.ru.unread := by
  simp [State.endLocate, State.forSlots_ru (State.placeFrame k.strip _)]

@[simp] theorem State.endPassState_unread : s.endPassState.ru.unread = s.ru.unread := by
  unfold State.endPassState
  (repeat' split) <;> simp

@[simp] theorem State.recordRow_unread (k : Classification) : (s.recordRow k).ru.unread = s.ru.unread := by
  simp [State.recordRow]

@[simp] theorem State.endFrameIfLast_unread (k : Classification) :
    (State.endFrameIfLast k s).ru.unread = s.ru.unread := by
  unfold State.endFrameIfLast
  (repeat' split) <;> simp

@[simp] theorem State.restartEffect_unread : s.restartEffect.ru.unread = s.ru.unread := by
  rw [ReportUnit.unread, State.restartEffect_produced, State.restartEffect_taken]
  rfl

@[simp] theorem State.closeStripEffect_unread : s.closeStripEffect.ru.unread = s.ru.unread := by
  unfold State.closeStripEffect
  dsimp only
  (repeat' split) <;> simp

@[simp] theorem State.pendingEffects_unread : s.pendingEffects.ru.unread = s.ru.unread := by
  unfold State.pendingEffects
  (repeat' split) <;> simp

@[simp] theorem State.finishOperation_unread : s.finishOperation.ru.unread = s.ru.unread :=
  State.pendingEffects_unread { s with mc := { s.mc with port := none } }

@[simp] theorem State.endClassification_unread (k : Classification) :
    (s.endClassification k).ru.unread = s.ru.unread := by
  unfold State.endClassification
  dsimp only
  (repeat' split) <;> simp

/-! ## The Intake Unit -/

@[simp] theorem State.completeOpenRow_unread : s.completeOpenRow.ru.unread = s.ru.unread := by
  unfold State.completeOpenRow
  dsimp only
  (repeat' split) <;> simp

@[simp] theorem State.completeIfOpen_unread : s.completeIfOpen.ru.unread = s.ru.unread := by
  unfold State.completeIfOpen
  split <;> simp

@[simp] theorem State.openRow_unread (row : Nat) : (s.openRow row).ru.unread = s.ru.unread := by
  simp [State.openRow]

@[simp] theorem State.moveTracker_unread (row : Nat) : (s.moveTracker row).ru.unread = s.ru.unread := by
  unfold State.moveTracker
  dsimp only
  (repeat' split) <;> simp

@[simp] theorem State.settlePixel_unread (row col : Nat) (torn : Bool) (g i : Nat) :
    (s.settlePixel row col torn g i).ru.unread = s.ru.unread := by
  unfold State.settlePixel
  dsimp only
  (repeat' split) <;> simp

@[simp] theorem State.pairWord_unread (p : IntakePlace) (b : Beat) : (s.pairWord p b).ru.unread = s.ru.unread := by
  unfold State.pairWord
  dsimp only
  (repeat' split) <;> simp

@[simp] theorem State.settleOwn_unread (p : IntakePlace) (b : Beat) (q : Option PendingWord) :
    (s.settleOwn p b q).ru.unread = s.ru.unread := by
  unfold State.settleOwn
  (repeat' split) <;> simp

@[simp] theorem State.startSlot_unread (v : SlotId) : (s.startSlot v).ru.unread = s.ru.unread := by
  unfold State.startSlot
  dsimp only
  (repeat' split) <;> simp

@[simp] theorem State.storeCapture_unread (p : IntakePlace) (b : Beat) (late : Bool) :
    (s.storeCapture p b late).ru.unread = s.ru.unread := by
  unfold State.storeCapture
  dsimp only
  (repeat' split) <;> simp

@[simp] theorem State.countLate_unread : s.countLate.ru.unread = s.ru.unread := by
  unfold State.countLate
  (repeat' split) <;> simp

@[simp] theorem State.countOverrun_unread : s.countOverrun.ru.unread = s.ru.unread := by
  unfold State.countOverrun
  (repeat' split) <;> simp

@[simp] theorem State.intakeWord_unread (pass : PassState) (r : StripRecord) (p : IntakePlace) (b : Beat) :
    (s.intakeWord pass r p b).ru.unread = s.ru.unread := by
  unfold State.intakeWord
  dsimp only
  cases pass <;> (repeat' split) <;> simp

@[simp] theorem State.intakeWriteEffect_unread (w : WordItem) : (s.intakeWriteEffect w).ru.unread = s.ru.unread := by
  unfold State.intakeWriteEffect
  dsimp only
  rw [State.wordWritten_ru]
  (repeat' split) <;> simp

@[simp] theorem State.endPassEffect_unread : s.endPassEffect.ru.unread = s.ru.unread := by
  unfold State.endPassEffect
  dsimp only
  (repeat' split) <;> simp

/-! ## The other blocks -/

@[simp] theorem State.stallOn_unread (a v : Nat) : (s.stallOn a v).ru.unread = s.ru.unread := State.stage_unread ..

@[simp] theorem State.followNext_unread : s.followNext.ru.unread = s.ru.unread := by
  unfold State.followNext
  dsimp only
  split <;> simp

@[simp] theorem State.closeRejected_unread : s.closeRejected.ru.unread = s.ru.unread := by
  unfold State.closeRejected
  dsimp only
  split <;> simp

@[simp] theorem State.closeFull_unread : s.closeFull.ru.unread = s.ru.unread := by
  simp [State.closeFull]

@[simp] theorem State.closeFrameEnd_unread (v : SlotId) : (s.closeFrameEnd v).ru.unread = s.ru.unread := by
  simp [State.closeFrameEnd]

@[simp] theorem State.watchedWrite_unread (b : Beat) : (s.watchedWrite b).ru.unread = s.ru.unread := by
  unfold State.watchedWrite
  dsimp only
  (repeat' split) <;> simp

@[simp] theorem State.attachChain_unread (head : Nat) : (s.attachChain head).ru.unread = s.ru.unread := by
  unfold State.attachChain
  split <;> simp

@[simp] theorem State.grant_unread (w : Requester) : (s.grant w).ru.unread = s.ru.unread := by
  cases w with
  | upstream =>
    simp only [State.grant, State.grantUpstream]
    split <;> simp
  | _ => simp [State.grant]

@[simp] theorem State.commandSnoop_unread (offset : Nat) (b : Beat) :
    (s.commandSnoop offset b).ru.unread = s.ru.unread := by
  unfold State.commandSnoop
  (repeat' split) <;> simp

@[simp] theorem State.runCommandUnit_unread : s.runCommandUnit.ru.unread = s.ru.unread := by
  unfold State.runCommandUnit
  (repeat' split) <;> simp

@[simp] theorem State.watchedWordEffect_unread : s.watchedWordEffect.ru.unread = s.ru.unread := by
  unfold State.watchedWordEffect
  split <;> simp

@[simp] theorem State.plainReadEffect_unread (w : WordItem) : (s.plainReadEffect w).ru.unread = s.ru.unread := by
  unfold State.plainReadEffect
  dsimp only
  split <;> simp

@[simp] theorem State.bulletinWriteEffect_unread (w : WordItem) :
    (s.bulletinWriteEffect w).ru.unread = s.ru.unread := by
  simp [State.bulletinWriteEffect]

@[simp] theorem State.unbackedEffect_unread (w : WordItem) : (s.unbackedEffect w).ru.unread = s.ru.unread := by
  unfold State.unbackedEffect
  dsimp only
  split <;> simp

@[simp] theorem State.compute_unread (p : ViewPlace) : (s.compute p).ru.unread = s.ru.unread := by
  unfold State.compute
  dsimp only
  (repeat' split) <;> simp

@[simp] theorem State.viewReadEffect_unread (w : WordItem) : (s.viewReadEffect w).ru.unread = s.ru.unread := by
  unfold State.viewReadEffect
  dsimp only
  (repeat' split) <;> simp

@[simp] theorem State.refreshExpires_unread : s.refreshExpires.ru.unread = s.ru.unread := by
  unfold State.refreshExpires
  dsimp only
  split <;> simp

@[simp] theorem State.closeStripTaken_unread : s.closeStripTaken.ru.unread = s.ru.unread := by
  unfold State.closeStripTaken
  split <;> simp

@[simp] theorem State.restartTaken_unread : s.restartTaken.ru.unread = s.ru.unread := by
  unfold State.restartTaken
  split <;> simp

@[simp] theorem State.publishEffect_unread : s.publishEffect.ru.unread = s.ru.unread := by
  unfold State.publishEffect
  dsimp only
  split
  · exact State.drainRing_unread _
  · simp

end Unread

/-! ## What leaves the standing settings -/

section Standing
variable (s : State)

@[simp] theorem State.pendingEffects_standing : s.pendingEffects.cu.standing = s.cu.standing := by
  unfold State.pendingEffects
  (repeat' split) <;> simp [State.restartEffect_cu, State.closeStripEffect_cu]

@[simp] theorem State.finishOperation_standing : s.finishOperation.cu.standing = s.cu.standing :=
  State.pendingEffects_standing { s with mc := { s.mc with port := none } }

@[simp] theorem State.endClassification_standing (k : Classification) :
    (s.endClassification k).cu.standing = s.cu.standing := by
  unfold State.endClassification
  dsimp only
  (repeat' split) <;> simp

@[simp] theorem State.runCommandUnit_standing : s.runCommandUnit.cu.standing = s.cu.standing := by
  obtain ⟨shadow, posted, h⟩ := s.runCommandUnit_cu
  rw [h]

@[simp] theorem State.bulletinWriteEffect_standing (w : WordItem) :
    (s.bulletinWriteEffect w).cu.standing = s.cu.standing := State.runCommandUnit_standing _

@[simp] theorem State.watchedWordEffect_standing : s.watchedWordEffect.cu.standing = s.cu.standing := by
  obtain ⟨shadow, posted, h⟩ := s.watchedWordEffect_cu
  rw [h]

@[simp] theorem State.closeStripTaken_standing : s.closeStripTaken.cu.standing = s.cu.standing := by
  unfold State.closeStripTaken
  split <;> simp [State.closeStripEffect_cu]

@[simp] theorem State.restartTaken_standing : s.restartTaken.cu.standing = s.cu.standing := by
  unfold State.restartTaken
  split <;> simp [State.restartEffect_cu]

end Standing

/-! ## The ring window -/

/-- The ring window speaks of the slot count and of the unread reports alone. -/
theorem State.RingWindow.of_eq {s t : State} (h : s.RingWindow)
    (hn : t.cu.standing.slotCount = s.cu.standing.slotCount) (hu : t.ru.unread = s.ru.unread) : t.RingWindow := by
  unfold State.RingWindow
  rw [hn, hu]
  exact h

section Window
variable {s : State}

/-- A report written adds one unread report (R171). -/
theorem ReportUnit.reportWritten_unread {st : Settings} {x : Report} {r : ReportUnit} (h : r.unread < 2 ^ 32 - 1) :
    (r.reportWritten st x).unread = r.unread + 1 := by
  have hline : (r.reportWritten st x).unread = (r.produced + 1 - r.taken).toNat := by
    unfold ReportUnit.reportWritten ReportUnit.testCount
    dsimp only
    (repeat' split) <;> rfl
  rw [hline]
  unfold ReportUnit.unread at *
  bv_omega

/-- An accepted taken count reaches the line and the timer besides (R174, R175, R177). -/
theorem ReportUnit.takenAccepted_frame (st : Settings) (c : Word) (r : ReportUnit) :
    ∃ attention timer, r.takenAccepted st c = { r with taken := c, attention := attention, timer := timer } := by
  unfold ReportUnit.takenAccepted ReportUnit.testCount
  dsimp only
  (repeat' split) <;> exact ⟨_, _, rfl⟩

/-- A taken count that is accepted decides what is unread (R174). -/
theorem ReportUnit.takenAccepted_unread (st : Settings) (c : Word) (r : ReportUnit) :
    (r.takenAccepted st c).unread = (r.produced - c).toNat := by
  obtain ⟨attention, timer, h⟩ := r.takenAccepted_frame st c
  rw [h]
  rfl

/-- The report writer writes a report only into a free slot (R171). -/
theorem State.RingWindow.reportOperation (h : s.RingWindow) (entries : List (SlotId × PlanEntry)) (carries : Bool) :
    (s.reportOperation entries carries).RingWindow := by
  obtain ⟨hcount, hunread⟩ := h
  refine ⟨by simpa using hcount, ?_⟩
  rw [State.reportOperation_cu]
  unfold State.reportOperation
  dsimp only
  rw [State.drainRing_unread]
  split
  · split
    · rename_i hwrite
      simp only [State.canWriteReport, Bool.and_eq_true, decide_eq_true_eq] at hwrite
      obtain ⟨-, -, hroom⟩ := hwrite
      refine (ReportUnit.reportWritten_unread ?_).le.trans hroom
      exact hroom.trans_le (hcount.trans (by decide))
    · exact hunread
  · exact hunread

/-- RU accepts a taken count only within the window (R174). -/
theorem State.RingWindow.takenCountEffect (h : s.RingWindow) : s.takenCountEffect.RingWindow := by
  obtain ⟨hcount, hunread⟩ := h
  refine ⟨by simpa using hcount, ?_⟩
  rw [State.takenCountEffect_cu]
  unfold State.takenCountEffect
  dsimp only
  split
  · split
    · rename_i hwindow
      simp only [ReportUnit.takenInWindow, Bool.and_eq_true, decide_eq_true_eq] at hwindow
      rw [State.drainRing_unread, ReportUnit.takenAccepted_unread]
      exact hwindow.2
    · simpa using hunread
  · exact hunread

/-- A good SET_PLAN gives a ring of at most 1024 slots, or keeps the ring (R31, R168). -/
theorem setPlan_slotCount_le {size : Nat} {c : CommandUnit} (h : firstBad (setPlanChecks size c) = none)
    (hold : c.standing.slotCount ≤ 1024) : (setPlanSettings c.shadow c.standing).slotCount ≤ 1024 := by
  have hring : SetPlanFieldGood size c 0x008 := (setPlanChecks_checks size c).firstBad_eq_none.mp h _
  unfold setPlanSettings
  dsimp only
  split
  · rename_i hflag
    exact (by decide : ∀ n ∈ [0, 16, 32, 64, 128, 256, 512, 1024], n ≤ 1024) _ (hring hflag)
  · exact hold

/-- A SET_PLAN without the ring flag keeps the ring (R31). -/
theorem State.RingWindow.applySettings (h : s.RingWindow) (hflag : ringFlag s.cu.shadow = false) :
    s.applySettings.RingWindow :=
  h.of_eq (by simp [State.applySettings, setPlanSettings, hflag]) (ReportUnit.settingsChanged_unread ..)

/-- A new ring is set only while no report is unread (R169). -/
theorem State.RingWindow.applyRing (h : s.RingWindow) (hread : s.ru.produced = s.ru.taken)
    (hgood : firstBad (setPlanChecks s.mc.size s.cu) = none) : s.applyRing.RingWindow := by
  have hunread : s.applyRing.ru.unread = 0 :=
    ((ReportUnit.ringReplaced_unread ..).trans (ReportUnit.settingsChanged_unread ..)).trans
      (ReportUnit.unread_eq_zero.mpr hread)
  exact ⟨setPlan_slotCount_le hgood h.1, hunread.trans_le (Nat.zero_le _)⟩

end Window

/-! ## Every effect keeps the window -/

theorem State.ringWindow_kept : KeptByEffects State.RingWindow where
  settle _ h := h
  queue _ _ h := h
  tick _ h := h
  abandon _ h := h
  powerOn _ _ := by simp [State.RingWindow, State.powerOn, ReportUnit.powerOn, ReportUnit.unread, Settings.powerOn]
  startup _ h := h
  present _ _ h := h
  offerHeld _ h := h
  complete _ _ h := h
  finish _ h := h.of_eq (by simp) (by simp)
  grant _ _ h _ := h.of_eq (by simp) (by simp)
  plainWrite _ _ h := h
  plainRead _ _ h := h.of_eq (by simp) (by simp)
  bulletinWrite _ _ h := h.of_eq (by simp) (by simp)
  takenCount _ h := h.takenCountEffect
  watchedWord _ h := h.of_eq (by simp) (by simp)
  unbacked _ _ h := h.of_eq (by simp) (by simp)
  intakeWrite _ _ h := h.of_eq (by simp) (by simp)
  wordRead _ _ h := h
  viewRead _ _ h := h.of_eq (by simp) (by simp)
  wordWritten _ _ h := h
  locate _ _ h := h.of_eq (by simp) (by simp)
  classification _ _ h := h.of_eq (by simp) (by simp)
  frameEnd _ _ h _ := h.of_eq (by simp) (by simp)
  load _ h := h.of_eq (by simp) (by simp)
  closeRejected _ h := h.of_eq (by simp) (by simp)
  writeRecord _ _ h := h
  closeFull _ h := h.of_eq (by simp) (by simp)
  closeFrameEnd _ _ h := h.of_eq (by simp) (by simp)
  report _ entries carries h := h.reportOperation entries carries
  refreshExpires _ h := h.of_eq (by simp) (by simp)
  retire _ h := h
  timerExpires _ h := h
  takePosted _ h := h
  stageAck _ _ _ _ h := h.of_eq (by simp) (by simp)
  settings _ h hflag _ := State.RingWindow.applySettings (s := State.takePosted _) h hflag
  ring _ h hread hgood := State.RingWindow.applyRing (s := State.takePosted _) h hread hgood
  openStrip _ h _ := h.of_eq (by simp [State.openStripEffect, State.takePosted]) (by simp)
  beginSurvey _ h := h
  relocate _ h := h.of_eq (by simp) (by simp)
  setFramePlan _ h := h
  setFrameRelease _ h := h
  beginCapture _ h := h
  endPass _ h := h.of_eq (by simp) (by simp)
  closeStrip _ h := h.of_eq (by simp) (by simp)
  columns _ h _ := h
  attach _ _ h := h.of_eq (by simp) (by simp)
  detach _ h := h.of_eq (by simp) (by simp)
  publish _ h := h.of_eq (by simp) (by simp)
  clearFault _ h := h
  restart _ h := h.of_eq (by simp) (by simp)

/-- Settles O8: reports are written only into free slots, taken counts are accepted only within the window, a new ring is set only
while nothing is unread, and every other effect leaves the slot count and what is unread. -/
theorem stepKeepsRingWindow : Obligations.StepKeepsRingWindow :=
  fun _ _ hs he => State.ringWindow_kept.step hs he

end Sys2Proof.Machine

/-! # Staging, the counters, the taken count and the attention line (R170 to R181). -/

namespace Sys2Proof.Machine

/-! ## Staging and counting -/

/-- While the ring is not full the ring drops nothing (R172). -/
theorem State.drainRing_of_not_full {s : State} (h : s.ru.ringFull s.cu.standing.slotCount = false) :
    s.drainRing = s :=
  congrArg (fun ru => { s with ru := ru }) (ReportUnit.drain_of_not_full h)

/-- With nothing staged the ring drops nothing (R172). -/
theorem ReportUnit.drain_of_nil {mask : BitVec 14} {slots fuel : Nat} {r : ReportUnit} (h : r.staging = []) :
    r.drain mask slots fuel = r := by
  cases fuel with
  | zero => rfl
  | succ fuel => simp [ReportUnit.drain, h]

/-- A report that joins an empty queue over a full ring is dropped (R172). -/
theorem ReportUnit.drain_push_of_ringFull {mask : BitVec 14} {slots fuel : Nat} {r : ReportUnit} {x : Report}
    (hq : r.staging = []) (hr : r.ringFull slots = true) :
    (r.push x).drain mask slots (fuel + 1) = (r.drop mask).drain mask slots fuel := by
  have hstaged : (r.push x).staging = [x] := by rw [ReportUnit.push, hq, List.nil_append]
  have hfull : (r.push x).ringFull slots = true := hr
  have hpopped : { r.push x with staging := [] } = r := by rw [ReportUnit.push, ← hq]
  simp only [ReportUnit.drain, hstaged, hfull, if_true, hpopped]

/-- A drop of a masked REPORT_DROP sets LOST alone (R172, R180). -/
theorem ReportUnit.drop_masked {mask : BitVec 14} {r : ReportUnit} (h : mask.getLsbD 9 = true) :
    r.drop mask = { r with lost := true } := by
  have hx : r.crosses mask reportDrop 1 = false := ReportUnit.crosses_masked h
  simp only [ReportUnit.drop, hx, Bool.false_eq_true, if_false, ReportUnit.dropLast]
  rw [ReportUnit.raise_masked h]

section Staging
variable {s : State} {x : Report}

/-- With 8 reports staged and a ring not full a further one is dropped (R170). -/
theorem State.stage_of_full (hq : s.ru.staging.length = 8) (hr : s.ringHasRoom) :
    s.stage x = { s with ru := s.ru.drop s.cu.standing.countMask } := by
  have henqueue : s.ru.enqueue s.cu.standing.countMask x = s.ru.drop s.cu.standing.countMask :=
    if_neg (by simp [ReportUnit.hasRoom, hq, Config.stagingCap])
  rw [State.stage, henqueue]
  exact State.drainRing_of_not_full (((ReportUnit.sameLine_drop ..).ringFull_eq _).trans hr)

/-- A report staged alone over a full ring is dropped at once (R172). -/
theorem State.stage_of_ringFull (hq : s.ru.staging = []) (hr : s.ru.ringFull s.cu.standing.slotCount = true)
    (hm : s.cu.standing.countMask.getLsbD 9 = false) (hne : s.ru.counters.get 9 ≠ 49151) :
    s.stage x = { s with ru := { s.ru with
      lost := true, counters := s.ru.counters.set 9 (s.ru.counters.get 9 + 1) } } := by
  have henqueue : s.ru.enqueue s.cu.standing.countMask x = s.ru.push x := if_pos (by rw [ReportUnit.hasRoom, hq]; rfl)
  refine congrArg (fun ru => { s with ru := ru }) ?_
  rw [henqueue, ReportUnit.drain_push_of_ringFull hq hr, ReportUnit.drop_counted hm hne]
  exact ReportUnit.drain_of_nil hq

end Staging

/-- Settles O41: the queue's room, and the ring's. -/
theorem stagingAndDrops : Obligations.StagingAndDrops := by
  intro s x
  have hline := State.sameLine_stage x s
  refine ⟨State.stage_of_room, fun hq hr hm => ?_, fun hq hr hm hne => ?_, State.stage_of_ringFull, ?_⟩
  · rw [State.stage_of_full hq hr, ReportUnit.drop_masked hm]
  · rw [State.stage_of_full hq hr, ReportUnit.drop_counted hm hne]
  · rw [hline]
    exact ⟨rfl, rfl, rfl, rfl⟩

/-- A counter crosses its mark exactly when it is unmasked, below the mark, and raised to it or above (R181). -/
theorem ReportUnit.crosses_iff {mask : BitVec 14} {c : CounterId} {n : Nat} {r : ReportUnit} :
    r.crosses mask c n = true ↔ mask.getLsbD c.val = false ∧ (r.counters.get c).toNat < 49152
      ∧ 49152 ≤ (r.counters.get c).toNat + n := by
  simp [ReportUnit.crosses, Config.counterMark, and_assoc]

/-- A raise that crosses the mark stages a COUNTERS report naming its counter (R181). -/
theorem State.countBy_of_crossing {s : State} {c : CounterId} {n : Nat}
    (h : s.ru.crosses s.cu.standing.countMask c n = true) :
    s.countBy c n = State.stage
      (ReportUnit.countersReport s.cu.standing.countMask (some c) (s.ru.raise s.cu.standing.countMask c n))
      { s with ru := s.ru.raise s.cu.standing.countMask c n } := if_pos h

/-- Settles O42: masked, away from the mark, or crossing it. -/
theorem countersCount : Obligations.CountersCount := by
  refine fun s c n => ⟨fun hm => ?_, fun hm haway => ?_, fun hm hlow hhigh => ?_⟩
  · rw [State.countBy_of_not_crossing (ReportUnit.crosses_masked hm), ReportUnit.raise_masked hm]
  · have hx : s.ru.crosses s.cu.standing.countMask c n = false := by
      rw [Bool.eq_false_iff, Ne, ReportUnit.crosses_iff]
      omega
    rw [State.countBy_of_not_crossing hx, ReportUnit.raise_unmasked hm]
  · rw [State.countBy_of_crossing (ReportUnit.crosses_iff.mpr ⟨hm, hlow, hhigh⟩), ReportUnit.raise_unmasked hm]
    rfl

/-! ## The taken count -/

section Accepted
variable {st : Settings} {c : Word} {r : ReportUnit}

/-- In READ mode an accepted taken count leaves the line (R178). -/
theorem ReportUnit.takenAccepted_read (hm : st.attentionMode = .read) :
    r.takenAccepted st c = { r with taken := c } := by
  simp [ReportUnit.takenAccepted, hm]

/-- A taken count equal to the produced count releases the line and stops the timer (R177). -/
theorem ReportUnit.takenAccepted_all (hm : st.attentionMode = .take) (hc : c = r.produced) :
    r.takenAccepted st c = { r with taken := c, attention := false, timer := none } := by
  have hunread : ReportUnit.unread { r with taken := c } = 0 := ReportUnit.unread_eq_zero.mpr hc.symm
  simp [ReportUnit.takenAccepted, hm, hunread, ReportUnit.release]

/-- A backlog that falls, but not to 0, leaves the line and the timer (R177). -/
theorem ReportUnit.takenAccepted_fewer (hm : st.attentionMode = .take) (hc : c ≠ r.produced)
    (hle : (r.produced - c).toNat ≤ r.unread) : r.takenAccepted st c = { r with taken := c } := by
  have hunread : ReportUnit.unread { r with taken := c } ≠ 0 := ReportUnit.unread_eq_zero.not.mpr (Ne.symm hc)
  have hfewer : ¬r.unread < ReportUnit.unread { r with taken := c } := hle.not_gt
  simp [ReportUnit.takenAccepted, hm, hunread, hfewer]

/-- A raised backlog asserts the line by the count condition and starts the timer when it was 0 (R175, R176). -/
theorem ReportUnit.takenAccepted_more (hm : st.attentionMode = .take) (hlt : r.unread < (r.produced - c).toNat) :
    r.takenAccepted st c = { r with
      taken := c
      attention := r.attention || decide (st.coalesceCount ≤ (r.produced - c).toNat)
      timer := if r.produced = r.taken then (if st.coalesceTime = 0 then none else some 0) else r.timer } := by
  have hmore : r.unread < ReportUnit.unread { r with taken := c } := hlt
  have hunread : ReportUnit.unread { r with taken := c } ≠ 0 := (Nat.zero_le _).trans_lt hmore |>.ne'
  simp only [ReportUnit.takenAccepted, hm, hunread, hmore, if_true, if_false, ReportUnit.testCount_eq]
  by_cases hzero : r.produced = r.taken
  · simp only [ReportUnit.unread_eq_zero, hzero, if_true]
    rfl
  · simp only [ReportUnit.unread_eq_zero, hzero, if_false]
    rfl

end Accepted

section TakenCount
variable {s : State} {a : Access} {rest : List HandOver} {b : Beat}

/-- RU's part in a taken-count write, with the access's next hand-over acted on (R174). -/
theorem execTakenCountWrite_next (ha : s.upstream = some a) (hh : a.handed = .reportUnit :: rest)
    (hb : b = requestBeat a.req (a.served - 1)) :
    exec .takenCountWrite s = .next (State.settleRequests
      (if b.enables = 0xF#4 ∧ (s.ru.produced - b.data).toNat ≤ s.cu.standing.slotCount then
        State.drainRing { s with
          upstream := some { a with handed := rest }, ru := s.ru.takenAccepted s.cu.standing b.data }
      else State.count bulletinReject { s with upstream := some { a with handed := rest } })) := by
  subst hb
  have hcond : s.nextHandOver .reportUnit = true := State.nextHandOver_of_handed ha hh
  simp [exec, execTakenCountWrite, occurs, hcond, State.takenCountEffect, State.wordHanded, State.wordAt,
    State.dropHandOver, ha, hh, Beat.isFull, ReportUnit.takenInWindow]

/-- Over a ring that is not full afterwards, or with no report staged, nothing is dropped (R172). -/
theorem State.drainRing_takenAccepted {u : Option Access} {c : Word}
    (h : s.ru.staging = [] ∨ s.cu.standing.slotCount = 0 ∨ (s.ru.produced - c).toNat < s.cu.standing.slotCount) :
    State.drainRing { s with upstream := u, ru := s.ru.takenAccepted s.cu.standing c }
      = { s with upstream := u, ru := s.ru.takenAccepted s.cu.standing c } := by
  rcases h with hq | hroom
  · obtain ⟨attention, timer, hframe⟩ := s.ru.takenAccepted_frame s.cu.standing c
    refine congrArg (fun ru => { s with upstream := u, ru := ru }) (ReportUnit.drain_of_nil ?_)
    rw [hframe]
    exact hq
  · refine State.drainRing_of_not_full ?_
    simp only [ReportUnit.ringFull, ReportUnit.takenAccepted_unread, Bool.and_eq_false_iff, decide_eq_false_iff_not]
    omega

end TakenCount

/-- Settles O19: rejected, or accepted by the mode and by what the backlog becomes. -/
theorem takenCountWrite : Obligations.TakenCountWrite := by
  intro s a rest b ha hh hb
  refine ⟨_, execTakenCountWrite_next ha hh hb, fun hbad => ?_, fun hfull hin hquiet => ?_⟩
  · rw [if_neg (by rintro ⟨hfull, hin⟩; exact hbad.elim (absurd hfull) hin.not_gt)]
    exact State.settleRequests_settles _
  · rw [if_pos ⟨hfull, hin⟩, State.drainRing_takenAccepted hquiet]
    refine ⟨fun hm => ?_, fun hm hall => ?_, fun hm hsome hle => ?_, fun hm hlt => ?_⟩
    · rw [ReportUnit.takenAccepted_read hm]
      exact State.settleRequests_settles _
    · rw [ReportUnit.takenAccepted_all hm hall]
      exact State.settleRequests_settles _
    · rw [ReportUnit.takenAccepted_fewer hm hsome hle]
      exact State.settleRequests_settles _
    · rw [ReportUnit.takenAccepted_more hm hlt]
      exact State.settleRequests_settles _

/-- In TAKE mode an accepted taken count that leaves a backlog neither releases the line nor stops or restarts a timer that
runs with a backlog (R177). -/
theorem ReportUnit.takenAccepted_backlog {st : Settings} {c : Word} {r : ReportUnit} (hm : st.attentionMode = .take)
    (hc : c ≠ r.produced) :
    (r.attention = true → (r.takenAccepted st c).attention = true)
      ∧ (r.produced ≠ r.taken → (r.takenAccepted st c).timer = r.timer) := by
  rcases le_or_gt (r.produced - c).toNat r.unread with hle | hlt
  · rw [ReportUnit.takenAccepted_fewer hm hc hle]
    exact ⟨id, fun _ => rfl⟩
  · rw [ReportUnit.takenAccepted_more hm hlt]
    exact ⟨fun hline => by simp [hline], fun hbacklog => if_neg hbacklog⟩

/-- Settles O20: the line by what the taken count leaves unread, whatever a full ring then drops; and the reads. -/
theorem takeModeAttention : Obligations.TakeModeAttention := by
  refine fun s hm => ⟨fun a rest b ha hh hb hfull hin => ?_, fun a w ha hw hzone hread => ?_⟩
  · refine ⟨_, execTakenCountWrite_next ha hh hb, ?_⟩
    rw [if_pos ⟨hfull, hin⟩, State.settleRequests_ru]
    have hline : (s.ru.takenAccepted s.cu.standing b.data).SameLine (State.drainRing { s with
        upstream := some { a with handed := rest }, ru := s.ru.takenAccepted s.cu.standing b.data }).ru :=
      ReportUnit.sameLine_drain ..
    rw [hline]
    refine ⟨?_, fun hall => ?_, fun hsome => ReportUnit.takenAccepted_backlog hm hsome⟩
    · obtain ⟨attention, timer, hframe⟩ := s.ru.takenAccepted_frame s.cu.standing b.data
      rw [hframe]
    · rw [ReportUnit.takenAccepted_all hm hall]
      exact ⟨rfl, rfl⟩
  · refine ⟨_, serve_next hw (by rcases hzone with h | h <;> simp [h, hread]), ?_⟩
    rw [State.settleRequests_ru, State.plainReadEffect_eq ha]
    unfold State.ruAfterRead
    split
    · exact ReportUnit.acknowledgeRead_other (.inl hm)
    · rfl

end Sys2Proof.Machine

/-! # A report writer grant, and the timers (R171 to R176, R187, R188). -/

namespace Sys2Proof.Machine

/-! ## The report writer's operation -/

/-- The counted backlog by the mode (R175). -/
theorem ReportUnit.backlog_eq (mode : AttentionMode) (r : ReportUnit) :
    r.backlog mode = (r.produced - match mode with | .take => r.taken | .read => r.ackThrough).toNat := by
  cases mode <;> rfl

/-- The reports that assert the line by their kind (R175). -/
theorem Report.assertsByKind_eq (x : Report) :
    x.assertsByKind = match x with | .listStall .. => true | .fault _ => true | _ => false := by
  cases x <;> rfl

/-- The timer started where `start` says, then the line by the count condition and by kind (R175, R176). -/
theorem ReportUnit.timed_counted_eq {st : Settings} {r : ReportUnit} {n : Nat} {byKind k : Bool}
    (hn : r.backlog st.attentionMode = n) (hk : byKind = k) (start : Prop) [Decidable start] (timer : Option Nat) :
    (let counted := ReportUnit.testCount st (if start then { r with timer := timer } else r)
      if byKind then { counted with attention := true } else counted)
      = { r with
          attention := r.attention || decide (st.coalesceCount ≤ n) || k
          timer := if start then timer else r.timer } := by
  subst hn hk
  have htimed : (if start then { r with timer := timer } else r)
      = { r with timer := if start then timer else r.timer } := by
    split <;> rfl
  rw [htimed, ReportUnit.testCount_eq]
  cases byKind
  · simp only [Bool.or_false, Bool.false_eq_true, if_false]
    rfl
  · simp

/-- What a written report does to the counts, the line and the timer (R171, R175, R176). -/
theorem ReportUnit.reportWritten_eq (st : Settings) (x : Report) (r : ReportUnit) : r.reportWritten st x = { r with
    produced := r.produced + 1
    newest := some (r.produced.toNat % st.slotCount)
    lost := false
    attention := r.attention
      || decide (st.coalesceCount ≤ (r.produced + 1 - match st.attentionMode with
        | .take => r.taken | .read => r.ackThrough).toNat)
      || match x with | .listStall .. => true | .fault _ => true | _ => false
    timer := if r.backlog st.attentionMode = 0 then (if st.coalesceTime = 0 then none else some 0) else r.timer } :=
  ReportUnit.timed_counted_eq (ReportUnit.backlog_eq ..) x.assertsByKind_eq ..

section Grant
variable {s : State} {entries : List (SlotId × PlanEntry)} {carries : Bool} {x : Report} {rest : List Report}

theorem exec_reportWriterGrant (hn : s.NothingPending) (hport : s.mc.port = some (.report entries carries)) :
    exec .reportWriterGrant s = .next (s.reportOperation entries carries).portFreed.settleRequests := by
  simp [exec, execReportWriterGrant, hport, occurs, State.finishOperation_eq_portFreed hn]

/-- A grant that carries no report writes its plan entries alone, the ring not being full (R171). -/
theorem State.reportOperation_entries (hring : s.ru.ringFull s.cu.standing.slotCount = false) :
    s.reportOperation entries false = { s with mem := writePlanEntries s.mc.size entries s.mem } := by
  have hplanned : State.drainRing { s with mem := writePlanEntries s.mc.size entries s.mem }
      = { s with mem := writePlanEntries s.mc.size entries s.mem } := State.drainRing_of_not_full hring
  unfold State.reportOperation
  cases hq : s.ru.staging <;> simpa [hq] using hplanned

/-- Memory after a grant that writes report `x`: the plan entries, the report in its slot and the status block (R171 to R173). -/
def State.memoryReported (s : State) (entries : List (SlotId × PlanEntry)) (x : Report) : Memory :=
  ((writePlanEntries s.mc.size entries s.mem).writeBytes
      (s.cu.standing.ringBase + 32 * (s.ru.produced.toNat % s.cu.standing.slotCount)) (x.bytes s.ru.lost)).writeBytes
    (bulletinBase s.mc.size + 0x180)
    (statusBlock (s.ru.produced + 1) s.iu.pass s.lw.state s.fault.locked s.fl.generation)

/-- A grant that carries a report writes the oldest one, the ring having room (R171). -/
theorem State.reportOperation_report (hq : s.ru.staging = x :: rest) (hslots : s.cu.standing.slotCount ≠ 0)
    (hroom : s.ru.unread < s.cu.standing.slotCount) :
    s.reportOperation entries true = State.drainRing { s with
      mem := s.memoryReported entries x
      ru := ReportUnit.reportWritten s.cu.standing x { s.ru with staging := rest } } := by
  have hwrites : State.canWriteReport { s with mem := writePlanEntries s.mc.size entries s.mem } = true := by
    simp [State.canWriteReport, hq, hslots, hroom]
  simp only [State.reportOperation, hq, hwrites, Bool.true_and, if_true]
  simp only [State.writeReport, hq, List.tail_cons, State.memoryReported, ReportUnit.reportWritten_eq]

/-- The memory and the Report Unit are variables here, so that neither is evaluated. -/
theorem State.drainRing_portFreed (m : Memory) (r : ReportUnit) :
    (State.drainRing { s with mem := m, ru := r }).portFreed
      = State.drainRing { s with mem := m, mc := { s.mc with port := none }, ru := r } := rfl

end Grant

/-- Settles O40: the entries alone, or with them the oldest report and the status block. -/
theorem reportWriterGrant : Obligations.ReportWriterGrant := by
  intro s entries carries base hport hn hbase
  refine ⟨_, exec_reportWriterGrant hn hport, fun hc hring => ?_, fun x rest backlog hc hq hslots hroom hb => ?_⟩
  · subst hc
    rw [State.reportOperation_entries hring]
    exact State.settles_of_eq rfl
  · subst hc hb
    have hblock : bulletinBase s.mc.size = base := by
      have := bulletinBase_add (size := s.mc.size) (by omega)
      omega
    rw [State.operationEnded_mem, State.reportOperation_report hq hslots hroom, State.drainRing_portFreed,
      State.drainRing_mem, State.memoryReported, hblock]
    refine ⟨⟨_, Memory.holds_writeBytes, Memory.holds_writeBytes⟩, State.settles_of_eq ?_⟩
    rw [ReportUnit.reportWritten_eq]
    rfl

/-! ## Refresh and the timers -/

section Timers
variable {s : State}

theorem execRefreshTimerExpiry_next {n : Nat} (h : s.mc.refreshTimer = some n) :
    exec .refreshTimerExpiry s = .next s.refreshExpires.settleRequests := by
  simp [exec, execRefreshTimerExpiry, h, occurs]

/-- Below 8 the debt rises by one (R187). -/
theorem State.refreshExpires_owing (h : s.mc.debt < 8) :
    s.refreshExpires = { s with mc := { s.mc with refreshTimer := some 0, debt := s.mc.debt + 1 } } := if_pos h

/-- At 8 REFRESH_OVERRUN is counted (R187). -/
theorem State.refreshExpires_overrun (h : 8 ≤ s.mc.debt) :
    s.refreshExpires = State.count refreshOverrun { s with mc := { s.mc with refreshTimer := some 0 } } :=
  if_neg h.not_gt

theorem execRefreshOperation_next (hn : s.NothingPending) (hport : s.mc.port = some .refresh) :
    exec .refreshOperation s
      = .next (State.portFreed { s with mc := { s.mc with debt := s.mc.debt - 1 } }).settleRequests := by
  simp [exec, execRefreshOperation, hport, occurs, State.finishOperation_eq_portFreed hn]

theorem execCoalescingTimerExpiry_next {n : Nat} (h : s.ru.timer = some n) :
    exec .coalescingTimerExpiry s
      = .next (State.settleRequests { s with ru := { s.ru with attention := true, timer := none } }) := by
  simp [exec, execCoalescingTimerExpiry, h, occurs, ReportUnit.timerExpires]

end Timers

/-- Settles O43: each timer's expiry and the refresh operation is one effect, the refresh timer's by the debt. -/
theorem timerExpiries : Obligations.TimerExpiries := by
  refine fun s => ⟨fun n hn => ⟨_, execRefreshTimerExpiry_next hn, fun howing => ?_, fun hfull => ?_⟩,
    fun hport hn => ⟨_, execRefreshOperation_next hn hport, State.settles_of_eq rfl⟩,
    fun n hn => ⟨_, execCoalescingTimerExpiry_next hn, State.settles_of_eq rfl⟩⟩
  · exact State.settles_of_eq (State.refreshExpires_owing howing)
  · exact State.settles_of_eq (State.refreshExpires_overrun hfull)

/-- A timer is due after a tick when the ticks it has then run reach its time. -/
def timerDue (limit : Nat) (t : Option Nat) : Prop := ∃ n, t = some n ∧ limit ≤ n + 1

/-- The commands a tick queues: the expiry of each timer that is due (log 4). -/
theorem State.mem_tick_pending {s : State} (h : s.pending = []) (c : Instr) :
    c ∈ s.tick.pending ↔ c = .refreshTimerExpiry ∧ timerDue 78 s.mc.refreshTimer
      ∨ c = .coalescingTimerExpiry ∧ timerDue (s.cu.standing.coalesceTime * 10) s.ru.timer := by
  simp only [State.tick, h, tickTimer, Config.refreshTicks, Config.ticksPerMicro, timerDue]
  cases s.mc.refreshTimer <;> cases s.ru.timer <;> simp [and_comm]

/-- Settles O3: the tick moves the timers, and queues the expiries that are due. -/
theorem idleStepTicksTheTimers : Obligations.IdleStepTicksTheTimers := by
  intro s hidle
  have hstep : step s = .next s.tick := by rw [step, hidle]
  refine ⟨s.tick, hstep, rfl, ?_, ?_, fun c hc => ?_⟩
  · simp [State.mem_tick_pending hidle, timerDue]
  · simp [State.mem_tick_pending hidle, timerDue]
  · exact ((State.mem_tick_pending hidle c).mp hc).imp And.left And.left

end Sys2Proof.Machine

/-! # Every step keeps the greatest sizes of debt, queues and tables (R105, R110, R111, R152, R170, R187). -/

namespace Sys2Proof.Machine

/-! ## The sizes that one operation may raise -/

section Sizes

/-- A closing offers its record only to a queue with room (R118, R152). -/
theorem Listing.close_queue_length {minArea : Nat} {v : SlotId} {generation : Half16} {cut : Bool} {l : Listing}
    (b : OpenBlemish) (h : l.queue.length ≤ 32) : (l.close minArea v generation cut b).queue.length ≤ 32 := by
  unfold Listing.close
  dsimp only
  split
  · exact h
  · split
    · exact h
    · split
      · rename_i hroom
        simpa using hroom
      · exact h

theorem Listing.closeAll_queue_length {minArea : Nat} {v : SlotId} {generation : Half16} {cut : Bool} {l : Listing}
    (bs : List OpenBlemish) (h : l.queue.length ≤ 32) :
    (Listing.closeAll minArea v generation cut bs l).queue.length ≤ 32 := by
  induction bs generalizing l with
  | nil => exact h
  | cons b rest ih => exact ih (Listing.close_queue_length b h)

/-- A run enters the span table only while the table has room (R105, R106). -/
theorem recordRuns_spans_length {lost : Bool} {v : SlotId} {row wMax : Nat} {runs : List Run} {acc : Recording}
    (h : acc.spans.length ≤ 4096) : (recordRuns lost v row wMax runs acc).spans.length ≤ 4096 := by
  induction runs generalizing acc with
  | nil => exact h
  | cons r rest ih =>
    unfold recordRuns
    split
    · exact ih h
    · split
      · exact ih h
      · rename_i hroom
        refine ih ?_
        rw [length_insertSpan]
        exact not_le.mp hroom

/-- The open table within its size, and the runs tracked so far no more than the runs taken, of which the first 256 may be
tracked (R110, R111). -/
structure Tracking.Within (t : Tracking) (taken : Nat) : Prop where
  openTable : t.openTable.length ≤ 64
  current : t.current.length ≤ min taken 256

theorem Tracking.Within.left {t : Tracking} {taken : Nat} (h : t.Within taken) (n : Nat) :
    Tracking.Within { t with untracked := n } (taken + 1) :=
  ⟨h.openTable, h.current.trans (min_le_min_right _ (Nat.le_succ taken))⟩

/-- Run number `taken + 1` adds at most one open blemish, with room for it, and one tracked run (R111 to R115). -/
theorem Tracking.Within.take {t : Tracking} {taken : Nat} (h : t.Within taken) (r : Run) (c : RunContext) :
    (t.take (taken + 1) r c).Within (taken + 1) := by
  obtain ⟨hopen, hcurrent⟩ := h
  by_cases hbeyond : 256 < taken + 1
  · rw [Tracking.take_beyond hbeyond]
    exact Tracking.Within.left ⟨hopen, hcurrent⟩ _
  · have hposition : taken + 1 ≤ 256 := not_lt.mp hbeyond
    have hentered : t.current.length + 1 ≤ min (taken + 1) 256 := by omega
    cases htouched : t.touched r with
    | nil =>
      by_cases hfull : 64 ≤ t.openTable.length
      · rw [Tracking.take_full hposition htouched hfull]
        exact Tracking.Within.left ⟨hopen, hcurrent⟩ _
      · rw [Tracking.take_opens hposition htouched (not_le.mp hfull)]
        exact ⟨by simpa using hfull, by simpa using hentered⟩
    | cons b others =>
      rw [Tracking.take_joins hposition htouched]
      refine ⟨?_, by simpa [rekey] using hentered⟩
      rw [List.length_map]
      exact (List.length_filter_le ..).trans hopen

theorem Tracking.Within.takeAll {t : Tracking} {taken : Nat} (h : t.Within taken) (c : RunContext) (runs : List Run)
    (refused : List Bool) : ∃ n, (Tracking.takeAll c (taken + 1) runs refused t).Within n := by
  induction runs generalizing t taken refused with
  | nil => exact ⟨taken, h⟩
  | cons r rest ih => exact ih (h.take r _) _

end Sizes

/-! ## The staging queue -/

section Staging
variable {r : ReportUnit}

theorem ReportUnit.push_staging_length {x : Report} (h : r.hasRoom = true) : (r.push x).staging.length ≤ 8 := by
  simpa [ReportUnit.push, ReportUnit.hasRoom, Config.stagingCap] using h

@[simp] theorem ReportUnit.acknowledgeRead_staging (st : Settings) (a : Nat) :
    (r.acknowledgeRead st a).staging = r.staging := by
  unfold ReportUnit.acknowledgeRead
  split
  · split <;> rfl
  all_goals rfl

@[simp] theorem ReportUnit.takenAccepted_staging (st : Settings) (c : Word) :
    (r.takenAccepted st c).staging = r.staging := by
  obtain ⟨attention, timer, h⟩ := r.takenAccepted_frame st c
  rw [h]

@[simp] theorem ReportUnit.settingsChanged_staging (old st : Settings) :
    (r.settingsChanged old st).staging = r.staging := by
  obtain ⟨attention, timer, ackThrough, h⟩ := r.settingsChanged_frame old st
  rw [h]

@[simp] theorem ReportUnit.reportWritten_staging (st : Settings) (x : Report) :
    (r.reportWritten st x).staging = r.staging := by
  rw [ReportUnit.reportWritten_eq]

/-- The ACK that goes to the head of the staging queue takes a free place or that of the last report (R169). -/
theorem ReportUnit.ringReplaced_staging_length {mask : BitVec 14} {ack : Report} :
    (r.ringReplaced mask ack).staging.length ≤ 8 := by
  unfold ReportUnit.ringReplaced
  dsimp only
  split
  · rename_i hroom
    simpa [ReportUnit.hasRoom, Config.stagingCap] using hroom
  · refine ReportUnit.drop_staging_length ?_
    simp

end Staging

/-! ## What leaves the sizes, or changes one of them -/

section Blocks
variable {s t : State} (h : s.Bounded)
include h

/-- The other blocks hold nothing that is bounded. -/
theorem State.Bounded.elsewhere {fault : FaultRecord} {upstream : Option Access} {completion : Option Completion}
    {cu : CommandUnit} {iu : IntakeUnit} {fl : FrameLocator} {mem : Memory} {pending : List Instr} :
    State.Bounded ⟨fault, upstream, completion, cu, iu, fl, s.bt, s.lw, s.ru, s.mc, mem, pending⟩ := h

theorem State.Bounded.of_eq (hm : t.mc = s.mc) (hr : t.ru = s.ru) (hl : t.lw = s.lw) (hb : t.bt = s.bt) :
    t.Bounded := by
  unfold State.Bounded
  rw [hm, hr, hl, hb]
  exact h

theorem State.Bounded.of_staging (hr : t.ru.staging.length ≤ 8) (hm : t.mc = s.mc) (hl : t.lw = s.lw)
    (hb : t.bt = s.bt) : t.Bounded := by
  obtain ⟨hdebt, -, hrest⟩ := h
  unfold State.Bounded
  rw [hm, hl, hb]
  exact ⟨hdebt, hr, hrest⟩

theorem State.Bounded.of_queue (hq : t.lw.queue.length ≤ 32) (hm : t.mc = s.mc) (hr : t.ru = s.ru)
    (hb : t.bt = s.bt) : t.Bounded := by
  obtain ⟨hdebt, hstaging, -, htables⟩ := h
  unfold State.Bounded
  rw [hm, hr, hb]
  exact ⟨hdebt, hstaging, hq, htables⟩

theorem State.Bounded.of_spans (hsub : t.bt.spans.Sublist s.bt.spans) (hm : t.mc = s.mc) (hr : t.ru = s.ru)
    (hl : t.lw = s.lw) (ho : t.bt.openTable = s.bt.openTable) (hp : t.bt.previous = s.bt.previous) : t.Bounded := by
  obtain ⟨hdebt, hstaging, hqueue, hspans, hlists⟩ := h
  unfold State.Bounded
  rw [hm, hr, hl, ho, hp]
  exact ⟨hdebt, hstaging, hqueue, hsub.length_le.trans hspans, hlists⟩

/-- Blemish tracking starts afresh: no open blemish and no run of a row before (R99, R119). -/
theorem State.Bounded.untracked {bt : BlemishTracker} (hs : bt.spans = s.bt.spans) (ho : bt.openTable = [])
    (hp : bt.previous = []) : State.Bounded { s with bt := bt } := by
  obtain ⟨hdebt, hstaging, hqueue, hspans, -⟩ := h
  exact ⟨hdebt, hstaging, hqueue, hs ▸ hspans, by simp [ho], by simp [hp]⟩

theorem State.Bounded.staging : s.ru.staging.length ≤ 8 := by
  obtain ⟨-, hstaging, -⟩ := h
  exact hstaging

theorem State.Bounded.queue : s.lw.queue.length ≤ 32 := by
  obtain ⟨-, -, hqueue, -⟩ := h
  exact hqueue

theorem State.Bounded.drainRing : s.drainRing.Bounded :=
  h.of_staging (ReportUnit.drain_staging_length h.staging) rfl rfl rfl

theorem State.Bounded.stage (x : Report) : (s.stage x).Bounded :=
  h.of_staging (State.stage_staging_length h.staging) rfl rfl rfl

theorem State.Bounded.stageAck (k : Byte) (o : AckOutcome) (d : Word) : (s.stageAck k o d).Bounded := h.stage _

theorem State.Bounded.countBy (c : CounterId) (n : Nat) : (s.countBy c n).Bounded := by
  have hraised : State.Bounded { s with ru := s.ru.raise s.cu.standing.countMask c n } :=
    h.of_staging (by simpa using h.staging) rfl rfl rfl
  unfold State.countBy
  dsimp only
  split
  · exact hraised.stage _
  · exact hraised

theorem State.Bounded.count (c : CounterId) : (s.count c).Bounded := h.countBy c 1

theorem State.Bounded.countTimes (c : CounterId) (n : Nat) : (State.countTimes c n s).Bounded := by
  induction n generalizing s with
  | zero => exact h
  | succ n ih => exact ih (h.count c)

theorem State.Bounded.raiseFault (f : FaultRecord) : (s.raiseFault f).Bounded := by
  unfold State.raiseFault
  split
  · exact h.count _
  · exact h.elsewhere.stage _

theorem State.Bounded.wordFault (kind : FaultKind) (v : Option SlotId) (w : WordItem) :
    (s.wordFault kind v w).Bounded := by
  unfold State.wordFault
  split
  · split
    · exact h
    · exact h.elsewhere.raiseFault _
  · exact h

theorem State.Bounded.endRowHold : s.endRowHold.Bounded := h.of_eq (by simp) (by simp) (by simp) (by simp)

end Blocks

/-! ## The Blemish Tracker -/

section Tracker
variable {s : State} (h : s.Bounded)
include h

theorem State.Bounded.closeBlemishes (minArea : Nat) (v : SlotId) (cut : Bool) (bs : List OpenBlemish) :
    (s.closeBlemishes minArea v cut bs).Bounded := by
  obtain ⟨hdebt, hstaging, hqueue, htables⟩ := h
  refine State.Bounded.countTimes ?_ _ _
  exact ⟨hdebt, hstaging, Listing.closeAll_queue_length bs hqueue, htables⟩

theorem State.Bounded.beginFrameEnd (v : SlotId) : (s.beginFrameEnd v).Bounded :=
  (h.closeBlemishes ..).untracked rfl rfl rfl

theorem State.Bounded.advance : s.advance.Bounded := by
  unfold State.advance
  split
  · split
    · split
      · split <;> exact h
      · split
        · exact h.beginFrameEnd _
        · exact h
    · split <;> exact h
  · exact h

theorem State.Bounded.activate (v : SlotId) : (s.activate v).Bounded :=
  State.Bounded.untracked (s := s.setSlot v _) h rfl rfl rfl

theorem State.Bounded.startNext : s.startNext.Bounded := by
  unfold State.startNext
  split
  · exact h.elsewhere.activate _
  · exact h

/-- A frame end completes only once its marker has a place in the holding queue (R120). -/
theorem State.Bounded.completeFrameEnd (e : FrameEnd) (hroom : s.lw.queue.length < 32) :
    (s.completeFrameEnd e).Bounded := by
  have hjoined : State.Bounded { s with lw := { s.lw with queue := s.lw.queue ++ [.marker e.slot] } } :=
    h.of_queue (by simpa using hroom) rfl rfl rfl
  rw [State.completeFrameEnd_eq]
  exact State.Bounded.advance (State.Bounded.startNext (hjoined.stage _))

/-- The row's spans and runs are recorded and followed, its blemishes closed and its events counted (R94, R106 to R118). -/
theorem State.Bounded.rowEnded (k : Classification) : (s.rowEnded k).Bounded := by
  have hcounted : (State.countTimes unlistedBlemish (s.rowListing k).unlisted (s.rowCounted k)).Bounded :=
    ((h.countTimes _ _).countTimes _ _).countTimes _ _
  obtain ⟨hdebt, -, hqueue, hspans, hopen, -⟩ := h
  have hstart : Tracking.Within ⟨s.bt.openTable, s.bt.previous, [], s.bt.nextKey, 0⟩ 0 := ⟨hopen, Nat.zero_le _⟩
  obtain ⟨n, htracked⟩ :=
    hstart.takeAll ⟨k.row, k.width, (s.slot k.slot).height, k.wMax, false⟩ k.runs (s.rowRecording k).refused
  exact ⟨hdebt, hcounted.staging, Listing.closeAll_queue_length _ hqueue, recordRuns_spans_length hspans,
    (List.length_filter_le ..).trans htracked.openTable, htracked.current.trans (min_le_right ..)⟩

theorem State.Bounded.endFrameIfLast (k : Classification) : (State.endFrameIfLast k s).Bounded := by
  unfold State.endFrameIfLast
  split
  · exact h.beginFrameEnd _
  · split
    · exact h.beginFrameEnd _
    · exact h

end Tracker

/-! ## The frame slots, CLOSE_STRIP and RESTART -/

section Slots
variable {s : State} (h : s.Bounded)
include h

theorem State.Bounded.retireSlot (v : SlotId) : (s.retireSlot v).Bounded :=
  h.of_spans (s.retireSlot_spans_sublist v) rfl rfl rfl rfl rfl

theorem State.Bounded.placeFrame (strip : StripRecord) (placed : List (SlotId × LocatedFrame)) (v : SlotId) :
    (s.placeFrame strip placed v).Bounded := by
  unfold State.placeFrame
  split <;> exact h.retireSlot v

theorem State.Bounded.forSlots {f : SlotId → State → State} (hf : ∀ v (x : State), x.Bounded → (f v x).Bounded)
    (l : List SlotId) : (State.forSlots f l s).Bounded := by
  induction l generalizing s with
  | nil => exact h
  | cons v rest ih => exact ih (hf v s h)

theorem State.Bounded.endLocate (k : LocateInputs) : (s.endLocate k).Bounded :=
  (h.forSlots (fun v _ hx => hx.placeFrame _ _ v) _).stage _

theorem State.Bounded.vacateWhere (p : Slot → Bool) : (s.vacateWhere p).Bounded :=
  h.forSlots (f := State.vacateSlot) (fun v _ hx => hx.retireSlot v) _

theorem State.Bounded.openStripEffect : s.openStripEffect.Bounded :=
  h.elsewhere.vacateWhere _

theorem State.Bounded.closeEnded : s.closeEnded.Bounded := by
  unfold State.closeEnded
  split
  · exact h
  · split
    · exact h.beginFrameEnd _
    · exact h

theorem State.Bounded.closeStripEffect : s.closeStripEffect.Bounded := by
  rw [State.closeStripEffect_eq]
  exact State.Bounded.endRowHold (h.closeEnded.vacateWhere _)

theorem State.Bounded.restartEffect : s.restartEffect.Bounded := by
  have hcleared : s.restartCleared.Bounded := by
    obtain ⟨hdebt, -⟩ := h
    refine ⟨hdebt, ?_, Nat.zero_le _, Nat.zero_le _, Nat.zero_le _, Nat.zero_le _⟩
    rw [State.restartCleared, ReportUnit.restarted_frame]
    exact Nat.zero_le _
  rw [State.restartEffect_eq]
  exact (hcleared.stage _).endRowHold

theorem State.Bounded.pendingEffects : s.pendingEffects.Bounded := by
  unfold State.pendingEffects
  split
  · split
    · exact h.restartEffect
    · split
      · exact h.closeStripEffect
      · exact h
  · exact h

theorem State.Bounded.finishOperation : s.finishOperation.Bounded :=
  State.Bounded.pendingEffects (s := { s with mc := { s.mc with port := none } }) h

theorem State.Bounded.closeStripTaken : s.closeStripTaken.Bounded := by
  unfold State.closeStripTaken
  split
  · exact State.Bounded.stageAck (s := { s with bt := { s.bt with closePending := true } }) h _ _ _
  · exact h.closeStripEffect.stageAck _ _ _

theorem State.Bounded.restartTaken : s.restartTaken.Bounded := by
  unfold State.restartTaken
  split
  · exact h
  · exact h.restartEffect

theorem State.Bounded.endClassification (k : Classification) : (s.endClassification k).Bounded := by
  have hended : (State.endFrameIfLast k ((s.recordRow k).emptyHalf k)).Bounded := by
    rw [State.recordRow_emptyHalf]
    exact (h.rowEnded k).endFrameIfLast k
  unfold State.endClassification
  dsimp only
  split
  · exact hended.pendingEffects
  · exact hended.advance.endRowHold

end Slots

/-! ## The Intake Unit -/

section Intake
variable {s : State} (h : s.Bounded)
include h

theorem State.Bounded.beginLocate : s.beginLocate.Bounded := h.of_eq (by simp) (by simp) (by simp) (by simp)

theorem State.Bounded.endPassState : s.endPassState.Bounded := by
  unfold State.endPassState
  cases s.iu.pass with
  | surveying => exact h.elsewhere.beginLocate
  | capturing => exact h.elsewhere.advance
  | stripClosed | stripOpen | locating | planned | draining => exact h

theorem State.Bounded.completeOpenRow : s.completeOpenRow.Bounded := by
  unfold State.completeOpenRow
  dsimp only
  split
  · cases s.iu.pass with
    | surveying =>
      dsimp only
      split
      · exact h.elsewhere.endPassState
      · exact h
    | capturing =>
      dsimp only
      split
      · exact h.elsewhere.advance.endPassState
      · exact h.elsewhere.advance
    | stripClosed | stripOpen | locating | planned | draining => exact h
  · exact h

theorem State.Bounded.completeIfOpen : s.completeIfOpen.Bounded := by
  unfold State.completeIfOpen
  split
  · exact h
  · exact h.completeOpenRow

theorem State.Bounded.skipRows (n : Nat) : (s.skipRows n).Bounded :=
  h.of_eq (by simp) (by simp) (by simp) (by simp)

theorem State.Bounded.openRow (row : Nat) : (s.openRow row).Bounded :=
  h.elsewhere.advance

theorem State.Bounded.moveTracker (row : Nat) : (s.moveTracker row).Bounded := by
  unfold State.moveTracker
  split
  · split
    · exact ((h.skipRows row).count _).openRow row
    · exact (h.skipRows row).openRow row
  · split
    · exact h
    · split
      · exact h.completeIfOpen.openRow row
      · exact ((h.completeIfOpen.skipRows _).count _).openRow row

theorem State.Bounded.settleEffect (row col : Nat) (torn : Bool) (g i : Nat) : (s.settleEffect row col torn g i).Bounded :=
  h.of_eq (by simp) (by simp) (by simp) (by simp)

theorem State.Bounded.settlePixel (row col : Nat) (torn : Bool) (g i : Nat) : (s.settlePixel row col torn g i).Bounded := by
  by_cases hopen : s.iu.tracker.OpenAt row
  · have hsettled : (s.settled row col torn g i).Bounded := by
      unfold State.settled
      dsimp only
      split
      · exact (h.elsewhere.count _).settleEffect ..
      · exact h.elsewhere.settleEffect ..
    rw [State.settlePixel_of_open hopen]
    split
    · exact hsettled.completeOpenRow
    · exact hsettled
  · rw [State.settlePixel_elsewhere hopen]
    exact h

theorem State.Bounded.pairWord (p : IntakePlace) (b : Beat) : (s.pairWord p b).Bounded := by
  unfold State.pairWord
  dsimp only
  split
  · split
    · exact h
    · exact h.settlePixel _ _ _ _ _
  · exact h

theorem State.Bounded.settleOwn (p : IntakePlace) (b : Beat) (q : Option PendingWord) : (s.settleOwn p b q).Bounded := by
  unfold State.settleOwn
  split
  · split
    · split <;> exact h.settlePixel _ _ _ _ _
    · exact h.settlePixel _ _ _ _ _
  · exact h

theorem State.Bounded.startSlot (v : SlotId) : (s.startSlot v).Bounded := by
  have hstarted : (s.slotStarted v).Bounded := by
    unfold State.slotStarted
    dsimp only
    split
    · split
      · exact h.elsewhere.activate v
      · exact h
    · exact h
  rw [State.startSlot_eq]
  split
  · exact hstarted.advance
  · exact hstarted

/-- A stored word retires the spans of rows that lose their band lines, and may start its slot (R51, R52, R108). -/
theorem State.Bounded.storeCapture (p : IntakePlace) (b : Beat) (late : Bool) : (s.storeCapture p b late).Bounded := by
  cases late with
  | true =>
    rw [State.storeCapture_late]
    exact h
  | false =>
    cases hv : routeOf s.fl.slots p.row p.col with
    | none =>
      rw [State.storeCapture_unrouted hv]
      exact h
    | some v =>
      have hstored : (s.wordStored v p b).Bounded := h.of_spans (spansAfter_sublist ..) rfl rfl rfl rfl rfl
      rw [State.storeCapture_routed hv]
      exact hstored.startSlot v

theorem State.Bounded.countLate : s.countLate.Bounded := by
  unfold State.countLate
  split
  · split
    · exact h
    · exact h.elsewhere.count _
  · exact h

theorem State.Bounded.countOverrun : s.countOverrun.Bounded := by
  unfold State.countOverrun
  split
  · split
    · exact h
    · exact h.elsewhere.count _
  · exact h

theorem State.Bounded.intakeWord (pass : PassState) (r : StripRecord) (p : IntakePlace) (beat : Beat) :
    (s.intakeWord pass r p beat).Bounded := by
  have hmoved (b : Beat) (late : Bool) : (if late then (s.pairWord p b).countLate
      else (s.pairWord p b).moveTracker p.row).Bounded := by
    cases late with
    | true => exact (h.pairWord p b).countLate
    | false => exact (h.pairWord p b).moveTracker p.row
  unfold State.intakeWord
  refine State.Bounded.settleOwn ?_ _ _ _
  cases pass with
  | capturing => exact (hmoved ..).storeCapture ..
  | surveying | stripClosed | stripOpen | locating | planned | draining => exact hmoved ..

theorem State.Bounded.intakeWriteEffect (w : WordItem) : (s.intakeWriteEffect w).Bounded := by
  unfold State.intakeWriteEffect
  dsimp only
  split
  · split
    · exact h.countOverrun
    · split
      · exact h
      · exact h.intakeWord _ _ _ _
  · exact h.wordFault _ _ _

theorem State.Bounded.endPassEffect : s.endPassEffect.Bounded := by
  have hended {x : State} (hx : x.Bounded) (hq : x.iu.pairing = none) : x.endPassEffect.Bounded := by
    rw [State.endPassEffect_none hq]
    exact hx.completeIfOpen.endPassState
  cases hq : s.iu.pairing with
  | none => exact hended h hq
  | some q =>
    rw [State.endPassEffect_some hq]
    exact hended (h.settlePixel q.row q.col true 0 0) rfl

end Intake

/-! ## The writers -/

section Writers
variable {s : State} (h : s.Bounded)
include h

theorem State.Bounded.stallOn (address value : Nat) : (s.stallOn address value).Bounded :=
  State.Bounded.stage (s := { s with lw := s.lw.stall }) h _

theorem State.Bounded.followNext : s.followNext.Bounded := by
  unfold State.followNext
  dsimp only
  split
  · exact h
  · exact h.stallOn _ _

theorem State.Bounded.loadDescriptor : s.loadDescriptor.Bounded := by
  unfold State.loadDescriptor
  dsimp only
  split <;> exact h

theorem State.Bounded.closeRejected : s.closeRejected.Bounded := by
  unfold State.closeRejected
  dsimp only
  split
  · exact h.elsewhere.stallOn _ _
  · exact h.elsewhere.followNext

/-- An entry that leaves the holding queue leaves it shorter (R152). -/
theorem State.Bounded.dequeued : State.Bounded { s with lw := s.lw.dequeue } :=
  h.of_queue (s.lw.queue.tail_sublist.length_le.trans h.queue) rfl rfl rfl

theorem State.Bounded.writeRecord (r : BlemishRecord) : (s.writeRecord r).Bounded := h.dequeued

theorem State.Bounded.closeFull : s.closeFull.Bounded := h.elsewhere.followNext

theorem State.Bounded.closeFrameEnd (v : SlotId) : (s.closeFrameEnd v).Bounded := h.dequeued.elsewhere.followNext

theorem State.Bounded.watchedWrite (b : Beat) : (s.watchedWrite b).Bounded := by
  unfold State.watchedWrite
  dsimp only
  split
  · cases s.lw.state with
    | unchained | loading | filling => exact h
    | stalled =>
      dsimp only
      split
      · exact h
      · exact h.stallOn _ _
  · exact h

theorem State.Bounded.attachChain (head : Nat) : (s.attachChain head).Bounded := by
  unfold State.attachChain
  split
  · exact h
  · exact h.raiseFault _

theorem State.Bounded.detachChain : s.detachChain.Bounded := by
  unfold State.detachChain
  cases s.lw.state <;> exact h

/-- A report that is written leaves the staging queue (R171). -/
theorem State.Bounded.reportOperation (entries : List (SlotId × PlanEntry)) (carries : Bool) :
    (s.reportOperation entries carries).Bounded := by
  unfold State.reportOperation
  refine State.Bounded.drainRing ?_
  dsimp only
  split
  · split
    · refine h.of_staging ?_ rfl rfl rfl
      rw [State.writeReport]
      dsimp only
      rw [ReportUnit.reportWritten_staging]
      exact s.ru.staging.tail_sublist.length_le.trans h.staging
    · exact h
  · exact h

end Writers

/-! ## The words of an access -/

section Words
variable {s : State} (h : s.Bounded)
include h

theorem State.Bounded.plainReadEffect (w : WordItem) : (s.plainReadEffect w).Bounded := by
  unfold State.plainReadEffect
  cases w.zone with
  | plain => exact h.of_staging (by simpa using h.staging) rfl rfl rfl
  | bulletin | unbacked | intake | view => exact h

theorem State.Bounded.commandSnoop (offset : Nat) (b : Beat) : (s.commandSnoop offset b).Bounded := by
  unfold State.commandSnoop
  split
  · exact h
  · split
    · split
      · exact h
      · exact h.count _
    · exact h

theorem State.Bounded.runCommandUnit : s.runCommandUnit.Bounded := by
  unfold State.runCommandUnit
  split
  · split
    · exact h.elsewhere.commandSnoop _ _
    · exact h
  · exact h

theorem State.Bounded.bulletinWriteEffect (w : WordItem) : (s.bulletinWriteEffect w).Bounded := h.elsewhere.runCommandUnit

theorem State.Bounded.watchedWordEffect : s.watchedWordEffect.Bounded := by
  unfold State.watchedWordEffect
  split
  · exact (h.elsewhere.watchedWrite _).runCommandUnit
  · exact h

theorem State.Bounded.takenCountEffect : s.takenCountEffect.Bounded := by
  unfold State.takenCountEffect
  split
  · dsimp only
    split
    · exact State.Bounded.drainRing (h.of_staging (by simpa using h.staging) rfl rfl rfl)
    · exact h.elsewhere.count _
  · exact h

theorem State.Bounded.unbackedEffect (w : WordItem) : (s.unbackedEffect w).Bounded := by
  have hfaulted := h.wordFault .unbacked none w
  unfold State.unbackedEffect
  dsimp only
  split <;> exact hfaulted

theorem State.Bounded.countedEvent (event : Option CounterId) : (s.countedEvent event).Bounded := by
  cases event with
  | none => exact h
  | some c => exact h.count c

theorem State.Bounded.compute (p : ViewPlace) : (s.compute p).Bounded := by
  cases ha : s.upstream with
  | none =>
    unfold State.compute
    rw [ha]
    exact h
  | some a =>
    by_cases hk : ∃ k, a.Keeps p k
    · obtain ⟨k, hk⟩ := hk
      rw [State.compute_again ha hk]
      exact h
    · rw [State.compute_first ha (not_exists.mp hk)]
      exact h.countedEvent _

theorem State.Bounded.viewReadEffect (w : WordItem) : (s.viewReadEffect w).Bounded := by
  unfold State.viewReadEffect
  dsimp only
  split
  · exact h.wordFault .viewVacant _ w
  · split
    · exact h
    · exact h.compute _

end Words

/-! ## The arbiter, the timers and the settings -/

section Rest
variable {s : State} (h : s.Bounded)
include h

theorem State.Bounded.grant (w : Requester) : (s.grant w).Bounded := by
  cases w with
  | refresh | reportWriter => exact h
  | upstream =>
    simp only [State.grant, State.grantUpstream]
    split
    · exact h
    · refine State.Bounded.countBy ?_ _ _
      exact h
  | listWriter =>
    simp only [State.grant, State.grantList]
    split <;> exact h

/-- The debt rises only below 8 (R187). -/
theorem State.Bounded.refreshExpires : s.refreshExpires.Bounded := by
  unfold State.refreshExpires
  dsimp only
  split
  · rename_i howing
    obtain ⟨-, hsizes⟩ := h
    exact ⟨howing, hsizes⟩
  · exact State.Bounded.count (s := { s with mc := { s.mc with refreshTimer := some 0 } }) h _

theorem State.Bounded.publishEffect : s.publishEffect.Bounded := by
  unfold State.publishEffect
  dsimp only
  split
  · rename_i hroom
    exact State.Bounded.drainRing (h.of_staging (ReportUnit.push_staging_length hroom) rfl rfl rfl)
  · exact State.Bounded.drainRing (h.of_staging (ReportUnit.drop_staging_length h.staging) rfl rfl rfl)

theorem State.Bounded.applySettings : s.applySettings.Bounded :=
  h.of_staging (by simpa [State.applySettings] using h.staging) rfl rfl rfl

theorem State.Bounded.applyRing : s.applyRing.Bounded :=
  h.of_staging ReportUnit.ringReplaced_staging_length rfl rfl rfl

end Rest

/-! ## Every effect keeps the sizes -/

theorem State.bounded_kept : KeptByEffects State.Bounded where
  settle _ h := h
  queue _ _ h := h
  tick _ h := h
  abandon _ h := h
  powerOn _ _ := by simp [State.Bounded, State.powerOn, MemoryController.powerOn, ReportUnit.powerOn, ListWriter.powerOn,
    BlemishTracker.powerOn]
  startup _ h := h
  present _ _ h := h
  offerHeld _ h := h
  complete _ _ h := h
  finish _ h := h.finishOperation
  grant _ w h _ := h.grant w
  plainWrite _ _ h := h
  plainRead _ w h := h.plainReadEffect w
  bulletinWrite _ w h := h.bulletinWriteEffect w
  takenCount _ h := h.takenCountEffect
  watchedWord _ h := h.watchedWordEffect
  unbacked _ w h := h.unbackedEffect w
  intakeWrite _ w h := h.intakeWriteEffect w
  wordRead _ _ h := h
  viewRead _ w h := h.viewReadEffect w
  wordWritten _ _ h := h
  locate _ k h := h.endLocate k
  classification _ k h := h.endClassification k
  frameEnd _ e h hroom := h.completeFrameEnd e hroom
  load _ h := h.loadDescriptor
  closeRejected _ h := h.closeRejected
  writeRecord _ r h := h.writeRecord r
  closeFull _ h := h.closeFull
  closeFrameEnd _ v h := h.closeFrameEnd v
  report _ entries carries h := h.reportOperation entries carries
  refreshExpires _ h := h.refreshExpires
  retire _ h := ⟨(Nat.sub_le ..).trans h.1, h.2⟩
  timerExpires _ h := h
  takePosted _ h := h
  stageAck _ kind o d h := h.stageAck kind o d
  settings _ h _ _ := h.elsewhere.applySettings
  ring _ h _ _ := h.elsewhere.applyRing
  openStrip _ h _ := h.elsewhere.openStripEffect
  beginSurvey _ h := h
  relocate _ h := h.elsewhere.beginLocate
  setFramePlan _ h := h.retireSlot _
  setFrameRelease _ h := h.retireSlot _
  beginCapture _ h := h
  endPass _ h := h.endPassEffect
  closeStrip _ h := h.closeStripTaken
  columns _ h _ := h
  attach _ head h := h.attachChain head
  detach _ h := h.detachChain
  publish _ h := h.publishEffect
  clearFault _ h := h
  restart _ h := h.restartTaken

/-- Settles O5: what joins a queue or a table, or adds to the debt, finds room first, and every other effect leaves the sizes or
makes them smaller. -/
theorem stepKeepsBounds : Obligations.StepKeepsBounds :=
  fun _ _ hs he => State.bounded_kept.step hs he

end Sys2Proof.Machine

/-! # What a command does to the Memory Controller (R184, R193). -/

namespace Sys2Proof.Machine

/-! ## The Memory Controller after an effect -/

/-- The requests of the writers marked have ceased: their pass-over counts and promotions end (R193). -/
def MemoryController.ceased (report list : Bool) (m : MemoryController) : MemoryController :=
  { m with
    passedReport := if report then 0 else m.passedReport
    promoReport := !report && m.promoReport
    passedList := if list then 0 else m.passedList
    promoList := !list && m.promoList }

/-- The pass-over counts and promotions after a grant to the upstream access with the writers at their levels (R193). -/
def MemoryController.passedOver (report list : RequestLevel) (m : MemoryController) : MemoryController :=
  { m with
    passedReport := (passOver report m.passedReport m.promoReport).1
    promoReport := (passOver report m.passedReport m.promoReport).2
    passedList := (passOver list m.passedList m.promoList).1
    promoList := (passOver list m.passedList m.promoList).2 }

/-- A property of the Memory Controller that survives each thing a command does to it, but for a release of RESET_N: requests
cease, a grant passes writers over, and the phase, the refresh timer, the debt and the port move. -/
structure KeptByController (Q : MemoryController → Prop) : Prop where
  ceased : ∀ m report list, Q m → Q (m.ceased report list)
  passedOver : ∀ m report list, Q m → Q (m.passedOver report list)
  moved : ∀ m phase timer debt port, Q m → Q { m with phase := phase, refreshTimer := timer, debt := debt, port := port }

section Effects
variable (s : State)

theorem State.settleRequests_mc : s.settleRequests.mc
    = s.mc.ceased (decide (s.reportLevel = .none)) (decide (s.listLevel = .none)) := rfl

theorem State.restartEffect_mc : s.restartEffect.mc = s.mc.ceased true true :=
  congrArg State.mc s.restartEffect_blocks

theorem State.grantUpstream_mc :
    s.grantUpstream.mc = { s.mc.passedOver s.reportLevel s.listLevel with port := some .upstream } := by
  unfold State.grantUpstream
  dsimp only
  split
  · rfl
  · exact State.countBy_mc ..

end Effects

/-! ## What every command keeps of the Memory Controller -/

section Kept
variable {Q : MemoryController → Prop} (h : KeptByController Q) {s t : State}
include h

theorem KeptByController.portFreed (hs : Q s.mc) (port : Option PortOp) : Q { s.mc with port := port } :=
  h.moved _ s.mc.phase s.mc.refreshTimer s.mc.debt port hs

theorem KeptByController.occurs {c : Bool} {after : State} (hs : Q s.mc) (ha : Q after.mc)
    (ho : Machine.occurs c after s = .next t) : Q t.mc := by
  rcases occurs_cases ho with ⟨-, rfl⟩ | ⟨-, rfl⟩
  · rw [State.settleRequests_mc]
    exact h.ceased _ _ _ ha
  · exact hs

theorem KeptByController.serve {f : WordItem → Bool} {e : WordItem → State → State} (hs : Q s.mc)
    (he : ∀ w, (e w s).mc = s.mc) (ho : Machine.serve f e s = .next t) : Q t.mc := by
  rcases serve_cases ho with ⟨w, -, -, rfl⟩ | rfl
  · rw [State.settleRequests_mc, he]
    exact h.ceased _ _ _ hs
  · exact hs

theorem KeptByController.post {b : Bool} {kind : Nat} {c : PostChecks} {carry : State → State} (hs : Q s.mc)
    (hc : Q (carry s.takePosted).mc) (ho : Machine.occurs b (s.post kind c carry) s = .next t) : Q t.mc := by
  refine h.occurs hs ?_ ho
  rcases State.post_cases kind c carry s with ⟨o, d, -, he⟩ | ⟨-, he⟩
  · rw [he]
    exact hs
  · rw [he]
    exact hc

theorem KeptByController.restartEffect (hs : Q s.mc) : Q s.restartEffect.mc := by
  rw [State.restartEffect_mc]
  exact h.ceased _ _ _ hs

theorem KeptByController.restartTaken (hs : Q s.mc) : Q s.restartTaken.mc := by
  unfold State.restartTaken
  split
  · exact hs
  · exact h.restartEffect hs

theorem KeptByController.pendingEffects (hs : Q s.mc) : Q s.pendingEffects.mc := by
  unfold State.pendingEffects
  split
  · split
    · exact h.restartEffect hs
    · split
      · simpa using hs
      · exact hs
  · exact hs

theorem KeptByController.finishOperation (hs : Q s.mc) : Q s.finishOperation.mc :=
  h.pendingEffects (s := { s with mc := { s.mc with port := none } }) (h.portFreed hs none)

/-- The work of an operation leaves the controller, and its end frees the port (R189). -/
theorem KeptByController.finished {x : State} (hs : Q s.mc) (hx : x.mc = s.mc) : Q x.finishOperation.mc :=
  h.finishOperation (hx ▸ hs)

theorem KeptByController.endClassification (hs : Q s.mc) (k : Classification) : Q (s.endClassification k).mc := by
  have hended : (State.endFrameIfLast k ((s.recordRow k).emptyHalf k)).mc = s.mc := by simp
  unfold State.endClassification
  dsimp only
  split
  · exact h.pendingEffects (hended.symm ▸ hs)
  · simpa using hs

theorem KeptByController.grant (hs : Q s.mc) (w : Requester) : Q (s.grant w).mc := by
  cases w with
  | refresh => exact h.portFreed hs _
  | reportWriter => exact h.portFreed (s := { s with mc := _ }) (h.ceased _ true false hs) _
  | upstream =>
    rw [State.grant, State.grantUpstream_mc]
    exact h.portFreed (s := { s with mc := _ }) (h.passedOver _ _ _ hs) _
  | listWriter =>
    simp only [State.grant, State.grantList]
    split
    · exact h.portFreed (s := { s with mc := _ }) (h.ceased _ false true hs) _
    · exact hs

theorem KeptByController.refreshExpires (hs : Q s.mc) : Q s.refreshExpires.mc := by
  unfold State.refreshExpires
  dsimp only
  split
  · exact h.moved _ s.mc.phase (some 0) (s.mc.debt + 1) s.mc.port hs
  · rw [State.count_mc]
    exact h.moved _ s.mc.phase (some 0) s.mc.debt s.mc.port hs

theorem KeptByController.accessComplete (hs : Q s.mc) (he : Machine.exec .accessComplete s = .next t) : Q t.mc := by
  simp only [Machine.exec, execAccessComplete] at he
  split at he
  · refine h.occurs hs ?_ he
    split
    · exact h.finished hs rfl
    · exact hs
  · exact h.occurs hs hs he

/-- Every command but a release of RESET_N keeps what survives each thing done to the controller. -/
theorem KeptByController.exec {c : Instr} (hc : ∀ a b, c ≠ .resetNRelease a b) (hs : Q s.mc)
    (he : Machine.exec c s = .next t) : Q t.mc := by
  cases c with
  | resetNRelease a b => exact absurd rfl (hc a b)
  | resetNAssert => cases he; exact h.moved _ .inReset none s.mc.debt none hs
  | sdramStartupEnd => exact h.occurs hs (h.moved _ .running (some 0) s.mc.debt s.mc.port hs) he
  | upstreamAccess req =>
    simp only [Machine.exec, execUpstreamAccess] at he
    split at he
    · exact h.occurs hs (by split <;> exact hs) he
    · cases he
  | accessComplete => exact h.accessComplete hs he
  | grantDecision =>
    simp only [Machine.exec, execGrantDecision] at he
    split at he
    · exact h.occurs hs (h.grant hs _) he
    · exact h.occurs hs hs he
  | plainWrite | plainRead | bulletinWrite | unbackedAccess | intakeWrite | intakeRead | viewRead | viewWrite =>
    exact h.serve hs (fun w => by simp) he
  | takenCountWrite | watchedWordWrite | unknownCommand | coalescingTimerExpiry =>
    exact h.occurs hs (by simpa using hs) he
  | locateEnd =>
    simp only [Machine.exec, execLocateEnd] at he
    split at he
    · exact h.occurs hs (by simpa using hs) he
    · exact h.occurs hs hs he
  | rowClassificationEnd =>
    simp only [Machine.exec, execRowClassificationEnd] at he
    split at he
    · exact h.occurs hs (h.endClassification hs _) he
    · exact h.occurs hs hs he
  | frameEndComplete =>
    simp only [Machine.exec, execFrameEndComplete] at he
    split at he
    · exact h.occurs hs (by simpa using hs) he
    · exact h.occurs hs hs he
  | setPlan | openStrip | beginSurvey | setFramePlan | setFrameRelease | beginCapture | setColumns | chain
  | chainDetach | publishCounters | clearFault | relocate | endPass =>
    exact h.post hs (by simpa [carryDone, carryAccepted] using hs) he
  | setPlanRing | closeStrip | probeSpan => exact h.post hs (by simpa using hs) he
  | restart => exact h.post hs (h.restartTaken hs) he
  | descriptorLoad | rejectedClose => exact h.occurs hs (h.finished hs (by simp)) he
  | recordWrite =>
    simp only [Machine.exec, execRecordWrite] at he
    split at he
    · exact h.occurs hs (h.finished hs (by simp)) he
    · exact h.occurs hs hs he
  | descriptorClose =>
    simp only [Machine.exec, execDescriptorClose] at he
    split at he
    · exact h.occurs hs (h.finished hs (by simp)) he
    · exact h.occurs hs (h.finished hs (by simp)) he
    · exact h.occurs hs hs he
  | reportWriterGrant =>
    simp only [Machine.exec, execReportWriterGrant] at he
    split at he
    · exact h.occurs hs (h.finished hs (by simp)) he
    · exact h.occurs hs hs he
  | refreshTimerExpiry => exact h.occurs hs (h.refreshExpires hs) he
  | refreshOperation =>
    exact h.occurs hs (h.finishOperation (h.moved _ s.mc.phase s.mc.refreshTimer (s.mc.debt - 1) s.mc.port hs)) he

/-- A property that holds after a power-on and survives each thing done to the controller is kept by every step. -/
theorem KeptByController.step (hp : ∀ size, Q (.powerOn size)) (hs : Q s.mc) (he : Machine.step s = .next t) : Q t.mc := by
  unfold Machine.step at he
  split at he
  · cases he
    exact h.moved _ s.mc.phase (tickTimer s.mc.refreshTimer) s.mc.debt s.mc.port hs
  · rename_i c rest _
    by_cases hc : ∃ a b, c = .resetNRelease a b
    · obtain ⟨a, b, rfl⟩ := hc
      cases he
      exact hp _
    · exact h.exec (s := { s with pending := rest }) (fun a b hab => hc ⟨a, b, hab⟩) hs he

end Kept

/-! ## The memory size (R184) -/

theorem MemoryController.size_kept (n : Nat) : KeptByController fun m => m.size = n where
  ceased _ _ _ h := h
  passedOver _ _ _ h := h
  moved _ _ _ _ _ h := h

/-- Settles O12: a release of RESET_N takes the size from the straps, and no other command writes it. -/
theorem memorySizeFixedByStraps : Obligations.MemorySizeFixedByStraps :=
  ⟨fun _ => ⟨_, rfl, rfl⟩, fun _ => ⟨_, rfl, rfl⟩, fun _ => ⟨_, rfl, rfl⟩, fun _ => ⟨_, rfl, rfl⟩,
    fun _ s _ hc he => (MemoryController.size_kept s.mc.size).exec hc rfl he⟩

/-! ## The pass-over counts (R193) -/

/-- A writer's pass-over count runs from 0 to 32, and the writer is promoted exactly at 32 (R193). -/
def PromotionCounted (count : Nat) (promoted : Bool) : Prop := count ≤ 32 ∧ (promoted = true ↔ count = 32)

/-- The pass-over counts and promotions of both writers. -/
def MemoryController.PromotionsCounted (m : MemoryController) : Prop :=
  PromotionCounted m.passedReport m.promoReport ∧ PromotionCounted m.passedList m.promoList

theorem State.promotionsCounted_iff {s : State} : s.PromotionsCounted ↔ s.mc.PromotionsCounted := by
  simp only [State.PromotionsCounted, MemoryController.PromotionsCounted, PromotionCounted, and_assoc]

section Counts
variable {count : Nat} {promoted : Bool}

theorem PromotionCounted.zero : PromotionCounted 0 false := ⟨by decide, by decide⟩

theorem PromotionCounted.ceased (h : PromotionCounted count promoted) (ceased : Bool) :
    PromotionCounted (if ceased then 0 else count) (!ceased && promoted) := by
  cases ceased with
  | true => exact .zero
  | false => exact h

/-- An unpromoted writer stands below 32, so one more pass leaves it at 32 at most, and promoted if it comes there. -/
theorem PromotionCounted.passOver (h : PromotionCounted count promoted) (level : RequestLevel) :
    PromotionCounted (passOver level count promoted).1 (passOver level count promoted).2 := by
  obtain ⟨hle, hiff⟩ := h
  unfold Machine.passOver
  split
  · rename_i hpass
    have hne : count ≠ 32 := fun heq => Bool.false_ne_true (hpass.2 ▸ hiff.mpr heq)
    refine ⟨by dsimp only; omega, ?_⟩
    rw [decide_eq_true_eq]
    dsimp only [Config.passOverLimit]
    omega
  · exact ⟨hle, hiff⟩

end Counts

theorem MemoryController.promotionsCounted_kept : KeptByController MemoryController.PromotionsCounted where
  ceased _ report list h := ⟨h.1.ceased report, h.2.ceased list⟩
  passedOver _ report list h := ⟨h.1.passOver report, h.2.passOver list⟩
  moved _ _ _ _ _ h := h

/-- Settles O6: a grant passes over only a writer below 32, a request that ceases starts again from 0, and nothing else writes
the counts. -/
theorem stepKeepsPromotionsCounted : Obligations.StepKeepsPromotionsCounted := fun _ _ hs he =>
  State.promotionsCounted_iff.mpr (MemoryController.promotionsCounted_kept.step (fun _ => ⟨.zero, .zero⟩)
    (State.promotionsCounted_iff.mp hs) he)

end Sys2Proof.Machine

/-! # A grant decision follows the ranks of the standing requests (R191, R192). -/

namespace Sys2Proof.Machine

/-! ## Ranks -/

/-- The requester that stands at a rank (R192). -/
def Requester.ofRank : Nat → Requester
  | 1 | 7 => .refresh
  | 2 | 5 => .reportWriter
  | 3 | 6 => .listWriter
  | _ => .upstream

/-- What stands at a rank when nothing stands at a higher one (R192). -/
def State.AsksAt (s : State) : Nat → Prop
  | 1 => 6 ≤ s.mc.debt
  | 2 => s.reportLevel = .urgent ∨ s.reportLevel = .normal ∧ s.mc.promoReport = true
  | 3 => s.listLevel = .urgent ∨ s.listLevel = .normal ∧ s.mc.promoList = true
  | 4 => s.upstreamAsks = true
  | 5 => s.reportLevel = .normal
  | 6 => s.listLevel = .normal
  | 7 => 1 ≤ s.mc.debt
  | _ => False

/-- Nothing asks at a rank above `k`. -/
def State.QuietAbove (s : State) (k : Nat) : Prop := ∀ i < k, ¬s.AsksAt i

/-- A requester's rank is the highest that stands. -/
def State.Leads (s : State) (r : Requester) : Prop :=
  ∃ k, s.rankOf r = some k ∧ ∀ r' k', s.rankOf r' = some k' → k ≤ k'

section Ranks
variable {s : State} {r r' : Requester} {k : Nat}

/-- The rank of a standing request names its requester. -/
theorem State.ofRank_rankOf (h : s.rankOf r = some k) : Requester.ofRank k = r := by
  unfold State.rankOf at h
  cases r <;> dsimp only at h <;> (repeat' split at h) <;> cases h <;> rfl

theorem State.rankOf_injective (h : s.rankOf r = some k) (h' : s.rankOf r' = some k) : r = r' :=
  (State.ofRank_rankOf h).symm.trans (State.ofRank_rankOf h')

theorem State.Leads.unique (h : s.Leads r) (h' : s.Leads r') : r = r' := by
  obtain ⟨k, hk, hmin⟩ := h
  obtain ⟨k', hk', hmin'⟩ := h'
  obtain rfl : k = k' := (hmin _ _ hk').antisymm (hmin' _ _ hk)
  exact State.rankOf_injective hk hk'

theorem State.asksAt_of_rankOf (h : s.rankOf r = some k) : s.AsksAt k := by
  unfold State.rankOf at h
  cases r <;> dsimp only at h <;> (repeat' split at h) <;> cases h <;> simp_all [State.AsksAt]

theorem State.quietAbove_one : s.QuietAbove 1 := fun i hi => by
  obtain rfl := Nat.lt_one_iff.mp hi
  exact id

theorem State.QuietAbove.succ (h : s.QuietAbove k) (hk : ¬s.AsksAt k) : s.QuietAbove (k + 1) :=
  Nat.forall_lt_succ_right.mpr ⟨h, hk⟩

/-- What asks at the highest rank is the request that has it: at the normal level a writer is not promoted, as it would ask
above. -/
theorem State.QuietAbove.rankOf_eq (h : s.QuietAbove k) (hk : s.AsksAt k) :
    s.rankOf (Requester.ofRank k) = some k := by
  match k with
  | 1 | 4 => exact if_pos hk
  | 2 | 3 => rcases hk with hk | ⟨hk, hp⟩ <;> simp [State.rankOf, Requester.ofRank, *]
  | 5 =>
    have hp : ¬s.mc.promoReport = true := fun hp => h 2 (by decide) (.inr ⟨hk, hp⟩)
    simp [State.rankOf, Requester.ofRank, show s.reportLevel = .normal from hk, hp]
  | 6 =>
    have hp : ¬s.mc.promoList = true := fun hp => h 3 (by decide) (.inr ⟨hk, hp⟩)
    simp [State.rankOf, Requester.ofRank, show s.listLevel = .normal from hk, hp]
  | 7 => exact (if_neg (h 1 (by decide))).trans (if_pos hk)

theorem State.QuietAbove.leads (h : s.QuietAbove k) (hk : s.AsksAt k) : s.Leads (Requester.ofRank k) :=
  ⟨k, h.rankOf_eq hk, fun _ i hi => not_lt.mp fun hlt => h i hlt (State.asksAt_of_rankOf hi)⟩

theorem State.AsksAt.lt (h : s.AsksAt k) : k < 8 := by
  by_contra hk
  obtain ⟨n, rfl⟩ := Nat.exists_eq_add_of_le' (not_lt.mp hk)
  exact h

/-- With nothing asking at the seven ranks no request stands. -/
theorem State.QuietAbove.rankOf_eq_none (h : s.QuietAbove 8) (r : Requester) : s.rankOf r = none := by
  by_contra hne
  obtain ⟨k, hk⟩ := Option.ne_none_iff_exists'.mp hne
  have hasks := State.asksAt_of_rankOf hk
  exact h k hasks.lt hasks

/-- The arbiter looks from the highest rank down, and the first that asks wins (R192). -/
theorem State.winner_cases (s : State) :
    (∃ r, s.winner = some r ∧ s.Leads r) ∨ s.winner = none ∧ s.QuietAbove 8 := by
  have hq := s.quietAbove_one
  unfold State.winner
  dsimp only
  split
  next h1 => exact .inl ⟨_, rfl, hq.leads h1⟩
  next h1 =>
  replace hq := hq.succ h1
  split
  next h2 => exact .inl ⟨_, rfl, hq.leads h2⟩
  next h2 =>
  replace hq := hq.succ h2
  split
  next h3 => exact .inl ⟨_, rfl, hq.leads h3⟩
  next h3 =>
  replace hq := hq.succ h3
  split
  next h4 => exact .inl ⟨_, rfl, hq.leads h4⟩
  next h4 =>
  replace hq := hq.succ h4
  split
  next h5 => exact .inl ⟨_, rfl, hq.leads h5⟩
  next h5 =>
  replace hq := hq.succ h5
  split
  next h6 => exact .inl ⟨_, rfl, hq.leads h6⟩
  next h6 =>
  replace hq := hq.succ h6
  split
  next h7 => exact .inl ⟨_, rfl, hq.leads h7⟩
  next h7 => exact .inr ⟨rfl, hq.succ h7⟩

theorem State.winner_eq_none (h : ∀ r, s.rankOf r = none) : s.winner = none := by
  rcases s.winner_cases with ⟨r, -, k, hk, -⟩ | ⟨hw, -⟩
  · rw [h r] at hk
    cases hk
  · exact hw

theorem State.Leads.winner_eq (h : s.Leads r) : s.winner = some r := by
  rcases s.winner_cases with ⟨w, hw, hleads⟩ | ⟨-, hquiet⟩
  · rw [hw, h.unique hleads]
  · obtain ⟨k, hk, -⟩ := h
    rw [hquiet.rankOf_eq_none] at hk
    cases hk

end Ranks

/-- Settles O33: the winner is the requester whose rank leads, and its grant takes the port for its operation. -/
theorem grantFollowsRank : Obligations.GrantFollowsRank := by
  intro s hrun hport
  refine ⟨fun _ _ _ => State.rankOf_injective, fun hnone => ?_, fun r k hk hmin => ?_⟩
  · simp [exec, execGrantDecision, State.winner_eq_none hnone, occurs]
  · have hw : s.winner = some r := State.Leads.winner_eq ⟨k, hk, hmin⟩
    refine ⟨_, execGrantDecision_next hw hrun hport, ?_, ?_, ?_, ?_⟩
    · rintro rfl
      exact congrArg (·.port) s.grantUpstream_mc
    · rintro rfl
      rfl
    · rintro rfl op hop
      exact congrArg (·.mc.port) (State.grantList_eq hop)
    · rintro rfl
      rfl

end Sys2Proof.Machine

/-! # A step and the command at the front of the queue (log 4). -/

namespace Sys2Proof.Machine

/-- Settles O1: of the two cases of a step, the queue that holds a command takes the one that runs it. -/
theorem stepRunsFrontCommand : Obligations.StepRunsFrontCommand := by
  intro s c rest hfront
  rw [step, hfront]

end Sys2Proof.Machine
